-- ==== Sys2Proof/Word.lean ====
section
/-! DEFINITION. The word types of the FDX-8840 model: bytes, parameter words and generations (R7, R40, R59). -/

namespace Sys2Proof

/-- A byte of a memory or of a packet. -/
abbrev Byte := BitVec 8

/-- An 8-byte parameter word of a command packet (R59). -/
abbrev Word64 := BitVec 64

/-- A generation number (R40). -/
abbrev Gen := BitVec 16

end Sys2Proof
end

