-- ==== Sys2Proof/Syntax.lean ====
section
/-! DEFINITION. The commands the block takes: packets (R59), where they come from, and one constructor per row of the operation table. -/

namespace Sys2Proof

/-- A command packet (Table 2.1): its header fields and its parameter words. -/
structure Packet where
  opcode : BitVec 16
  flags : BitVec 8
  ver : BitVec 8
  length : BitVec 16
  gen : Gen
  unit : BitVec 32
  seq : BitVec 32
  words : List Word64
  deriving DecidableEq, Repr

/-- Where a packet command comes from: the front of the visible packets of a slice, the secure firmware's port (R639), or the oldest packet that the wall forwarded to this device (R563). -/
inductive Port where
  | slice (inst idx : Nat)
  | sec (p : Packet)
  | forwarded
  deriving DecidableEq, Repr

/-- Who accesses a register (Table 20.1). -/
inductive Requester where
  | pf
  | vf (n : Nat)
  | dispatch
  | mgmt
  | sec
  deriving DecidableEq, Repr

/-- The kinds of unit transition (R42). -/
inductive Transition where
  | reset | update | powerDown
  deriving DecidableEq, Repr

/-- What a sink that was plugged in supports, read over AUX (R266, R273, R485): video, then audio channels, bits and rates. -/
structure Sink where
  formats : List Nat
  bpcs : List Nat
  dsc : Bool
  lanes : Nat
  rate : Nat
  audioChannels : Nat
  audioBits : Nat
  audioRates : List Nat
  deriving DecidableEq, Repr

/-- An RTP packet that matched a receiver's path (R410, R418): its extended sequence number (R422) and timestamp, the marker, whether FCS and checksums passed, a field bit, the samples of its payload as component, column, row and value (audio: channel, index, 0, value), and codestream or ANC bytes. -/
structure RtpPacket where
  seq : Nat
  ts : Nat
  marker : Bool
  ok : Bool
  field : Bool
  samples : List (Nat × Nat × Nat × Nat)
  bytes : List Byte
  deriving DecidableEq, Repr

/-- What a rhizome flit completes (R556): nothing here, a forwarded command with its issuer on the master (R563), a completion for a slice of this device (R565), a beacon with the master's and the deputy's position (R559), the announcement that the link below a position broke or came back (R573), or link control: an acknowledgement or NAK with the next sequence the far end expects (R553). -/
inductive RhzMsg where
  | nothing
  | command (inst slice : Nat) (p : Packet)
  | completion (inst slice seq status r0 r1 r2 jseq : Nat) (durable final : Bool)
  | beacon (master deputy : Nat)
  | link (pos : Nat) (up : Bool)
  | control (nak : Bool) (next : Nat)
  deriving DecidableEq, Repr

/-- The commands of the block: one constructor per row of spec/opcode_table.json. -/
inductive Instr where
  /-- REGISTER_WRITE (R621) -/
  | registerWrite (req : Requester) (off size data : Nat)
  /-- REG64_LOW_READ (R621) -/
  | reg64LowRead (req : Requester) (off : Nat)
  /-- OSU_HEARTBEAT_SEND (R20) -/
  | osuHeartbeatSend
  /-- HEARTBEAT_LOSS (R20) -/
  | heartbeatLoss (frond : Nat)
  /-- LICHEN_FLIT_RECEIVE (R23) -/
  | lichenFlitReceive (toWarden : Bool) (flit : List Byte) (item : Option (BitVec 32 × Gen × BitVec 32))
  /-- LICHEN_ACK (R23) -/
  | lichenAck (toWarden : Bool)
  /-- LICHEN_NAK_RECEIVE (R23) -/
  | lichenNakReceive (toWarden : Bool) (seq : Nat)
  /-- LANE_FAIL (R28) -/
  | laneFail (lane : Nat)
  /-- PACE_SAMPLE (R30) -/
  | paceSample (canvas warden : List Nat)
  /-- OVERLOAD_EXIT (R32) -/
  | overloadExit
  /-- UNIT_DRAIN_START (R42) -/
  | unitDrainStart (unit : BitVec 32) (kind : Transition)
  /-- UNIT_QUIET (R42) -/
  | unitQuiet (unit : BitVec 32)
  /-- DRAIN_LIMIT_EXPIRE (R43) -/
  | drainLimitExpire (unit : BitVec 32)
  /-- GROUP_CREATE (R51) -/
  | groupCreate (port : Port)
  /-- GROUP_MEMBER (R52) -/
  | groupMember (port : Port)
  /-- GROUP_DESTROY (R53) -/
  | groupDestroy (port : Port)
  /-- UNIT_RESET (R54) -/
  | unitReset (port : Port)
  /-- DISPATCH_LOCKSTEP_FAIL (R48) -/
  | dispatchLockstepFail (pair : Nat)
  /-- DOORBELL (R111) -/
  | doorbell (inst idx tail : Nat) (stores : List Host.Cell)
  /-- NOP (R75) -/
  | nop (port : Port)
  /-- NEGOTIATE (R72) -/
  | negotiate (port : Port)
  /-- COMPAT_MAP (R78) -/
  | compatMap (port : Port)
  /-- COMPAT_SURFACE_REGISTER (R77) -/
  | compatSurfaceRegister (port : Port)
  /-- COMPAT_SURFACE_FREE (R77) -/
  | compatSurfaceFree (port : Port)
  /-- COMPAT_SURFACE_COPY (R77) -/
  | compatSurfaceCopy (port : Port)
  /-- COMPAT_SURFACE_PALETTE (R77) -/
  | compatSurfacePalette (port : Port)
  /-- COMPAT_LAYER_COMMIT (R77) -/
  | compatLayerCommit (port : Port)
  /-- COMPAT_LAYER_POST (R77) -/
  | compatLayerPost (port : Port)
  /-- COMPAT_LAYER_REMOVE (R77) -/
  | compatLayerRemove (port : Port)
  /-- COMPAT_OUTPUT_STATUS (R77) -/
  | compatOutputStatus (port : Port)
  /-- COMPAT_AUD_SOURCE_OPEN (R77) -/
  | compatAudSourceOpen (port : Port)
  /-- COMPAT_AUD_SOURCE_CLOSE (R77) -/
  | compatAudSourceClose (port : Port)
  /-- COMPAT_AUD_SINK_GAIN (R77) -/
  | compatAudSinkGain (port : Port)
  /-- COMPAT_JOURNAL_TAIL (R77) -/
  | compatJournalTail (port : Port)
  /-- COMPAT_JOURNAL_SYNC (R77) -/
  | compatJournalSync (port : Port)
  /-- JOURNAL_TAIL (R103) -/
  | journalTail (port : Port)
  /-- JOURNAL_SYNC (R100) -/
  | journalSync (port : Port)
  /-- JOURNAL_EXPORT_BEGIN (R101) -/
  | journalExportBegin (port : Port)
  /-- JOURNAL_EXPORT_READ (R101) -/
  | journalExportRead (port : Port)
  /-- JOURNAL_EXPORT_ACK (R102) -/
  | journalExportAck (port : Port)
  /-- JOURNAL_STATUS (R101) -/
  | journalStatus (port : Port)
  /-- JOURNAL_FLUSH (R93) -/
  | journalFlush
  /-- JOURNAL_RECORD_DURABLE (R93) -/
  | journalRecordDurable
  /-- JOURNAL_SEAL (R90) -/
  | journalSeal
  /-- SEAL_TIMER (R90) -/
  | sealTimer
  /-- JOURNAL_RECOVER (R637) -/
  | journalRecover
  /-- ADMISSION_DECISION (R126) -/
  | admissionDecision
  /-- SLICE_CREATE (R109) -/
  | sliceCreate (port : Port)
  /-- SLICE_DESTROY (R108) -/
  | sliceDestroy (port : Port)
  /-- SLICE_RESET (R140) -/
  | sliceReset (port : Port)
  /-- INSTANCE_RESET (R135) -/
  | instanceReset (port : Port)
  /-- RESET_DONE (R138) -/
  | resetDone (inst : Nat) (slice : Option Nat)
  /-- FUNCTION_LEVEL_RESET (R139) -/
  | functionLevelReset (inst : Nat)
  /-- VF_ENABLE_CLEAR (R139) -/
  | vfEnableClear
  /-- SHARE_SET (R121) -/
  | shareSet (port : Port)
  /-- ADMISSION_STATUS (R131) -/
  | admissionStatus (port : Port)
  /-- DTU_INVALIDATE (R120) -/
  | dtuInvalidate (port : Port)
  /-- STAGE2_SET (R116) -/
  | stage2Set (port : Port)
  /-- MGT_SLICE0_CB_WRITE (R638) -/
  | mgtSlice0CbWrite (value : Nat)
  /-- MGT_MBOX_UP_HEAD_WRITE (R114) -/
  | mgtMboxUpHeadWrite (head : Nat)
  /-- VF_MBOX_SEND (R115) -/
  | vfMboxSend (inst count : Nat)
  /-- MGT_MBOX_REPLY (R115) -/
  | mgtMboxReply (inst count : Nat) (stores : List Host.Cell)
  /-- VF_MBOX_RSP_READ (R628) -/
  | vfMboxRspRead (inst off size : Nat)
  /-- MEMORY_REQUEST (R179) -/
  | memoryRequest (port : Nat) (inst : Option Nat) (slice band : Nat) (write : Bool) (addr : Nat) (data : List Byte) (surface : Option Nat)
  /-- MEM_CFG_GRAIN_WRITE (R146) -/
  | memCfgGrainWrite (req : Requester) (group grain : Nat)
  /-- MEM_CFG_LOCK (R146) -/
  | memCfgLock (req : Requester) (group : Nat)
  /-- MEM_RGN_LOCK (R183) -/
  | memRgnLock (req : Requester) (group : Nat)
  /-- LOCK_BIT_SET (R522) -/
  | lockBitSet (req : Requester) (index : Nat)
  /-- MEM_CORRECTABLE_ERROR (R148) -/
  | memCorrectableError (group channel : Nat)
  /-- MEM_SCRUB (R149) -/
  | memScrub (group : Nat) (bad : List Nat)
  /-- MEM_REFRESH_POLL (R143) -/
  | memRefreshPoll (group rate : Nat)
  /-- SLOT_TABLE_SWAP (R152) -/
  | slotTableSwap (group : Nat)
  /-- SLOT_PRIO_WRITE (R158) -/
  | slotPrioWrite (req : Requester) (group port prio : Nat)
  /-- MEM_SLEEP_ENTER (R161) -/
  | memSleepEnter (group : Nat)
  /-- MEM_SLEEP_EXIT (R161) -/
  | memSleepExit (group : Nat)
  /-- MEM_EXIT_COMPLETE (R161) -/
  | memExitComplete (group : Nat)
  /-- MEM_TRAIN_DONE (R163) -/
  | memTrainDone (group passed : Nat)
  /-- MEM_RETRAIN_DUE (R165) -/
  | memRetrainDue (group : Nat) (moved : Bool)
  /-- RETRAIN_LATE (R166) -/
  | retrainLate (group : Nat)
  /-- MEM_DEMAND_ERROR (R168) -/
  | memDemandError (group cause channel port addr : Nat) (inst : Option Nat) (band : Nat)
  /-- MEM_RECOVER (R178) -/
  | memRecover (req : Requester) (group : Nat)
  /-- MEM_RECOVERED (R178) -/
  | memRecovered (group : Nat) (bad : List Nat) (passed : Nat)
  /-- MIRROR_COPYBACK_DONE (R174) -/
  | mirrorCopybackDone (surf : Nat)
  /-- POOL_SET (R185) -/
  | poolSet (port : Port)
  /-- SURFACE_REGISTER (R186) -/
  | surfaceRegister (port : Port)
  /-- SURFACE_FREE (R209) -/
  | surfaceFree (port : Port)
  /-- SURFACE_COPY (R201) -/
  | surfaceCopy (port : Port)
  /-- SURFACE_MAP (R202) -/
  | surfaceMap (port : Port)
  /-- SURFACE_UNMAP (R202) -/
  | surfaceUnmap (port : Port)
  /-- SURFACE_MIRROR (R200) -/
  | surfaceMirror (port : Port)
  /-- MIRROR_COPY_DONE (R200) -/
  | mirrorCopyDone (work : Nat)
  /-- SURFACE_PALETTE (R189) -/
  | surfacePalette (port : Port)
  /-- SURFACE_GRANT (R199) -/
  | surfaceGrant (port : Port)
  /-- APERTURE_WRITE (R202) -/
  | apertureWrite (inst off : Nat) (bytes : List Byte)
  /-- APERTURE_READ (R202) -/
  | apertureRead (inst off size : Nat)
  /-- SURFACE_REF_RELEASE (R203) -/
  | surfaceRefRelease (surf : Nat)
  /-- LOCK_STATUS_READ (R208) -/
  | lockStatusRead
  /-- LAYER_COMMIT (R214) -/
  | layerCommit (port : Port)
  /-- LAYER_POST (R217) -/
  | layerPost (port : Port)
  /-- LAYER_REMOVE (R218) -/
  | layerRemove (port : Port)
  /-- FROND_APPLY (R216) -/
  | frondApply (port : Port)
  /-- SCALER_COEF_LOAD (R242) -/
  | scalerCoefLoad (port : Port)
  /-- TONE_LOAD (R251) -/
  | toneLoad (port : Port)
  /-- FROND_SET (R228) -/
  | frondSet (port : Port)
  /-- GROUP_LAYER_SET (R254) -/
  | groupLayerSet (port : Port)
  /-- GROUP_LAYER_MEMBER (R255) -/
  | groupLayerMember (port : Port)
  /-- GROUP_LAYER_COMPOSE (R256) -/
  | groupLayerCompose (port : Port)
  /-- GROUP_LAYER_PASS_DONE (R256) -/
  | groupLayerPassDone (work : Nat)
  /-- LATCH_POINT (R222) -/
  | latchPoint (frond : Nat)
  /-- START_OF_ACTIVE_VIDEO (R267) -/
  | startOfActiveVideo (output : Nat)
  /-- LINE_DUE (R260) -/
  | lineDue (frond line : Nat) (missing : List Nat) (cushion : Nat) (wbFull mismatch : Bool)
  /-- WRITEBACK_COMPLETE (R288) -/
  | writebackComplete (frond slot : Nat)
  /-- OUTPUT_PREPARE (R264) -/
  | outputPrepare (port : Port)
  /-- OUTPUT_COMMIT (R280) -/
  | outputCommit (port : Port)
  /-- OUTPUT_CANCEL (R266) -/
  | outputCancel (port : Port)
  /-- OUTPUT_REFRESH (R278) -/
  | outputRefresh (port : Port)
  /-- OUTPUT_GENLOCK (R268) -/
  | outputGenlock (port : Port)
  /-- OUTPUT_STATUS (R643) -/
  | outputStatus (port : Port)
  /-- WRITEBACK_SET (R290) -/
  | writebackSet (port : Port)
  /-- PATROL_STATUS (R303) -/
  | patrolStatus (port : Port)
  /-- FROND_STANDIN (R302) -/
  | frondStandin (port : Port)
  /-- LINK_TRAINING_DONE (R273) -/
  | linkTrainingDone (output : Nat) (trains : List (Nat × Nat))
  /-- HPD_LONG_PULSE (R274) -/
  | hpdLongPulse (output : Nat) (sink : Option Sink)
  /-- HPD_SHORT_PULSE (R274) -/
  | hpdShortPulse (output : Nat) (locked : Bool)
  /-- HOUSE_SYNC_EDGE (R268) -/
  | houseSyncEdge (input : Nat)
  /-- GENLOCK_ACQUIRED (R269) -/
  | genlockAcquired (output : Nat)
  /-- GENLOCK_HOLDOVER (R269) -/
  | genlockHoldover (output : Nat)
  /-- FROND_FLAG (R293) -/
  | frondFlag (frond line stage : Nat) (both : Bool)
  /-- PATROL_NEXT (R296) -/
  | patrolNext
  /-- PATROL_WARMUP_END (R296) -/
  | patrolWarmupEnd
  /-- FROND_BIST_DONE (R301) -/
  | frondBistDone (frond : Nat) (passed : Bool)
  /-- TAG_CREATE (R316) -/
  | tagCreate (port : Port)
  /-- TAG_SET (R317) -/
  | tagSet (port : Port)
  /-- TAG_RETIRE (R318) -/
  | tagRetire (port : Port)
  /-- REFRESH (R312) -/
  | refresh (port : Port)
  /-- TAG_GROUP_SET (R319) -/
  | tagGroupSet (port : Port)
  /-- REGION_CREATE (R320) -/
  | regionCreate (port : Port)
  /-- REGION_BIND (R326) -/
  | regionBind (port : Port)
  /-- REGION_REMOVE (R326) -/
  | regionRemove (port : Port)
  /-- LEDGER_STATUS (R340) -/
  | ledgerStatus (port : Port)
  /-- STREAM_REFRESH (R310) -/
  | streamRefresh (tag receiver stamp : Nat) (moving : Bool)
  /-- SEQ_REFRESH (R310) -/
  | seqRefresh (tag region stamp : Nat)
  /-- FREEZE_REPORT (R307) -/
  | freezeReport (receiver : Nat)
  /-- LEDGER_WHEEL_TICK (R308) -/
  | ledgerWheelTick
  /-- ER_UPDATE (R321) -/
  | erUpdate (region : Nat)
  /-- VEIL_DECISION (R330) -/
  | veilDecision (region : Nat)
  /-- LED_VEIL_LOCK (R340) -/
  | ledVeilLock (req : Requester)
  /-- HOST_LINK (R342) -/
  | hostLink (up : Bool)
  /-- SIG_REGION_SET (R349) -/
  | sigRegionSet (port : Port)
  /-- SIG_REGION_REMOVE (R349) -/
  | sigRegionRemove (port : Port)
  /-- SIG_EXPECT (R351) -/
  | sigExpect (port : Port)
  /-- SIG_CLEAR (R359) -/
  | sigClear (port : Port)
  /-- SIG_STATUS (R360) -/
  | sigStatus (port : Port)
  /-- SIG_RESULT (R355) -/
  | sigResult (region : Nat)
  /-- CHK_SCAN (R362) -/
  | chkScan (port : Port)
  /-- CHK_CANCEL (R365) -/
  | chkCancel (port : Port)
  /-- CHK_STATUS (R365) -/
  | chkStatus (port : Port)
  /-- CHK_SCAN_DONE (R363) -/
  | chkScanDone (engine : Nat)
  /-- CHK_PERIODIC_RUN (R365) -/
  | chkPeriodicRun (engine : Nat)
  /-- RASTER_JOB (R371) -/
  | rasterJob (port : Port)
  /-- RASTER_JOB_START (R373) -/
  | rasterJobStart
  /-- RASTER_CANCEL (R376) -/
  | rasterCancel (port : Port)
  /-- RASTER_COMBINER_LOAD (R393) -/
  | rasterCombinerLoad (port : Port)
  /-- RASTER_STATUS (R409) -/
  | rasterStatus (port : Port)
  /-- TILE_PASS_DONE (R370) -/
  | tilePassDone (core us skipped : Nat)
  /-- TILE_PASS_SPLIT (R400) -/
  | tilePassSplit (core us skipped items : Nat)
  /-- RASTER_JOB_DONE (R374) -/
  | rasterJobDone (work us : Nat)
  /-- INGEST_PORT_SET (R411) -/
  | ingestPortSet (port : Port)
  /-- INGEST_ASSIGN (R414) -/
  | ingestAssign (port : Port)
  /-- STREAM_OPEN (R415) -/
  | streamOpen (port : Port)
  /-- STREAM_CLOSE (R433) -/
  | streamClose (port : Port)
  /-- STREAM_DECLARE (R427) -/
  | streamDeclare (port : Port)
  /-- STREAM_ROUTE (R428) -/
  | streamRoute (port : Port)
  /-- STREAM_STATUS (R433) -/
  | streamStatus (port : Port)
  /-- PTP_SET (R412) -/
  | ptpSet (port : Port)
  /-- INGEST_PACKET (R422) -/
  | ingestPacket (recv path : Nat) (p : RtpPacket)
  /-- MERGE_TIMEOUT (R422) -/
  | mergeTimeout (recv : Nat)
  /-- STREAM_FRAME_COMPLETE (R419) -/
  | streamFrameComplete (recv : Nat)
  /-- STREAM_FRAME_ABANDON (R418) -/
  | streamFrameAbandon (recv : Nat)
  /-- PATH_DOWN (R423) -/
  | pathDown (recv path : Nat)
  /-- STREAM_LOST (R426) -/
  | streamLost (recv : Nat)
  /-- ETH_LINK_CHANGE (R423) -/
  | ethLinkChange (index : Nat) (up : Bool)
  /-- PTP_MESSAGE (R412) -/
  | ptpMessage (index domain : Nat) (announce : Bool) (offset : Int) (master : Nat)
  /-- PTP_HOLDOVER (R412) -/
  | ptpHoldover
  /-- TOUCH_SURFACE_SET (R437) -/
  | touchSurfaceSet (port : Port)
  /-- TOUCH_REGION_SET (R454) -/
  | touchRegionSet (port : Port)
  /-- TOUCH_HANDOVER (R456) -/
  | touchHandover (port : Port)
  /-- TOUCH_SUBSCRIBE (R451) -/
  | touchSubscribe (port : Port)
  /-- TOUCH_REBASE (R457) -/
  | touchRebase (port : Port)
  /-- TOUCH_STATUS (R458) -/
  | touchStatus (port : Port)
  /-- TOUCH_SCAN_FRAME (R441) -/
  | touchScanFrame (surface : Nat) (counts own : List Nat)
  /-- RAW_FRAME_RECEIVE (R439) -/
  | rawFrameReceive (index : Nat) (frame : List Byte) (span : Nat)
  /-- TOUCH_SURFACE_LOST (R442) -/
  | touchSurfaceLost (surface : Nat)
  /-- TOUCH_STARTUP_DONE (R444) -/
  | touchStartupDone (surface : Nat)
  /-- TOUCH_REBASE_DONE (R457) -/
  | touchRebaseDone (surface : Nat)
  /-- TOUCH_REACQUIRE_DONE (R445) -/
  | touchReacquireDone (surface : Nat)
  /-- TOUCH_LINE_FAULT (R458) -/
  | touchLineFault (surface : Nat)
  /-- TOUCH_LINE_RECOVER (R458) -/
  | touchLineRecover (surface : Nat)
  /-- TOUCH_CONTACT_RESTING (R452) -/
  | touchContactResting (surface : Nat)
  /-- TOUCH_ABSORB_DONE (R453) -/
  | touchAbsorbDone (surface : Nat)
  /-- TOUCH_BASELINE_STORE (R446) -/
  | touchBaselineStore (surface : Nat)
  /-- HAP_CHANNEL_SET (R462) -/
  | hapChannelSet (port : Port)
  /-- HAP_EFFECT_SET (R463) -/
  | hapEffectSet (port : Port)
  /-- HAP_PLAY (R465) -/
  | hapPlay (port : Port)
  /-- HAP_STOP (R464) -/
  | hapStop (port : Port)
  /-- HAP_TOUCH_BIND (R466) -/
  | hapTouchBind (port : Port)
  /-- HAP_SCAN (R471) -/
  | hapScan (port : Port)
  /-- HAP_CLEAR (R470) -/
  | hapClear (port : Port)
  /-- HAP_STATUS (R471) -/
  | hapStatus (port : Port)
  /-- HAP_PULSE_END (R464) -/
  | hapPulseEnd (channel : Nat)
  /-- HAP_LISTEN_CLOSE (R469) -/
  | hapListenClose (channel : Nat) (crossing : Option Nat) (peak : Nat)
  /-- HAP_BRAKE_TIMEOUT (R464) -/
  | hapBrakeTimeout (channel : Nat)
  /-- AUD_MODE_SET (R489) -/
  | audModeSet (port : Port)
  /-- AUD_SOURCE_OPEN (R475) -/
  | audSourceOpen (port : Port)
  /-- AUD_SOURCE_CLOSE (R477) -/
  | audSourceClose (port : Port)
  /-- AUD_BUS_SET (R479) -/
  | audBusSet (port : Port)
  /-- AUD_SINK_SET (R485) -/
  | audSinkSet (port : Port)
  /-- AUD_APPLY (R482) -/
  | audApply (port : Port)
  /-- AUD_TDM_SET (R487) -/
  | audTdmSet (port : Port)
  /-- AUD_ASSIGN (R474) -/
  | audAssign (port : Port)
  /-- AUD_HEADSET_SET (R492) -/
  | audHeadsetSet (port : Port)
  /-- AUD_STATUS (R493) -/
  | audStatus (port : Port)
  /-- AUDIO_BLOCK (R473) -/
  | audioBlock (tdm0 tdm1 : Option (List Int)) (mic : List Int) (slips : List (Nat × Bool))
  /-- DUCK_HOLD_EXPIRE (R484) -/
  | duckHoldExpire (bus : Nat)
  /-- HS_DET_CHANGE (R490) -/
  | hsDetChange (closed : Bool)
  /-- HS_DEBOUNCE_DONE (R490) -/
  | hsDebounceDone
  /-- HS_MEASURE_DONE (R490) -/
  | hsMeasureDone (load mvR2 mvSl : Nat)
  /-- HS_BUTTON_CHANGE (R491) -/
  | hsButtonChange (mv ms : Nat)
  /-- SEC_SESSION_OPEN (R502) -/
  | secSessionOpen (port : Port)
  /-- SEC_SESSION_CLOSE (R503) -/
  | secSessionClose (port : Port)
  /-- ATTEST (R517) -/
  | attest (port : Port)
  /-- MEASURE_READ (R516) -/
  | measureRead (port : Port)
  /-- APPROVED_SET (R519) -/
  | approvedSet (port : Port)
  /-- REGULATED_SET (R521) -/
  | regulatedSet (port : Port)
  /-- KEY_LOAD (R500) -/
  | keyLoad (port : Port)
  /-- LEASE_SET (R505) -/
  | leaseSet (port : Port)
  /-- TAMPER_SET (R525) -/
  | tamperSet (port : Port)
  /-- TAMPER_CLEAR (R526) -/
  | tamperClear (port : Port)
  /-- SEC_STATUS (R526) -/
  | secStatus (port : Port)
  /-- DEBUG_STATUS (R526) -/
  | debugStatus (port : Port)
  /-- DEBUG_CLOSE (R511) -/
  | debugClose (port : Port)
  /-- SEC_MODE_KEY_LOCK (R500) -/
  | secModeKeyLock (req : Requester)
  /-- SEC_MODE_APPROVED_LOCK (R519) -/
  | secModeApprovedLock (req : Requester)
  /-- SEC_NMBOX_PUSH (R498) -/
  | secNmboxPush (req : Requester) (word : Nat)
  /-- SEC_MEAS_EXTEND (R514) -/
  | secMeasExtend (req : Requester) (n : Nat) (digest : List Byte)
  /-- SEC_WATCHDOG_EXPIRE (R523) -/
  | secWatchdogExpire
  /-- SEC_FAULT (R523) -/
  | secFault
  /-- SEC_RESTART_DONE (R523) -/
  | secRestartDone (digest : List Byte)
  /-- MGMT_WATCHDOG_EXPIRE (R583) -/
  | mgmtWatchdogExpire
  /-- DBG_CHALLENGE_READ (R510) -/
  | dbgChallengeRead
  /-- DBG_CERT_WRITE (R510) -/
  | dbgCertWrite (word : Nat)
  /-- DEBUG_ACCESS (R629) -/
  | debugAccess (write : Bool) (off data : Nat)
  /-- TAMPER_ASSERT (R526) -/
  | tamperAssert (input ms : Nat)
  /-- TAMPER_RELEASE (R526) -/
  | tamperRelease (input ms : Nat)
  /-- FIDDLEHEAD_BOOT (R513) -/
  | fiddleheadBoot (fuses : Option (List Byte)) (roms : Option (List Byte × List Byte)) (lo hi : Nat)
  /-- PEAT_FORMAT (R533) -/
  | peatFormat (port : Port)
  /-- PEAT_STATUS (R551) -/
  | peatStatus (port : Port)
  /-- PEAT_CAPTURE (R541) -/
  | peatCapture (port : Port)
  /-- PEAT_CAPTURE_READ (R545) -/
  | peatCaptureRead (port : Port)
  /-- PEAT_RETAIN_SET (R544) -/
  | peatRetainSet (port : Port)
  /-- PEAT_UPDATE_WRITE (R547) -/
  | peatUpdateWrite (port : Port)
  /-- PEAT_UPDATE_COMMIT (R547) -/
  | peatUpdateCommit (port : Port)
  /-- PEAT_ACTIVATE (R548) -/
  | peatActivate (port : Port)
  /-- PEAT_DUMP_READ (R550) -/
  | peatDumpRead (port : Port)
  /-- PEAT_LOG_READ (R551) -/
  | peatLogRead (port : Port)
  /-- FIRMWARE_ACTIVATION (R548) -/
  | firmwareActivation (component : Nat)
  /-- FW_TRIAL_FALLBACK (R549) -/
  | fwTrialFallback (component : Nat)
  /-- CAPTURE_STAGED (R542) -/
  | captureStaged (id : Nat)
  /-- CAPTURE_STORED (R543) -/
  | captureStored (id : Nat)
  /-- POWER_FAIL (R535) -/
  | powerFail
  /-- POWER_FAIL_FLUSH_DONE (R539) -/
  | powerFailFlushDone (supply : Bool) (failed : List Nat)
  /-- RESERVE_CLEAR (R538) -/
  | reserveClear
  /-- NAND_PROGRAM_FAIL (R530) -/
  | nandProgramFail (block spare : Nat)
  /-- NAND_READ_UNCORRECTABLE (R529) -/
  | nandReadUncorrectable (block spare : Nat) (records : List Nat)
  /-- NAND_PATROL (R532) -/
  | nandPatrol (block corrections target : Nat)
  /-- NAND_DISTURB_MOVE (R532) -/
  | nandDisturbMove (block target : Nat)
  /-- NAND_WEAR_LEVEL (R531) -/
  | nandWearLevel (part source target : Nat)
  /-- FATAL_ERROR (R550) -/
  | fatalError (cause : Nat) (dump : List Byte)
  /-- WALL_SET (R558) -/
  | wallSet (port : Port)
  /-- RHZ_PORT_SET (R574) -/
  | rhzPortSet (port : Port)
  /-- WALL_STATUS (R574) -/
  | wallStatus (port : Port)
  /-- WALL_FORM (R557) -/
  | wallForm (devices : List (Nat × Bool)) (self version : Nat)
  /-- RHZ_FLIT_RECEIVE (R553) -/
  | rhzFlitReceive (index : Nat) (flit : List Byte) (msg : RhzMsg)
  /-- MASTER_BEACON (R559) -/
  | masterBeacon
  /-- RHZ_TIMING_MESSAGE (R561) -/
  | rhzTimingMessage (index : Nat) (offset : Int)
  /-- MASTER_LOST (R559) -/
  | masterLost
  /-- RHZ_TIME_HOLDOVER (R559) -/
  | rhzTimeHoldover
  /-- RHZ_LINK_DOWN (R573) -/
  | rhzLinkDown (index : Nat)
  /-- REMOTE_TAG_UPDATE (R570) -/
  | remoteTagUpdate (tag : BitVec 32) (last maxAge st : Nat) (recv : BitVec 32) (stamp : Nat)
  /-- SHARED_FRAME_LAND (R568) -/
  | sharedFrameLand (recv layer : BitVec 32) (inst : Nat) (landing : List Nat) (stamp : Nat) (planes : List (List Nat))
  /-- PWR_DOMAIN_SET (R577) -/
  | pwrDomainSet (port : Port)
  /-- DOMAIN_WAKE_DONE (R577) -/
  | domainWakeDone (domain : Nat)
  /-- PWR_STATUS (R593) -/
  | pwrStatus (port : Port)
  /-- PWR_RESET (R584) -/
  | pwrReset (port : Port)
  /-- PWR_AVS_SET (R588) -/
  | pwrAvsSet (port : Port)
  /-- PWR_THERMAL_SET (R590) -/
  | pwrThermalSet (port : Port)
  /-- PWR_SENSOR_READ (R589) -/
  | pwrSensorRead (port : Port)
  /-- PWR_SHUTDOWN (R581) -/
  | pwrShutdown (port : Port)
  /-- COLD_RESET (R583) -/
  | coldReset
  /-- WARM_RESET (R584) -/
  | warmReset
  /-- POWER_ON_RESET (R603) -/
  | powerOnReset
  /-- PCIE_PERST (R580) -/
  | pciePerst
  /-- AVS_TICK (R588) -/
  | avsTick (vread : Nat)
  /-- THERMAL_SAMPLE (R590) -/
  | thermalSample (sensor : Nat) (reading : Int)
  /-- THERMAL_CRITICAL (R590) -/
  | thermalCritical
  /-- VMON_EXCURSION (R589) -/
  | vmonExcursion (monitor mv : Nat)
  /-- ISLAND_WAKE (R593) -/
  | islandWake (island : Nat)
  /-- MGMT_RESTART_DONE (R95) -/
  | mgmtRestartDone
  /-- PWR_READY_HIGH (R579) -/
  | pwrReadyHigh
  /-- RHZ_LINK_UP (R573) -/
  | rhzLinkUp (index neighbour lo hi : Nat)
  /-- SURFACE_COPY_DONE (R206) -/
  | surfaceCopyDone (work before : Nat)
  /-- ISLAND_STOP (R591) -/
  | islandStop (island : Nat)
  deriving DecidableEq, Repr

end Sys2Proof
end

