-- ==== Sys2Proof/Decode.lean ====
section
/-! DEFINITION. Words of commands: no row of spec/opcode_table.json gives bits, so no word of the table spells a command. A packet carries its opcode in its header (R59), which the port's packet gives whole. -/

namespace Sys2Proof

/-- The command that a word spells by the table's bits: none, because no row gives any. -/
def decodeTableWord (_nbits _w : Nat) : Option Instr := none

end Sys2Proof
end

