-- ==== Sys2Proof/Config.lean ====
section
/-! DEFINITION. What one device fixes in manufacture, what the spec leaves to no rule, and the free values. Every constant is opaque: nothing can be proved of its value. -/

namespace Sys2Proof.Config

/-- A free value (log entry 5): the step applies it to the counter freeCtr of State, so no two uses are related. -/
opaque freeValue : Nat → BitVec 64

/-- The 16-byte device serial number (R88), byte 0 lowest. -/
opaque serial : BitVec 128

/-- Output of the true random number generator, one value per use (R17, R25, R501). -/
opaque trng : Nat → BitVec 384

/-- The package pairing secret provisioned in manufacture (R25). -/
opaque pairingSecret : BitVec 256

/-- The AES-GMAC tag of a secure-class message: key, 96-bit initialisation vector, message (R25). -/
opaque gmac : BitVec 256 → BitVec 96 → List Byte → BitVec 128

/-- The frond tone ROM (R252): output curve or not, preset code 2 to 5, channel, entry. -/
opaque toneRom : Bool → Nat → Nat → Nat → Nat

/-- The glyph ROM (R337): badge 1 HELD to 4 SERVICE, size 1 to 3, column, row. -/
opaque glyphRom : Nat → Nat → Nat → Nat → Bool

/-- The pixel box a general-mode triangle is binned into (R406): job words, raster state, vertex words. General mode is not specified bit for bit (R408). -/
opaque generalBox : List Nat → List Nat → List (List Nat) → Option (Nat × Nat × Nat × Nat)

/-- The stored colour and depth-stencil word a general-mode triangle leaves in a pixel (R407, R408): the job words, vertex words and raster state, the bytes of the textures, the pixel, the stored values before. -/
opaque generalPixel : List (List Nat) → List (List Byte) → Nat × Nat → Nat × Nat → Nat × Nat

/-- True where a JPEG XS lane decodes a codestream without error (R418). -/
opaque jpegXsOk : List Byte → Bool

/-- A sample that JPEG XS gives (R410): codestream, key of component, row and column. -/
opaque jpegXs : List Byte → Nat → BitVec 16

/-- The objects above the glass that a surface's words and self-capacitance values show (R449): X, Y in 1/256 node and height in mm, at most 30. -/
opaque hover : List Nat → List Nat → List (Nat × Nat × Nat)

/-- An output sample of an asynchronous sample-rate converter (R476, whose filter no rule gives): rates in and out, internal sample number, the newest input samples of the channel. -/
opaque asrc : Nat → Nat → Nat → List Int → BitVec 32

/-- The MSI-X vector of a VF's mailbox (R115): no rule gives its number. -/
opaque mailboxVector : BitVec 8

/-- The private scalar of the device identity key (R499). -/
opaque identityKey : BitVec 384

/-- The firmware signing public key whose digest is fused (R499, R513). -/
opaque firmwareKey : BitVec 768

/-- The debug authority digest (R499). -/
opaque debugDigest : BitVec 384

/-- The 32-bit words of the certificate chain that SEC_KEY_INFO shows (Table 20.4): provisioned by the manufacturer. -/
opaque identityChain : Nat → BitVec 32

/-- The sample that the transmitter repeats where the first pixel of a line is missing (R286): the line has no pixel sent before it. Output, frame, line, sample. -/
opaque firstRepeat : Nat → Nat → Nat → Nat → BitVec 12

/-- The reset value of PWR_VMON_LIM[n] (R602): the supply that monitor n watches is given by no rule. -/
opaque vmonLimits : Nat → BitVec 32

/-- The ROM digest that the fiddlehead ROM extends into register 0, and its fuse image (R513, Table 15.5). -/
opaque romImage : BitVec 384

/-- The identity of the Canvas die that register 5 records (Table 15.6): its layout is given by no rule. -/
opaque canvasIdentity : BitVec 384

end Sys2Proof.Config
end

