-- ==== Sys2Proof/Machine/Bits.lean ====
section
/-! DEFINITION. Bit fields, byte orders, saturating counts and the CRCs the spec's rules use. -/

namespace Sys2Proof.Machine

/-- Bits [hi:lo] of a number (R6). -/
def fld (w hi lo : Nat) : Nat := (w >>> lo) % 2 ^ (hi + 1 - lo)

/-- Bit n of a number. -/
def bitOf (w n : Nat) : Bool := w.testBit n

/-- A flag as a number. -/
def b2n (b : Bool) : Nat := if b then 1 else 0

/-- A field of w bits read as two's complement. -/
def sxt (w n : Nat) : Int := if n % 2 ^ w < 2 ^ (w - 1) then (n % 2 ^ w : Nat) else ((n % 2 ^ w : Nat) : Int) - (2 ^ w : Nat)

/-- The two's complement coding of an integer in w bits. -/
def enc (w : Nat) (i : Int) : Nat := (i % ((2 ^ w : Nat) : Int)).toNat

/-- The low n bytes of a number, lowest first (R7). -/
def le : Nat → Nat → List Byte
  | 0, _ => []
  | n + 1, v => BitVec.ofNat 8 v :: le n (v / 256)

/-- The low n bytes of a number, highest first (the ECDSA values of R91). -/
def be (n v : Nat) : List Byte := (le n v).reverse

/-- The number that bytes spell, lowest first (R7). -/
def ofLe : List Byte → Nat
  | [] => 0
  | b :: bs => b.toNat + 256 * ofLe bs

/-- The number that bytes spell, highest first. -/
def ofBe (bs : List Byte) : Nat := ofLe bs.reverse

/-- Bytes cut or filled with zeros to a length. -/
def fit (n : Nat) (bs : List Byte) : List Byte := (bs ++ List.replicate n 0).take n

/-- The increment of a 32-bit saturating counter (R634, Table 20.3). -/
def satAdd (c n : Nat) : Nat := min (c + n) 0xFFFFFFFF

/-- One more on a 32-bit saturating counter. -/
def satInc (c : Nat) : Nat := satAdd c 1

/-- Absolute difference. -/
def dist (a b : Nat) : Nat := if a ≤ b then b - a else a - b

/-- Clamp of an integer to a range. -/
def clampI (lo hi v : Int) : Int := if v < lo then lo else if hi < v then hi else v

/-- Division rounding up. -/
def ceilDiv (a b : Nat) : Nat := (a + b - 1) / b

/-- True where a number is a multiple of another. -/
def multOf (m n : Nat) : Bool := n % m == 0

/-- True where a number is a power of two between two bounds. -/
def powTwoIn (lo hi n : Nat) : Bool := decide (lo ≤ n) && decide (n ≤ hi) && n == 2 ^ n.log2

/-- The 8 bits of a byte, most significant first. -/
def bitsMsb (b : Byte) : List Bool := [b.getLsbD 7, b.getLsbD 6, b.getLsbD 5, b.getLsbD 4, b.getLsbD 3, b.getLsbD 2, b.getLsbD 1, b.getLsbD 0]

/-- The 8 bits of a byte, least significant first. -/
def bitsLsb (b : Byte) : List Bool := (bitsMsb b).reverse

/-- One bit of an unreflected CRC of width w. -/
def crcStep (w poly : Nat) (c : Nat) (b : Bool) : Nat :=
  let top := c.testBit (w - 1) != b
  let c' := (c * 2) % 2 ^ w
  if top then c' ^^^ poly else c'

/-- One bit of a reflected CRC; poly is the reflected polynomial. -/
def crcStepR (poly : Nat) (c : Nat) (b : Bool) : Nat :=
  let low := c.testBit 0 != b
  if low then (c / 2) ^^^ poly else c / 2

/-- The CRC-16 of R22: polynomial 0x1021, initial 0xFFFF, no reflection, no final XOR. -/
def crc16 (bs : List Byte) : Nat := (bs.flatMap bitsMsb).foldl (crcStep 16 0x1021) 0xFFFF

end Sys2Proof.Machine
end

