-- ==== Sys2Proof/Machine/Codec.lean ====
section
/-! DEFINITION. Surface formats, layouts and Taoth block compression (R188 to R198), as pure functions of bytes. -/

namespace Sys2Proof.Machine

/-- A plane of a format (Table 5.2): bits per element, channels as (lowest bit, bits) in TBC channel order, and the chroma divisors. -/
structure PlaneFmt where
  bits : Nat
  chans : List (Nat × Nat)
  hdiv : Nat
  vdiv : Nat
  deriving DecidableEq, Repr

/-- The planes of a format code (Table 5.2); an undefined code has none. -/
def planesOf (f : Nat) : List PlaneFmt :=
  let planar (b n h v : Nat) : List PlaneFmt := [⟨b, [(0, n)], 1, 1⟩, ⟨b, [(0, n)], h, v⟩, ⟨b, [(0, n)], h, v⟩]
  let semi (b n h v : Nat) : List PlaneFmt := [⟨b, [(0, n)], 1, 1⟩, ⟨2 * b, [(0, n), (b, n)], h, v⟩]
  match f with
  | 0x01 => [⟨32, [(24, 8), (16, 8), (8, 8), (0, 8)], 1, 1⟩]
  | 0x02 => [⟨32, [(30, 2), (20, 10), (10, 10), (0, 10)], 1, 1⟩]
  | 0x03 => [⟨16, [(11, 5), (5, 6), (0, 5)], 1, 1⟩]
  | 0x04 => [⟨64, [(48, 16), (32, 16), (16, 16), (0, 16)], 1, 1⟩]
  | 0x08 => [⟨8, [(0, 8)], 1, 1⟩]
  | 0x09 => [⟨8, [(0, 8)], 1, 1⟩]
  | 0x10 => planar 8 8 1 1
  | 0x11 => planar 16 10 1 1
  | 0x12 => planar 8 8 2 1
  | 0x13 => planar 16 10 2 1
  | 0x14 => planar 8 8 2 2
  | 0x15 => planar 16 10 2 2
  | 0x18 => semi 8 8 1 1
  | 0x19 => semi 16 10 1 1
  | 0x1A => semi 8 8 2 1
  | 0x1B => semi 16 10 2 1
  | 0x1C => semi 8 8 2 2
  | 0x1D => semi 16 10 2 2
  | _ => []

/-- A format without alpha, of luma and chroma. -/
def isYcc (f : Nat) : Bool := decide (0x10 ≤ f) && decide (f ≤ 0x1D)

/-- A format whose chroma is halved across. -/
def chromaH (f : Nat) : Bool := (planesOf f).any (fun p => p.hdiv == 2)

/-- A format whose chroma is halved down. -/
def chromaV (f : Nat) : Bool := (planesOf f).any (fun p => p.vdiv == 2)

/-- The shape that layout computations need: format, width, height, layout and STRIDE. -/
structure Shape where
  format : Nat
  width : Nat
  height : Nat
  layout : Nat
  stride : Nat
  deriving DecidableEq, Repr

/-- A plane's format, or an 8-bit default past the last plane. -/
def Shape.plane (sh : Shape) (p : Nat) : PlaneFmt := (planesOf sh.format).getD p ⟨8, [(0, 8)], 1, 1⟩

/-- A plane's width in elements. -/
def Shape.pw (sh : Shape) (p : Nat) : Nat := sh.width / (sh.plane p).hdiv

/-- A plane's height in elements. -/
def Shape.ph (sh : Shape) (p : Nat) : Nat := sh.height / (sh.plane p).vdiv

/-- Bytes of an element. -/
def Shape.eb (sh : Shape) (p : Nat) : Nat := (sh.plane p).bits / 8

/-- Rounding up to a multiple. -/
def roundUp (m n : Nat) : Nat := ceilDiv n m * m

/-- The minimum stride of a plane (R190). -/
def Shape.minStride (sh : Shape) (p : Nat) : Nat := roundUp 256 (sh.pw p * sh.eb p)

/-- The stride in use (R190). -/
def Shape.strideOf (sh : Shape) (p : Nat) : Nat := if p = 0 ∧ sh.stride ≠ 0 then sh.stride else sh.minStride p

/-- Granules across (R191). -/
def Shape.gw (sh : Shape) (p : Nat) : Nat := ceilDiv (sh.pw p) 32

/-- Granules down. -/
def Shape.gh (sh : Shape) (p : Nat) : Nat := ceilDiv (sh.ph p) 32

/-- Bytes of a block. -/
def Shape.blockB (sh : Shape) (p : Nat) : Nat := 8 * (sh.plane p).bits

/-- Blocks of a plane (R192). -/
def Shape.blocks (sh : Shape) (p : Nat) : Nat := 16 * sh.gw p * sh.gh p

/-- Bytes of a TBC plane's header table (R192). -/
def Shape.tblBytes (sh : Shape) (p : Nat) : Nat := roundUp 4096 (4 * sh.blocks p)

/-- Bytes of a plane, a multiple of 4 KiB. -/
def Shape.planeBytes (sh : Shape) (p : Nat) : Nat :=
  roundUp 4096 (match sh.layout with
    | 0 => sh.strideOf p * sh.ph p
    | 1 => sh.blocks p * sh.blockB p
    | _ => sh.tblBytes p + sh.blocks p * sh.blockB p)

/-- Where a plane starts in the allocation. -/
def Shape.planeStart (sh : Shape) : Nat → Nat
  | 0 => 0
  | p + 1 => sh.planeStart p + sh.planeBytes p

/-- Bytes of all planes. -/
def Shape.bytes (sh : Shape) : Nat := sh.planeStart (planesOf sh.format).length

/-- Block number of an element: 16 g + j (R191). -/
def Shape.blockOf (sh : Shape) (p x y : Nat) : Nat := 16 * (y / 32 * sh.gw p + x / 32) + (y % 32 / 8 * 4 + x % 32 / 8)

/-- Element number within its block. -/
def elemOf (x y : Nat) : Nat := y % 8 * 8 + x % 8

/-- Byte offset in the plane of an element of a linear or block-tiled surface (R190, R191). -/
def Shape.elemAt (sh : Shape) (p x y : Nat) : Nat :=
  if sh.layout = 0 then y * sh.strideOf p + x * sh.eb p else sh.blockOf p x y * sh.blockB p + elemOf x y * sh.eb p

/-- Byte offset in the plane of a block's header. -/
def headerAt (k : Nat) : Nat := 4 * k

/-- Byte offset in the plane of a block's payload slot. -/
def Shape.payloadAt (sh : Shape) (p k : Nat) : Nat := sh.tblBytes p + sh.blockB p * k

/-! ## TBC -/

/-- A channel's value in an element. -/
def chanVal (c : Nat × Nat) (e : Nat) : Nat := (e >>> c.1) % 2 ^ c.2

/-- An element as the codec takes it: only the channels' bits (R194). -/
def maskElem (cs : List (Nat × Nat)) (e : Nat) : Nat := cs.foldl (fun a c => a + chanVal c e * 2 ^ c.1) 0

/-- The prediction of R195. -/
def predict (x y a u d : Nat) : Nat :=
  if y = 0 then a
  else if x = 0 then u
  else if max a u ≤ d then min a u
  else if d ≤ min a u then max a u
  else a + u - d

/-- The bits of a number, most significant first. -/
def msbBits : Nat → Nat → List Bool
  | 0, _ => []
  | n + 1, v => v.testBit n :: msbBits n v

/-- A number from n bits, most significant first; none where the stream ends. -/
def readBits : Nat → Nat → List Bool → Option (Nat × List Bool)
  | 0, acc, bs => some (acc, bs)
  | _ + 1, _, [] => none
  | n + 1, acc, b :: bs => readBits n (2 * acc + b2n b) bs

/-- Counts 1 bits up to a limit and consumes the 0 bit that ends them below the limit. -/
def readOnes : Nat → Nat → List Bool → Option (Nat × List Bool)
  | 0, acc, bs => some (acc, bs)
  | _ + 1, _, [] => none
  | n + 1, acc, b :: bs => if b then readOnes n (acc + 1) bs else some (acc, bs)

/-- The Rice parameter after a code (R196). -/
def adaptK (n k q : Nat) : Nat :=
  let k1 := if q = 0 ∧ 0 < k then k - 1 else k
  if 2 ≤ q ∧ k1 < n - 1 then k1 + 1 else k1

/-- One code of R196: m and the rest. -/
def readCode (n k : Nat) (bs : List Bool) : Option (Nat × List Bool) :=
  match readOnes 12 0 bs with
  | none => none
  | some (q, r) => if q = 12 then readBits n 0 r else (readBits k 0 r).map (fun v => (q * 2 ^ k + v.1, v.2))

/-- The residual that m codes (R195), modulo 2^n. -/
def residual (n m : Nat) : Nat := if m % 2 = 0 then m / 2 % 2 ^ n else (2 ^ n - (m + 1) / 2 % 2 ^ n) % 2 ^ n

/-- Decodes the elements from number i on; rev holds the earlier ones, newest first. -/
def decChan (n : Nat) : Nat → Nat → Nat → List Nat → List Bool → Option (List Nat × List Bool)
  | 0, _, _, rev, bs => some (rev.reverse, bs)
  | f + 1, i, k, rev, bs =>
    match readCode n k bs with
    | none => none
    | some (m, r) =>
      let v := (predict (i % 8) (i / 8) (rev.getD 0 0) (rev.getD 7 0) (rev.getD 8 0) + residual n m) % 2 ^ n
      decChan n f (i + 1) (adaptK n k (m >>> k)) (v :: rev) r

/-- Decodes the channel streams of a predicted block: each channel's 64 values. -/
def decChans (k0 : Nat) : List (Nat × Nat) → Nat → List Bool → Option (List (List Nat))
  | [], _, _ => some []
  | c :: cs, i, bs =>
    match readBits c.2 0 bs with
    | none => none
    | some (v, r) =>
      match decChan c.2 63 1 (fld k0 (4 * i + 3) (4 * i)) [v] r with
      | none => none
      | some (vs, r2) => (decChans k0 cs (i + 1) r2).map (vs :: ·)

/-- The elements that channel values make. -/
def joinChans (cs : List (Nat × Nat)) (vss : List (List Nat)) : List Nat :=
  (List.range 64).map (fun i => (cs.zip vss).foldl (fun a p => a + p.2.getD i 0 * 2 ^ p.1.1) 0)

/-- The zero block. -/
def zeroBlock : List Nat := List.replicate 64 0

/-- Splits bytes into elements of eb bytes. -/
def elemsOf (eb : Nat) : Nat → List Byte → List Nat
  | 0, _ => []
  | n + 1, bs => ofLe (bs.take eb) :: elemsOf eb n (bs.drop eb)

/-- K0 nibbles are at most n − 1 for each channel and 0 beyond the channels. -/
def k0Ok (cs : List (Nat × Nat)) (k0 : Nat) : Bool :=
  (List.range 4).all (fun i => match cs[i]? with
    | some c => decide (fld k0 (4 * i + 3) (4 * i) < c.2)
    | none => fld k0 (4 * i + 3) (4 * i) == 0)

/-- Decodes a block from its header and payload (R194 to R198); none is a header error. -/
def tbcDecode (pf : PlaneFmt) (hdr : Nat) (payload : List Byte) : Option (List Nat) :=
  let mode := fld hdr 31 30
  let size := fld hdr 29 24
  let k0 := fld hdr 15 0
  let cap := pf.bits * 8 / 16
  if fld hdr 23 16 ≠ 0 then none
  else if mode = 0 then
    (if k0 ≠ 0 ∨ 1 < size then none
     else if size = 0 then some zeroBlock
     else some (List.replicate 64 (maskElem pf.chans (ofLe (payload.take (pf.bits / 8))))))
  else if mode = 1 then
    (if k0 ≠ 0 ∨ size ≠ cap then none else some ((elemsOf (pf.bits / 8) 64 payload).map (maskElem pf.chans)))
  else if mode = 2 then
    (if cap < size ∨ !k0Ok pf.chans k0 then none
     else (decChans k0 pf.chans 0 ((payload.take (16 * size)).flatMap bitsMsb)).map (joinChans pf.chans))
  else none

/-- One code of R196 as bits. -/
def codeBits (n k m : Nat) : List Bool :=
  if 12 ≤ m >>> k then List.replicate 12 true ++ msbBits n m
  else List.replicate (m >>> k) true ++ [false] ++ msbBits k m

/-- The code m of a value under its prediction (R195). -/
def codeOf (n v p : Nat) : Nat :=
  let e := (v + 2 ^ n - p % 2 ^ n) % 2 ^ n
  if 2 ^ (n - 1) ≤ e then 2 * (2 ^ n - e) - 1 else 2 * e

/-- Encodes values from number i on. -/
def encChan (n : Nat) : List Nat → Nat → Nat → List Nat → List Bool
  | [], _, _, _ => []
  | v :: vs, i, k, rev =>
    let m := codeOf n v (predict (i % 8) (i / 8) (rev.getD 0 0) (rev.getD 7 0) (rev.getD 8 0))
    codeBits n k m ++ encChan n vs (i + 1) (adaptK n k (m >>> k)) (v :: rev)

/-- A channel stream for a starting parameter. -/
def chanStream (n k0 : Nat) (vs : List Nat) : List Bool := msbBits n (vs.getD 0 0) ++ encChan n (vs.drop 1) 1 k0 [vs.getD 0 0]

/-- The shortest stream of a channel, with the lowest K0 on a tie (R197). -/
def bestStream (n : Nat) (vs : List Nat) : Nat × List Bool :=
  (List.range (n - 1)).foldl (fun b i => let t := chanStream n (i + 1) vs; if t.length < b.2.length then (i + 1, t) else b) (0, chanStream n 0 vs)

/-- Bytes from bits, most significant first, filled with zeros. -/
def bytesOfBits : Nat → List Bool → List Byte
  | 0, _ => []
  | n + 1, bs => BitVec.ofNat 8 ((List.range 8).foldl (fun a i => 2 * a + b2n (bs.getD i false)) 0) :: bytesOfBits n (bs.drop 8)

/-- Encodes a block (R197): header and the payload bytes it uses. -/
def tbcEncode (pf : PlaneFmt) (elems : List Nat) : Nat × List Byte :=
  let es := elems.map (maskElem pf.chans)
  let cap := pf.bits * 8 / 16
  let eb := pf.bits / 8
  if es.all (· == 0) then (0, [])
  else if es.all (· == es.getD 0 0) then (0x01000000, fit 16 (le eb (es.getD 0 0)))
  else
    let best := pf.chans.map (fun c => bestStream c.2 (es.map (chanVal c)))
    let bits := best.flatMap Prod.snd
    let units := ceilDiv bits.length 128
    if units < cap then
      (0x80000000 + units * 0x1000000 + (best.zip (List.range 4)).foldl (fun a b => a + b.1.1 * 2 ^ (4 * b.2)) 0, bytesOfBits (16 * units) bits)
    else (0x40000000 + cap * 0x1000000, es.flatMap (le eb))

end Sys2Proof.Machine
end

