-- ==== Sys2Proof/Machine/Pixel.lean ====
section
/-! DEFINITION. The arithmetic of one pixel: expansion, chroma upsampling, tone sets, scaling, blending, storing, output format, veil (R231 to R258, R276, R277, R335 to R338, R345). -/

namespace Sys2Proof.Machine

/-- A pixel in blend form: alpha of 10 bits, three channels of 12 bits (R231). -/
structure Px where
  a : Nat
  c0 : Nat
  c1 : Nat
  c2 : Nat
  deriving DecidableEq, Repr

/-- Rounded division by 1,023 (R234). -/
def div1023 (x : Nat) : Nat := (x + 512 + (x + 512) / 1024) / 1024

/-- An n-bit colour channel as 12 bits (R232). -/
def expand12 (n v : Nat) : Nat :=
  match n with
  | 5 => v * 128 + v * 4 + v / 8
  | 6 => v * 64 + v
  | 8 => v * 16 + v / 16
  | 10 => v * 4 + v / 256
  | _ => v

/-- An integer alpha as 10 bits (R232). -/
def expandA (n v : Nat) : Nat :=
  match n with
  | 2 => v * 341
  | 8 => v * 4 + v / 64
  | _ => v

/-- Rounding of a quotient to the nearest integer, ties to even. -/
def roundEven (num den : Nat) : Nat :=
  let q := num / den
  let r := num % den
  if den < 2 * r then q + 1 else if 2 * r = den then q + q % 2 else q

/-- A binary16 channel clamped to 0.0 to 1.0 and scaled (R232). -/
def halfTo (top h : Nat) : Nat :=
  let e := fld h 14 10
  let m := fld h 9 0
  if e = 31 ∧ m ≠ 0 then 0
  else if bitOf h 15 then 0
  else if 15 ≤ e then top
  else if e = 0 then roundEven (m * top) (2 ^ 24)
  else roundEven ((1024 + m) * top) (2 ^ (25 - e))

/-- The nearest binary16 to a fraction num / den between 0 and 1, ties to even (R256 step 4). -/
def toHalf (num den : Nat) : Nat :=
  if num = 0 then 0
  else if den ≤ num then 0x3C00
  else
    match (List.range 15).find? (fun i => decide (0 < i) && decide (den ≤ num * 2 ^ i)) with
    | none => roundEven (num * 2 ^ 24) den
    | some i => (15 - i) * 1024 + (roundEven (num * 2 ^ (10 + i)) den - 1024)

/-- An A, RGB or ARGB element in blend form (R232); const is CONST of Table 6.2. -/
def expandRgb (f const e : Nat) (palette : List Nat) : Px :=
  let argb (v : Nat) : Px := ⟨expandA 8 (fld v 31 24), expand12 8 (fld v 23 16), expand12 8 (fld v 15 8), expand12 8 (fld v 7 0)⟩
  match f with
  | 0x01 => argb e
  | 0x02 => ⟨expandA 2 (fld e 31 30), expand12 10 (fld e 29 20), expand12 10 (fld e 19 10), expand12 10 (fld e 9 0)⟩
  | 0x03 => ⟨1023, expand12 5 (fld e 15 11), expand12 6 (fld e 10 5), expand12 5 (fld e 4 0)⟩
  | 0x04 => ⟨halfTo 1023 (fld e 63 48), halfTo 4095 (fld e 47 32), halfTo 4095 (fld e 31 16), halfTo 4095 (fld e 15 0)⟩
  | 0x08 => ⟨expandA 8 (fld e 7 0), fld const 35 24, fld const 23 12, fld const 11 0⟩
  | 0x09 => argb (palette.getD (fld e 7 0) 0)
  | _ => ⟨1023, 0, 0, 0⟩

/-- A source rectangle and format as fetch sees them. -/
structure Src where
  shape : Shape
  palette : List Nat
  const : Nat
  x : Nat
  y : Nat
  w : Nat
  h : Nat
  deriving DecidableEq, Repr

/-- A chroma sample of a format, expanded: channel 0 Cb, 1 Cr; k and row clamped to the source rectangle (R233). -/
def chromaAt (s : Src) (raw : Nat → Nat → Nat → Nat) (ch : Nat) (k row : Int) : Nat :=
  let hd := (s.shape.plane 1).hdiv
  let vd := (s.shape.plane 1).vdiv
  let kx := (clampI (s.x / hd : Nat) ((s.x + s.w) / hd - 1 : Nat) k).toNat
  let ky := (clampI (s.y / vd : Nat) ((s.y + s.h) / vd - 1 : Nat) row).toNat
  let two := (planesOf s.shape.format).length == 2
  let n := ((s.shape.plane 1).chans.getD 0 (0, 8)).2
  let e := raw (if two then 1 else ch + 1) kx ky
  expand12 n (if two then chanVal ((s.shape.plane 1).chans.getD ch (0, n)) e else e % 2 ^ n)

/-- The vertical step of R233 at a luma row. -/
def chromaV4 (s : Src) (raw : Nat → Nat → Nat → Nat) (ch : Nat) (k : Int) (y : Nat) : Nat :=
  if (s.shape.plane 1).vdiv = 1 then chromaAt s raw ch k y
  else if y % 2 = 0 then (3 * chromaAt s raw ch k (y / 2 : Nat) + chromaAt s raw ch k ((y / 2 : Nat) - 1 : Int) + 2) / 4
  else (3 * chromaAt s raw ch k (y / 2 : Nat) + chromaAt s raw ch k ((y / 2 : Nat) + 1 : Int) + 2) / 4

/-- An upsampled chroma sample at a luma position (R233). -/
def chromaUp (s : Src) (raw : Nat → Nat → Nat → Nat) (ch x y : Nat) : Nat :=
  if (s.shape.plane 1).hdiv = 1 then chromaV4 s raw ch x y
  else if x % 2 = 0 then chromaV4 s raw ch (x / 2 : Nat) y
  else (chromaV4 s raw ch (x / 2 : Nat) y + chromaV4 s raw ch ((x / 2 : Nat) + 1 : Int) y + 1) / 2

/-- Steps 1 to 3 of R231 at surface position (x, y). -/
def srcPx (s : Src) (raw : Nat → Nat → Nat → Nat) (x y : Nat) : Px :=
  if isYcc s.shape.format then
    let n := ((s.shape.plane 0).chans.getD 0 (0, 8)).2
    ⟨1023, expand12 n (raw 0 x y % 2 ^ n), chromaUp s raw 0 x y, chromaUp s raw 1 x y⟩
  else expandRgb s.shape.format s.const (raw 0 x y) s.palette

/-! ## Tone -/

/-- Two bytes of a tone set. -/
def tone16 (t : List Byte) (o : Nat) : Nat := ofLe ((t.drop o).take 2)

/-- Four bytes of a tone set. -/
def tone32 (t : List Byte) (o : Nat) : Nat := ofLe ((t.drop o).take 4)

/-- The matrix of R248 for one output channel. -/
def matRow (t : List Byte) (i a b c : Nat) : Nat :=
  let m (j : Nat) : Int := sxt 16 (tone32 t (0x40 + 4 * (4 * i + j)))
  let o : Int := sxt 14 (tone32 t (0x40 + 4 * (4 * i + 3)))
  (clampI 0 4095 ((m 0 * a + m 1 * b + m 2 * c + o * 4096 + 2048) / 4096)).toNat

/-- The matrix stage. -/
def toneM (t : List Byte) (p : Px) : Px := { p with c0 := matRow t 0 p.c0 p.c1 p.c2, c1 := matRow t 1 p.c0 p.c1 p.c2, c2 := matRow t 2 p.c0 p.c1 p.c2 }

/-- The gain of R249; a field of 0 means 4,096. -/
def gain (g v : Nat) : Nat := min 65535 ((v * (if g = 0 then 4096 else g) + 2048) / 4096)

/-- The input curve of a channel (R249, R252). -/
def toneCin (t : List Byte) (ch x : Nat) : Nat :=
  let hd := tone32 t 0
  let pre := fld hd 11 8
  if !bitOf hd 1 then x * 16 + x / 256
  else
    let e (i : Nat) : Int := (if pre = 0 then tone16 t (0x100 + 2048 * ch + 2 * i) else Config.toneRom false pre ch i : Nat)
    let i := x / 4
    let y := if pre = 1 then x * 16 + x / 256 else (e i + ((e (min (i + 1) 1023) - e i) * ((x % 4 : Nat) : Int) + 2) / 4).toNat
    gain (tone16 t 4) y

/-- The output curve of a channel (R249, R252). -/
def toneCout (t : List Byte) (ch x : Nat) : Nat :=
  let hd := tone32 t 0
  let pre := fld hd 15 12
  if !bitOf hd 3 then min 4095 ((x + 8) / 16)
  else
    let z := gain (tone16 t 6) x
    let e (i : Nat) : Int := (if pre = 0 then tone16 t (0x1900 + 2048 * ch + 2 * i) else Config.toneRom true pre ch i : Nat)
    let i := z / 64
    if pre = 1 then min 4095 ((z + 8) / 16) else (e i + ((e (min (i + 1) 1023) - e i) * ((z % 64 : Nat) : Int) + 32) / 64).toNat

/-- A node of the 3D table (Table 6.5). -/
def toneNode (t : List Byte) (ch r g b : Nat) : Int := (tone16 t (0x3100 + 8 * ((b * 17 + g) * 17 + r) + 2 * ch) : Nat)

/-- The tetrahedral interpolation of R250 for one channel. -/
def toneT (t : List Byte) (ch r g b : Nat) : Nat :=
  let c (x y z : Nat) : Int := toneNode t ch (r / 4096 + x) (g / 4096 + y) (b / 4096 + z)
  let fr : Int := (r % 4096 : Nat)
  let fg : Int := (g % 4096 : Nat)
  let fb : Int := (b % 4096 : Nat)
  let s : Int :=
    if fg ≤ fr ∧ fb ≤ fg then fr * (c 1 0 0 - c 0 0 0) + fg * (c 1 1 0 - c 1 0 0) + fb * (c 1 1 1 - c 1 1 0)
    else if fb ≤ fr ∧ fg < fb then fr * (c 1 0 0 - c 0 0 0) + fb * (c 1 0 1 - c 1 0 0) + fg * (c 1 1 1 - c 1 0 1)
    else if fr < fb ∧ fg ≤ fr then fb * (c 0 0 1 - c 0 0 0) + fr * (c 1 0 1 - c 0 0 1) + fg * (c 1 1 1 - c 1 0 1)
    else if fr < fg ∧ fb ≤ fr then fg * (c 0 1 0 - c 0 0 0) + fr * (c 1 1 0 - c 0 1 0) + fb * (c 1 1 1 - c 1 1 0)
    else if fb ≤ fg ∧ fr < fb then fg * (c 0 1 0 - c 0 0 0) + fb * (c 0 1 1 - c 0 1 0) + fr * (c 1 1 1 - c 0 1 1)
    else fb * (c 0 0 1 - c 0 0 0) + fg * (c 0 1 1 - c 0 0 1) + fr * (c 1 1 1 - c 0 1 1)
  (clampI 0 65535 (c 0 0 0 + (s + 2048) / 4096)).toNat

/-- The table stage. -/
def toneTs (t : List Byte) (p : Px) : Px := { p with c0 := toneT t 0 p.c0 p.c1 p.c2, c1 := toneT t 1 p.c0 p.c1 p.c2, c2 := toneT t 2 p.c0 p.c1 p.c2 }

/-- A whole tone set (R247). -/
def tonePx (t : List Byte) (p : Px) : Px :=
  let hd := tone32 t 0
  let m (p : Px) : Px := if bitOf hd 0 then toneM t p else p
  let q := if bitOf hd 4 then p else m p
  let q1 : Px := { q with c0 := toneCin t 0 q.c0, c1 := toneCin t 1 q.c1, c2 := toneCin t 2 q.c2 }
  let q2 := if bitOf hd 2 then toneTs t q1 else q1
  let q3 : Px := { q2 with c0 := toneCout t 0 q2.c0, c1 := toneCout t 1 q2.c1, c2 := toneCout t 2 q2.c2 }
  if bitOf hd 4 then m q3 else q3

/-! ## Scaling -/

/-- A channel of a pixel: 0 to 2 colour, 3 alpha. -/
def Px.ch (p : Px) : Nat → Nat
  | 0 => p.c0
  | 1 => p.c1
  | 2 => p.c2
  | _ => p.a

/-- A straight-alpha pixel premultiplied (R235). -/
def premul (p : Px) : Px := { p with c0 := div1023 (p.c0 * p.a), c1 := div1023 (p.c1 * p.a), c2 := div1023 (p.c2 * p.a) }

/-- The mean of a run of n source pixels starting at column n·x (R239). -/
def decim (n w : Nat) (at' : Nat → Px) (x : Nat) : Px :=
  if n = 1 then at' x
  else
    let f (k : Nat) : Nat := ((List.range n).foldl (fun a i => a + (at' (min (n * x + i) (w - 1))).ch k) 0 + n / 2) / n
    ⟨f 3, f 0, f 1, f 2⟩

/-- Source position in 16.16 of a destination coordinate (R240). -/
def scalePos (ws dst x : Nat) : Int := (((2 * x + 1) * ((ws * 65536 + dst / 2) / dst) / 2 : Nat) : Int) - 32768

/-- A horizontal coefficient (R242). -/
def coefH (cs : List Byte) (ph t : Nat) : Int := sxt 12 (tone16 cs (16 * ph + 2 * t))

/-- A vertical coefficient. -/
def coefV (cs : List Byte) (ph t : Nat) : Int := sxt 12 (tone16 cs (1024 + 12 * ph + 2 * t))

/-- A channel of a scaled pixel (R240, R241) from the decimated source. -/
def scaleCh (cs : List Byte) (ws hs dw dh : Nat) (src : Nat → Nat → Px) (k x y : Nat) : Nat :=
  let px := scalePos ws dw x
  let py := scalePos hs dh y
  let i := px / 65536
  let j := py / 65536
  let ph := ((px / 1024) % 64).toNat
  let pv := ((py / 1024) % 64).toNat
  let col (t : Nat) : Nat := (clampI 0 (ws - 1 : Nat) (i - 3 + t)).toNat
  let row (t : Nat) : Nat := (clampI 0 (hs - 1 : Nat) (j - 2 + t)).toNat
  let v (c : Nat) : Int := ((List.range 6).foldl (fun a t => a + coefV cs pv t * (((src c (row t)).ch k : Nat) : Int)) 0 + 512) / 1024
  let acc := (List.range 8).foldl (fun a t => a + coefH cs ph t * v (col t)) 0
  (clampI 0 (if k = 3 then 1023 else 4095) ((acc + 512) / 1024)).toNat

/-- A scaled pixel. -/
def scalePx (cs : List Byte) (ws hs dw dh : Nat) (src : Nat → Nat → Px) (x y : Nat) : Px :=
  ⟨scaleCh cs ws hs dw dh src 3 x y, scaleCh cs ws hs dw dh src 0 x y, scaleCh cs ws hs dw dh src 1 x y, scaleCh cs ws hs dw dh src 2 x y⟩

/-- The default coefficient set (R242): bilinear. -/
def defaultCoef : List Byte :=
  ((List.range 64).flatMap (fun p => (List.range 8).flatMap (fun t => le 2 (if t = 3 then 1024 - 16 * p else if t = 4 then 16 * p else 0))))
    ++ ((List.range 64).flatMap (fun p => (List.range 6).flatMap (fun t => le 2 (if t = 2 then 1024 - 16 * p else if t = 3 then 16 * p else 0))))

/-! ## Blending and storing -/

/-- One layer over the destination, with layer alpha (R235, R236). -/
def blend (dst src : Px) (l : Nat) : Px :=
  let as := div1023 (src.a * l)
  let f (d s : Nat) : Nat := min 4095 (div1023 (s * l) + div1023 (d * (1023 - as)))
  ⟨min 1023 (as + div1023 (dst.a * (1023 - as))), f dst.c0 src.c0, f dst.c1 src.c1, f dst.c2 src.c2⟩

/-- A colour value of n bits (R256 step 4). -/
def storeC (n v : Nat) : Nat := min (2 ^ n - 1) ((v + 2 ^ (11 - n)) / 2 ^ (12 - n))

/-- An alpha value of n bits (R256 step 4). -/
def storeA (n a : Nat) : Nat := if n = 2 then min 3 ((a + 128) / 256) else min (2 ^ n - 1) ((a + 2 ^ (9 - n)) / 2 ^ (10 - n))

/-- A blend-form pixel as an element of an ARGB format (R256 step 4). -/
def storePx (f : Nat) (p : Px) : Nat :=
  match f with
  | 0x01 => storeA 8 p.a * 2 ^ 24 + storeC 8 p.c0 * 2 ^ 16 + storeC 8 p.c1 * 256 + storeC 8 p.c2
  | 0x02 => storeA 2 p.a * 2 ^ 30 + storeC 10 p.c0 * 2 ^ 20 + storeC 10 p.c1 * 2 ^ 10 + storeC 10 p.c2
  | _ => toHalf p.a 1023 * 2 ^ 48 + toHalf p.c0 4095 * 2 ^ 32 + toHalf p.c1 4095 * 2 ^ 16 + toHalf p.c2 4095

/-- FRD_BG as a pixel (R236). -/
def bgPx (bg : Nat) : Px := ⟨1023, expand12 10 (fld bg 29 20), expand12 10 (fld bg 19 10), expand12 10 (fld bg 9 0)⟩

/-- The canonical word of a pixel (R345). -/
def canonical (p : Px) : Nat :=
  let c (v : Nat) : Nat := min 1023 ((v + 2) / 4)
  c p.c0 * 2 ^ 20 + c p.c1 * 2 ^ 10 + c p.c2

/-- One step of CRC-32C over bytes, without initial value or final XOR (R346). -/
def crc32cFeed (c : Nat) (bs : List Byte) : Nat := (bs.flatMap bitsLsb).foldl (crcStepR 0x82F63B78) c

/-- CRC-32C (R346). -/
def crc32c (bs : List Byte) : Nat := crc32cFeed 0xFFFFFFFF bs ^^^ 0xFFFFFFFF

/-- One step of CRC-64 over bytes (Table 9.9). -/
def crc64Feed (c : Nat) (bs : List Byte) : Nat := (bs.flatMap bitsLsb).foldl (crcStepR 0xC96C5795D7870F42) c

/-- CRC-64 (Table 9.9). -/
def crc64 (bs : List Byte) : Nat := crc64Feed 0xFFFFFFFFFFFFFFFF bs ^^^ 0xFFFFFFFFFFFFFFFF

/-! ## Veil -/

/-- A palette entry as a pixel, 10 bits a channel. -/
def palPx (e : Nat) : Px := ⟨1023, expand12 10 (fld e 29 20), expand12 10 (fld e 19 10), expand12 10 (fld e 9 0)⟩

/-- The dimming of R335. -/
def dimPx (rgb : Bool) (black neutral : Nat) (p : Px) : Px :=
  let up (d : Nat) : Nat := black + (max d black - black + 2) / 4
  if rgb then
    let y := (871 * p.c0 + 2929 * p.c1 + 296 * p.c2 + 2048) / 4096
    let f (c : Nat) : Nat := up ((3 * y + c + 2) / 4)
    { p with c0 := f p.c0, c1 := f p.c1, c2 := f p.c2 }
  else
    let g (c : Nat) : Nat := ((neutral : Int) + ((c : Int) - neutral) / 4).toNat
    { p with c0 := up p.c0, c1 := g p.c1, c2 := g p.c2 }

/-- True on a hatch pixel (R336). -/
def isHatch (x y : Nat) : Bool := decide ((x + y) % 8 < 2)

/-- The badge sizes of R337: 1 small, 2 medium, 3 large. -/
def badgeW (sz : Nat) : Nat := 48 * 2 ^ (sz - 1)

/-- Badge height. -/
def badgeH (sz : Nat) : Nat := 16 * 2 ^ (sz - 1)

/-- The size drawn in a region of a width and height (R337): 0 is the border. -/
def badgeSize (asked w h : Nat) : Nat :=
  let fits (sz : Nat) : Bool := decide (badgeW sz + 8 ≤ w) && decide (badgeH sz + 8 ≤ h)
  let top := if asked = 0 then 3 else asked
  if 3 ≤ top ∧ fits 3 then 3 else if 2 ≤ top ∧ fits 2 then 2 else if fits 1 then 1 else 0

/-! ## Output format -/

/-- The ordered dither matrix (R277). -/
def bayer (x y : Nat) : Nat :=
  ([0, 8, 2, 10, 12, 4, 14, 6, 3, 11, 1, 9, 15, 7, 13, 5].getD (4 * (y % 4) + x % 4) 0)

/-- A 12-bit value as n bits (R277). -/
def toBpc (n : Nat) (ordered : Bool) (x y v : Nat) : Nat :=
  if n = 12 then v
  else if !ordered then min (2 ^ n - 1) ((v + 2 ^ (11 - n)) / 2 ^ (12 - n))
  else min (2 ^ n - 1) ((v + bayer x y * 2 ^ (12 - n) / 16) / 2 ^ (12 - n))

end Sys2Proof.Machine
end

