-- ==== Sys2Proof/Machine/Crypto.lean ====
section
/-! DEFINITION. SHA-384 (FIPS 180-4, R89) and ECDSA P-384 verification and signing (FIPS 186-5, R91), written over natural numbers. The constants are those of the two standards (PRESUMED, log entry 4). -/

namespace Sys2Proof.Machine

/-- Round constants 0 to 19 of SHA-512 (FIPS 180-4, 4.2.3). -/
def shaK0 : List Nat := [0x428A2F98D728AE22, 0x7137449123EF65CD, 0xB5C0FBCFEC4D3B2F, 0xE9B5DBA58189DBBC, 0x3956C25BF348B538, 0x59F111F1B605D019, 0x923F82A4AF194F9B, 0xAB1C5ED5DA6D8118, 0xD807AA98A3030242, 0x12835B0145706FBE, 0x243185BE4EE4B28C, 0x550C7DC3D5FFB4E2, 0x72BE5D74F27B896F, 0x80DEB1FE3B1696B1, 0x9BDC06A725C71235, 0xC19BF174CF692694, 0xE49B69C19EF14AD2, 0xEFBE4786384F25E3, 0x0FC19DC68B8CD5B5, 0x240CA1CC77AC9C65]

/-- Round constants 20 to 39 of SHA-512 (FIPS 180-4, 4.2.3). -/
def shaK1 : List Nat := [0x2DE92C6F592B0275, 0x4A7484AA6EA6E483, 0x5CB0A9DCBD41FBD4, 0x76F988DA831153B5, 0x983E5152EE66DFAB, 0xA831C66D2DB43210, 0xB00327C898FB213F, 0xBF597FC7BEEF0EE4, 0xC6E00BF33DA88FC2, 0xD5A79147930AA725, 0x06CA6351E003826F, 0x142929670A0E6E70, 0x27B70A8546D22FFC, 0x2E1B21385C26C926, 0x4D2C6DFC5AC42AED, 0x53380D139D95B3DF, 0x650A73548BAF63DE, 0x766A0ABB3C77B2A8, 0x81C2C92E47EDAEE6, 0x92722C851482353B]

/-- Round constants 40 to 59 of SHA-512 (FIPS 180-4, 4.2.3). -/
def shaK2 : List Nat := [0xA2BFE8A14CF10364, 0xA81A664BBC423001, 0xC24B8B70D0F89791, 0xC76C51A30654BE30, 0xD192E819D6EF5218, 0xD69906245565A910, 0xF40E35855771202A, 0x106AA07032BBD1B8, 0x19A4C116B8D2D0C8, 0x1E376C085141AB53, 0x2748774CDF8EEB99, 0x34B0BCB5E19B48A8, 0x391C0CB3C5C95A63, 0x4ED8AA4AE3418ACB, 0x5B9CCA4F7763E373, 0x682E6FF3D6B2B8A3, 0x748F82EE5DEFB2FC, 0x78A5636F43172F60, 0x84C87814A1F0AB72, 0x8CC702081A6439EC]

/-- Round constants 60 to 79 of SHA-512 (FIPS 180-4, 4.2.3). -/
def shaK3 : List Nat := [0x90BEFFFA23631E28, 0xA4506CEBDE82BDE9, 0xBEF9A3F7B2C67915, 0xC67178F2E372532B, 0xCA273ECEEA26619C, 0xD186B8C721C0C207, 0xEADA7DD6CDE0EB1E, 0xF57D4F7FEE6ED178, 0x06F067AA72176FBA, 0x0A637DC5A2C898A6, 0x113F9804BEF90DAE, 0x1B710B35131C471B, 0x28DB77F523047D84, 0x32CAAB7B40C72493, 0x3C9EBE0A15C9BEBC, 0x431D67C49C100D4C, 0x4CC5D4BECB3E42B6, 0x597F299CFC657E2A, 0x5FCB6FAB3AD6FAEC, 0x6C44198C4A475817]

/-- The round constants of SHA-512. -/
def shaK : List Nat := shaK0 ++ shaK1 ++ shaK2 ++ shaK3

/-- The initial hash value of SHA-384 (FIPS 180-4, 5.3.4). -/
def shaInit : List Nat := [0xCBBB9D5DC1059ED8, 0x629A292A367CD507, 0x9159015A3070DD17, 0x152FECD8F70E5939, 0x67332667FFC00B31, 0x8EB44A8768581511, 0xDB0C2E0D64F98FA7, 0x47B5481DBEFA4FA4]

/-- Addition of 64-bit words. -/
def add64 (a b : Nat) : Nat := (a + b) % 2 ^ 64

/-- Rotation right of a 64-bit word. -/
def rotr64 (n a : Nat) : Nat := (a >>> n) ||| ((a <<< (64 - n)) % 2 ^ 64)

/-- The message schedule function σ0. -/
def shaS0 (x : Nat) : Nat := rotr64 1 x ^^^ rotr64 8 x ^^^ (x >>> 7)

/-- The message schedule function σ1. -/
def shaS1 (x : Nat) : Nat := rotr64 19 x ^^^ rotr64 61 x ^^^ (x >>> 6)

/-- The round function Σ0. -/
def shaB0 (x : Nat) : Nat := rotr64 28 x ^^^ rotr64 34 x ^^^ rotr64 39 x

/-- The round function Σ1. -/
def shaB1 (x : Nat) : Nat := rotr64 14 x ^^^ rotr64 18 x ^^^ rotr64 41 x

/-- Choice of bits. -/
def shaCh (x y z : Nat) : Nat := (x &&& y) ^^^ ((2 ^ 64 - 1 - x) &&& z)

/-- Majority of bits. -/
def shaMaj (x y z : Nat) : Nat := (x &&& y) ^^^ (x &&& z) ^^^ (y &&& z)

/-- Extends a message schedule, newest word first, by n words. -/
def shaSched : Nat → List Nat → List Nat
  | 0, w => w
  | n + 1, w => shaSched n (add64 (add64 (shaS1 (w.getD 1 0)) (w.getD 6 0)) (add64 (shaS0 (w.getD 14 0)) (w.getD 15 0)) :: w)

/-- The eight working variables. -/
structure ShaVars where
  a : Nat
  b : Nat
  c : Nat
  d : Nat
  e : Nat
  f : Nat
  g : Nat
  h : Nat
  deriving DecidableEq, Repr

/-- One round with its constant and schedule word. -/
def shaRound (v : ShaVars) (kw : Nat × Nat) : ShaVars :=
  let t1 := add64 (add64 (add64 v.h (shaB1 v.e)) (shaCh v.e v.f v.g)) (add64 kw.1 kw.2)
  let t2 := add64 (shaB0 v.a) (shaMaj v.a v.b v.c)
  { a := add64 t1 t2, b := v.a, c := v.b, d := v.c, e := add64 v.d t1, f := v.e, g := v.f, h := v.g }

/-- The compression of one block of 16 words into the hash value. -/
def shaBlock (hv : ShaVars) (ws : List Nat) : ShaVars :=
  let sched := (shaSched 64 ws.reverse).reverse
  let r := (shaK.zip sched).foldl shaRound hv
  { a := add64 hv.a r.a, b := add64 hv.b r.b, c := add64 hv.c r.c, d := add64 hv.d r.d,
    e := add64 hv.e r.e, f := add64 hv.f r.f, g := add64 hv.g r.g, h := add64 hv.h r.h }

/-- The padded message (FIPS 180-4, 5.1.2). -/
def shaPad (m : List Byte) : List Byte :=
  m ++ [0x80] ++ List.replicate ((239 - m.length % 128) % 128) 0 ++ be 16 (m.length * 8)

/-- Cuts n blocks of 16 big-endian words and compresses them in turn. -/
def shaRun : Nat → ShaVars → List Byte → ShaVars
  | 0, v, _ => v
  | n + 1, v, bs => shaRun n (shaBlock v ((List.range 16).map (fun i => ofBe ((bs.drop (8 * i)).take 8)))) (bs.drop 128)

/-- The initial working value. -/
def shaStart : ShaVars :=
  { a := shaInit.getD 0 0, b := shaInit.getD 1 0, c := shaInit.getD 2 0, d := shaInit.getD 3 0,
    e := shaInit.getD 4 0, f := shaInit.getD 5 0, g := shaInit.getD 6 0, h := shaInit.getD 7 0 }

/-- SHA-384: 48 digest bytes in the standard output order (R89). -/
def sha384 (m : List Byte) : List Byte :=
  let p := shaPad m
  let v := shaRun (p.length / 128) shaStart p
  be 8 v.a ++ be 8 v.b ++ be 8 v.c ++ be 8 v.d ++ be 8 v.e ++ be 8 v.f

/-- HMAC-SHA-384 (FIPS 198-1) with a key of at most 128 bytes. -/
def hmac384 (key m : List Byte) : List Byte :=
  let k := fit 128 (if key.length ≤ 128 then key else sha384 key)
  sha384 (k.map (· ^^^ 0x5C) ++ sha384 (k.map (· ^^^ 0x36) ++ m))

/-- The field prime of P-384. -/
def p384P : Nat := 2 ^ 384 - 2 ^ 128 - 2 ^ 96 + 2 ^ 32 - 1

/-- The group order of P-384. -/
def p384N : Nat := 0xffffffffffffffffffffffffffffffffffffffffffffffffc7634d81f4372ddf581a0db248b0a77aecec196accc52973

/-- The coefficient b of P-384. -/
def p384B : Nat := 0xb3312fa7e23ee7e4988e056be3f82d19181d9c6efe8141120314088f5013875ac656398d8a2ed19d2a85c8edd3ec2aef

/-- The base point of P-384. -/
def p384G : Nat × Nat :=
  (0xaa87ca22be8b05378eb1c71ef320ad746e1d3b628ba79b9859f741e082542a385502f25dbf55296c3a545e3872760ab7,
   0x3617de4a96262c6f5d9e98bf9292dc29f8f41dbd289a147ce9da3113b5f0b8c00a60b1ce1d7e819d7a431d7c90ea0e5f)

/-- Modular power by the low n bits of the exponent. -/
def powMod (m : Nat) : Nat → Nat → Nat → Nat
  | 0, _, _ => 1 % m
  | n + 1, b, e =>
    let r := powMod m n (b * b % m) (e / 2)
    if e % 2 = 1 then b * r % m else r

/-- Inverse modulo a 384-bit prime. -/
def invMod (m a : Nat) : Nat := powMod m 384 (a % m) (m - 2)

/-- Difference modulo p. -/
def subP (a b : Nat) : Nat := (a + p384P - b % p384P) % p384P

/-- A point of P-384 in Jacobian coordinates; Z = 0 is the point at infinity. -/
structure JPoint where
  x : Nat
  y : Nat
  z : Nat
  deriving DecidableEq, Repr

/-- Product modulo p. -/
def mulP (a b : Nat) : Nat := a * b % p384P

/-- Double of a point. -/
def ecDbl (q : JPoint) : JPoint :=
  let d := mulP q.z q.z
  let g := mulP q.y q.y
  let b := mulP q.x g
  let a := mulP (3 * subP q.x d) (q.x + d)
  let x3 := subP (mulP a a) (8 * b)
  { x := x3, y := subP (mulP a (subP (4 * b) x3)) (8 * mulP g g), z := subP (mulP (q.y + q.z) (q.y + q.z)) (g + d) }

/-- Sum of two points. -/
def ecAdd (p q : JPoint) : JPoint :=
  if p.z = 0 then q
  else if q.z = 0 then p
  else
    let z1 := mulP p.z p.z
    let z2 := mulP q.z q.z
    let u1 := mulP p.x z2
    let u2 := mulP q.x z1
    let s1 := mulP p.y (mulP q.z z2)
    let s2 := mulP q.y (mulP p.z z1)
    if u1 = u2 then (if s1 = s2 then ecDbl p else { x := 1, y := 1, z := 0 })
    else
      let h := subP u2 u1
      let r := subP s2 s1
      let hh := mulP h h
      let hhh := mulP h hh
      let v := mulP u1 hh
      let x3 := subP (mulP r r) (hhh + 2 * v)
      { x := x3, y := subP (mulP r (subP v x3)) (mulP s1 hhh), z := mulP h (mulP p.z q.z) }

/-- Multiple of a point by the low n bits of a scalar. -/
def ecMul : Nat → Nat → JPoint → JPoint
  | 0, _, _ => { x := 1, y := 1, z := 0 }
  | n + 1, k, q =>
    let r := ecMul n (k / 2) (ecDbl q)
    if k % 2 = 1 then ecAdd q r else r

/-- A point of an affine pair. -/
def ofAffine (q : Nat × Nat) : JPoint := { x := q.1, y := q.2, z := 1 }

/-- The affine pair of a point, none at infinity. -/
def toAffine (q : JPoint) : Option (Nat × Nat) :=
  if q.z = 0 then none
  else
    let zi := invMod p384P q.z
    let z2 := mulP zi zi
    some (mulP q.x z2, mulP q.y (mulP zi z2))

/-- True where a point lies on the curve. -/
def onP384 (q : Nat × Nat) : Bool :=
  decide (q.1 < p384P) && decide (q.2 < p384P) && (q.2 * q.2) % p384P == (q.1 * q.1 * q.1 + (p384P - 3) * q.1 + p384B) % p384P

/-- ECDSA P-384 verification: a 96-byte public key (x then y, big-endian), a digest, a 96-byte signature (r then s, big-endian). -/
def ecdsaVerify (key digest sig : List Byte) : Bool :=
  let q := (ofBe (key.take 48), ofBe ((key.drop 48).take 48))
  let r := ofBe (sig.take 48)
  let s := ofBe ((sig.drop 48).take 48)
  let z := ofBe digest
  let w := invMod p384N s
  let pt := toAffine (ecAdd (ecMul 384 (z * w % p384N) (ofAffine p384G)) (ecMul 384 (r * w % p384N) (ofAffine q)))
  onP384 q && decide (0 < r) && decide (r < p384N) && decide (0 < s) && decide (s < p384N) &&
    (match pt with
     | none => false
     | some (x, _) => x % p384N == r)

/-- ECDSA P-384 signing of a digest with a private key and a per-signature value (R91, R636). -/
def ecdsaSign (d k : Nat) (digest : List Byte) : List Byte :=
  match toAffine (ecMul 384 k (ofAffine p384G)) with
  | none => be 96 0
  | some (x, _) =>
    let r := x % p384N
    be 48 r ++ be 48 (invMod p384N k * ((ofBe digest + r * d) % p384N) % p384N)

/-- The candidates of RFC 6979: the first k in [1, n-1] among at most a number of rounds. -/
def rfcLoop : Nat → List Byte → List Byte → Nat
  | 0, _, _ => 1
  | f + 1, key, v =>
    let v' := hmac384 key v
    let k := ofBe v'
    if 0 < k ∧ k < p384N then k
    else
      let key' := hmac384 key (v' ++ [0])
      rfcLoop f key' (hmac384 key' v')

/-- The deterministic per-signature value of RFC 6979 with SHA-384 (R636). -/
def rfc6979 (d : Nat) (digest : List Byte) : Nat :=
  let xh := be 48 d ++ be 48 (ofBe digest % p384N)
  let v0 : List Byte := List.replicate 48 1
  let k1 := hmac384 (List.replicate 48 0) (v0 ++ [0] ++ xh)
  let v1 := hmac384 k1 v0
  let k2 := hmac384 k1 (v1 ++ [1] ++ xh)
  rfcLoop 16 k2 (hmac384 k2 v1)

/-- The device's signature over a message digest (R636). -/
def deviceSign (d : Nat) (digest : List Byte) : List Byte := ecdsaSign d (rfc6979 d digest) digest

/-- The journal sealing key from the device identity key (R636): the ASCII string is TAOTH-SEAL. -/
def sealingKey (identity : Nat) : Nat :=
  ofBe (hmac384 (be 48 identity) [0x54, 0x41, 0x4F, 0x54, 0x48, 0x2D, 0x53, 0x45, 0x41, 0x4C]) % (p384N - 1) + 1

/-- The public key of a private key, 96 bytes. -/
def ecPublic (d : Nat) : List Byte :=
  match toAffine (ecMul 384 d (ofAffine p384G)) with
  | none => be 96 0
  | some (x, y) => be 48 x ++ be 48 y

end Sys2Proof.Machine
end

