-- ==== Sys2Proof/Machine/Tbl.lean ====
section
/-! DEFINITION. Sparse tables keyed by number, in one canonical order (keys strictly rising). The state holds its register arrays and its units in them. -/

namespace Sys2Proof.Machine

/-- A table: pairs of key and value, keys strictly rising. -/
abbrev Tbl (α : Type) := List (Nat × α)

/-- The entry of a key. -/
def Tbl.find {α : Type} : Tbl α → Nat → Option α
  | [], _ => none
  | (k, v) :: t, n => if k = n then some v else Tbl.find t n

/-- The entry of a key, or a value for an unlisted key. -/
def Tbl.at {α : Type} (t : Tbl α) (d : α) (n : Nat) : α := (Tbl.find t n).getD d

/-- Writes an entry, keeping the order. -/
def Tbl.put {α : Type} : Tbl α → Nat → α → Tbl α
  | [], n, v => [(n, v)]
  | (k, w) :: t, n, v => if n < k then (n, v) :: (k, w) :: t else if n = k then (n, v) :: t else (k, w) :: Tbl.put t n v

/-- Removes an entry. -/
def Tbl.del {α : Type} : Tbl α → Nat → Tbl α
  | [], _ => []
  | (k, w) :: t, n => if k = n then t else (k, w) :: Tbl.del t n

/-- Changes an entry that is there. -/
def Tbl.upd {α : Type} : Tbl α → Nat → (α → α) → Tbl α
  | [], _, _ => []
  | (k, w) :: t, n, f => if k = n then (k, f w) :: t else (k, w) :: Tbl.upd t n f

/-- True where a key is listed. -/
def Tbl.has {α : Type} (t : Tbl α) (n : Nat) : Bool := (Tbl.find t n).isSome

/-- The lowest key in [lo, lo+fuel) that is not listed. -/
def Tbl.lowestFree {α : Type} (t : Tbl α) : Nat → Nat → Option Nat
  | 0, _ => none
  | f + 1, lo => if Tbl.has t lo then Tbl.lowestFree t f (lo + 1) else some lo

/-- True where keys strictly rise from a bound. -/
def Tbl.risingFrom {α : Type} : Nat → Tbl α → Bool
  | _, [] => true
  | b, (k, _) :: t => decide (b ≤ k) && Tbl.risingFrom (k + 1) t

/-- The canonical order: keys strictly rising. -/
def Tbl.sorted {α : Type} (t : Tbl α) : Bool := Tbl.risingFrom 0 t

/-- A saturating counter array's element. -/
def Tbl.cnt (t : Tbl Nat) (n : Nat) : Nat := Tbl.at t 0 n

/-- One more on a saturating counter array's element (R634). -/
def Tbl.inc (t : Tbl Nat) (n : Nat) : Tbl Nat := Tbl.put t n (satInc (Tbl.cnt t n))

/-- More on a saturating counter array's element (R634). -/
def Tbl.addTo (t : Tbl Nat) (n k : Nat) : Tbl Nat := Tbl.put t n (satAdd (Tbl.cnt t n) k)

/-- The values of a table. -/
def Tbl.vals {α : Type} (t : Tbl α) : List α := t.map Prod.snd

/-- The keys of a table. -/
def Tbl.keys {α : Type} (t : Tbl α) : List Nat := t.map Prod.fst

/-- Applies a function to every value. -/
def Tbl.mapVals {α : Type} (t : Tbl α) (f : Nat → α → α) : Tbl α := t.map (fun e => (e.1, f e.1 e.2))

/-- The entries whose key and value satisfy a test. -/
def Tbl.keep {α : Type} (t : Tbl α) (f : Nat → α → Bool) : Tbl α := t.filter (fun e => f e.1 e.2)

end Sys2Proof.Machine
end

