-- ==== Sys2Proof/Machine/Mem.lean ====
section
/-! DEFINITION. Byte memories in canonical form: cells at strictly rising addresses, none equal to what an unlisted address reads as (0, DESIGN CHOICE, log entry 3). -/

namespace Sys2Proof.Machine

/-- A memory: its listed bytes. -/
abbrev Memory := List Host.Cell

/-- What an unlisted address reads as (log entry 3). -/
def unlisted : Byte := 0

/-- The byte at an address. -/
def Memory.rd (m : Memory) (a : Nat) : Byte := Tbl.at m unlisted a

/-- Writes one byte, keeping the canonical form. -/
def Memory.wr (m : Memory) (a : Nat) (b : Byte) : Memory := if b = unlisted then Tbl.del m a else Tbl.put m a b

/-- The n bytes from an address. -/
def Memory.rdN (m : Memory) (a : Nat) : Nat → List Byte
  | 0 => []
  | n + 1 => Memory.rd m a :: Memory.rdN m (a + 1) n

/-- Writes bytes from an address upward. -/
def Memory.wrN (m : Memory) (a : Nat) : List Byte → Memory
  | [] => m
  | b :: bs => Memory.wrN (Memory.wr m a b) (a + 1) bs

/-- True where no listed byte equals the unlisted value. -/
def Memory.lean : Memory → Bool
  | [] => true
  | (_, b) :: t => b != unlisted && Memory.lean t

/-- The canonical form. -/
def Memory.wf (m : Memory) : Bool := Tbl.sorted m && Memory.lean m

end Sys2Proof.Machine
end

