-- ==== Sys2Proof/Machine/CoreTypes.lean ====
section
/-! DEFINITION. The state of chapters 1 to 3 that every command touches: device time, units and generations, slices and rings, host memory and the DTU, mailboxes, share records, the journal, commands owed a completion. -/

namespace Sys2Proof.Machine

/-- The status codes of Table 2.5. -/
inductive Status where
  | served | servedLate | servedPartial
  | delayedShare | delayedSecureRestart | delayedUnitBusy | deferredSecureLease
  | refusedShare | refusedBand | refusedLocked | refusedUnitReset | refusedJournalFull | refusedLinebufShort | refusedNotApproved | refusedHeapSmall
  | rejectedMalformed | rejectedOpcode | rejectedUnit | rejectedVersion | rejectedPermission | rejectedLength | rejectedSequence | rejectedNoSession | rejectedCycle
  | failed | failedHeap | failedMemory | failedTimeout | failedLink | failedUnitReset
  | discardedGeneration | discardedInstanceReset
  deriving DecidableEq, Repr

/-- The phases of Table 1.10. -/
inductive Phase where
  | active | draining | quiet | off
  deriving DecidableEq, Repr

/-- A unit in transition (Table 1.10): its phase, what for, what is queued behind (R44), the items discarded, the device time it began (R43). An unlisted unit is as its power domain leaves it. -/
structure UnitTr where
  phase : Phase
  kind : Transition
  queued : List Transition
  discarded : Nat
  began : Nat
  deriving DecidableEq, Repr

/-- A group unit (R37, R51). -/
structure Group where
  owner : Nat
  members : List Nat
  deriving DecidableEq, Repr

/-- Slice states of Table 3.1 other than NONE, which is absence from the table. -/
inductive SliceSt where
  | opened | session | halted | draining
  deriving DecidableEq, Repr

/-- Fields of the slice control block that the device latches (R110). -/
structure Rings where
  subBase : Nat
  cmpBase : Nat
  stsBase : Nat
  fltBase : Nat
  sizes : Nat
  vectors : Nat
  deriving DecidableEq, Repr

/-- A write position of a device-written ring: next offset and PHASE (R57). -/
structure RingPos where
  next : Nat
  phase : Bool
  deriving DecidableEq, Repr

/-- An authenticated session (R501, R502): its key slot and opening time. -/
structure Auth where
  slot : Nat
  opened : Nat
  deriving DecidableEq, Repr

/-- A session challenge (R501): value, issue time and the generation it was issued to. -/
structure Challenge where
  value : List Byte
  issued : Nat
  gen : Gen
  deriving DecidableEq, Repr

/-- One slice (R106). -/
structure Slice where
  st : SliceSt
  pasid : Nat
  disable : Bool
  cb : Nat
  s1base : Nat
  ver : Nat
  rings : Rings
  subHead : Nat
  tail : Nat
  visible : List Packet
  cmp : RingPos
  sts : RingPos
  flt : RingPos
  lastAccepted : Nat
  lastCompleted : Nat
  outstanding : Nat
  lastJseq : Nat
  cmpStall : Bool
  jrnWait : Bool
  countedToken : Bool
  countedBuffer : Bool
  auth : Option Auth
  challenge : Option Challenge
  deriving DecidableEq, Repr

/-- Who issued a packet: the secure firmware, or a slice of an instance, here or at another wall position (R563). -/
structure Who where
  secure : Bool
  inst : Nat
  slice : Nat
  remote : Option Nat
  deriving DecidableEq, Repr

/-- What a command that has no final completion yet waits for. -/
inductive Wait where
  /-- its journal record's durability, with the completion already known (R61) -/
  | durable (jseq : Nat) (st : Status) (r0 r1 r2 : Nat)
  /-- the end of a SEC restart (R523) -/
  | secRestart
  /-- its place in the admission ranking (R126) -/
  | share (resource : Nat) (band : Nat)
  /-- a unit to become free, drained or ready (R42, R75) -/
  | unit (u : Nat)
  /-- the SEC's lease on a unit (R506) -/
  | lease (u : Nat)
  /-- room in the journal buffer, at the SEC port (R639) -/
  | journalRoom
  /-- the end of engine work with this number (jobs, copies, scans, passes) -/
  | work (n : Nat)
  /-- the forwarded packet's completion from another device of the wall (R563) -/
  | remote (pos : Nat)
  deriving DecidableEq, Repr

/-- A packet taken that has no final completion yet (R67). -/
structure Owed where
  who : Who
  pk : Packet
  op : Nat
  wait : Wait
  started : Bool
  since : Nat
  jseq : Nat
  delayed : Bool
  group : Option Nat
  deriving DecidableEq, Repr

/-- A group command of which some member is not finished (R38). -/
structure GroupRun where
  who : Who
  pk : Packet
  op : Nat
  remaining : Nat
  served : Nat
  late : Nat
  failed : Nat
  firstFail : Option Status
  jseq : Nat
  delayed : Bool
  deriving DecidableEq, Repr

/-- A manager notification (R114); key names the unit for the types that are kept. -/
structure Notif where
  type : Nat
  inst : Nat
  dt : Nat
  key : Nat
  data : List Byte
  deriving DecidableEq, Repr

/-- A cached translation of the DTU (R120). -/
structure TlbEntry where
  inst : Nat
  pasid : Nat
  stage : Nat
  gen : Gen
  page : Nat
  target : Nat
  read : Bool
  write : Bool
  deriving DecidableEq, Repr

/-- A DTU stage-2 context (R116). -/
structure Stage2 where
  base : Nat
  enabled : Bool
  deriving DecidableEq, Repr

/-- An MSI-X vector (Table 20.3, Table 20.6): message address, data, mask. -/
structure Msix where
  addr : Nat
  data : Nat
  masked : Bool
  deriving DecidableEq, Repr

/-- Interrupts to MGMT, to the SEC and to the manager that the rules name. -/
inductive Irq where
  | mgmtLinkDegraded | mgmtPace | managerPace | mgmtRetrainLate | mgmtCeStorm | mgmtLatentUe | mgmtMemFrozen | mgmtVmon | mgmtThermal | mgmtPeat | mgmtFrond
  | secLinkAuth | secSigFault | secTamper | secRegion | secMustUpdate | secUnderrun
  deriving DecidableEq, Repr

/-- A share record (Table 3.8). -/
structure Share where
  bands : Nat
  exportOk : Bool
  weight : Nat
  refOutput : Nat
  resAMemA : Nat
  resBMemA : Nat
  resAMemB : Nat
  resBMemB : Nat
  rasterUs : Nat
  rasterAUs : Nat
  pcmUs : Nat
  pcmAUs : Nat
  layerQuota : Nat
  maxSlices : Nat
  streamRx : Nat
  jrnRate : Nat
  tagQuota : Nat
  dAge : Nat
  dDepth : Nat
  deriving DecidableEq, Repr

/-- Counters of ADMISSION_STATUS (R131), per instance. -/
structure AdmCount where
  delayed : Nat
  refused : Nat
  late : Nat
  shownNew : Nat
  shownHeld : Nat
  notShown : Nat
  veiled : Nat
  dropped : Nat
  bandCDelay : Nat
  deriving DecidableEq, Repr

/-- An instance or slice reset (R135 to R141) with the counts of R138: begun, or an instance's that waits for its slices' resets (R141). -/
structure ResetRun where
  start : Nat
  oldGen : Gen
  completions : Nat
  dma : Nat
  tiles : Nat
  decodes : Nat
  layers : Nat
  surfaces : Nat
  flr : Bool
  queued : Bool
  deriving DecidableEq, Repr

/-- The states of Table 2.11. -/
inductive JState where
  | recovering | active | nearFull | full
  deriving DecidableEq, Repr

/-- A journal record (Table 2.8) without its CHAIN bytes, which follow from the chain state. -/
structure JRec where
  jseq : Nat
  dt : Nat
  secure : Bool
  event : Bool
  inst : Nat
  slice : Nat
  gen : Nat
  opcode : Nat
  status : Nat
  unit : Nat
  seqArg : Nat
  digest : List Byte
  chain : List Byte
  deriving DecidableEq, Repr

/-- A seal block (Table 2.9). -/
structure Seal where
  jseq : Nat
  dt : Nat
  h : List Byte
  keyId : List Byte
  sig : List Byte
  deriving DecidableEq, Repr

/-- An item of the journal: a record or a seal block. -/
inductive JItem where
  | record (r : JRec)
  | seal (s : Seal)
  deriving DecidableEq, Repr

/-- A journal event that waits for the chain to be rebuilt (R637). -/
structure JEvent where
  code : Nat
  inst : Nat
  gen : Nat
  unit : Nat
  arg : Nat
  data : List Byte
  deriving DecidableEq, Repr

/-- The open export (R101). -/
structure Export where
  id : Nat
  first : Nat
  last : Nat
  deriving DecidableEq, Repr

/-- The journal engine, its buffer and the JOURNAL partition's content (R82 to R102, R637, R642). -/
structure Jrn where
  st : JState
  nextJseq : Nat
  chain : List Byte
  buffer : List JItem
  flushing : List JItem
  part : List JItem
  capacity : Nat
  blockBytes : Nat
  durable : Nat
  sealed : Nat
  sinceSeal : Nat
  sealTimer : Nat
  resumed : Bool
  exported : Nat
  openExport : Option Export
  exports : Nat
  formats : Nat
  waiting : List JEvent
  eventLost : Nat
  lostSince : Nat
  bufferWait : Nat
  warned : Nat
  regulated : Bool
  /-- records restored from a power-fail reserve and not yet appended as POWER_FAIL (R540) -/
  restored : Nat
  /-- the two power-fail reserve areas: erased or not (R538) -/
  reserves : List Bool
  deriving DecidableEq, Repr

/-- The compatibility map (R78, R79): FDX-4410 unit ID to FDX-8840 unit ID and BAND_B; device-made entries are marked. -/
structure CompatEntry where
  unit : Nat
  bandB : Bool
  made : Bool
  deriving DecidableEq, Repr

/-- The part of the state that taking, journaling and completing a command may change (chapters 1 to 3). -/
structure Core where
  dt : BitVec 64
  freeCtr : Nat
  rdData : List Byte
  gens : Tbl Gen
  trans : Tbl UnitTr
  discClass : Tbl Nat
  discGen : Tbl Nat
  discReset : Tbl Nat
  groups : Tbl Group
  groupRuns : Tbl GroupRun
  owed : List Owed
  nextWork : Nat
  slices : Tbl Slice
  secCmp : List (List Byte)
  secSeq : Nat
  fltLost : Tbl Nat
  jrnReject : Tbl Nat
  admJrnWait : Tbl Nat
  host : Memory
  stage2 : Tbl Stage2
  tlb : List TlbEntry
  dtuFaults : Nat
  slice0Cb : Nat
  ready : Bool
  mboxUp : Nat
  mboxDown : Nat
  upHead : Nat
  up : RingPos
  waitingN : List Notif
  keptN : List Notif
  mboxLost : Nat
  vfReq : Tbl (List Byte)
  vfRsp : Tbl (List Byte)
  vfBusy : Tbl Bool
  vfReply : Tbl Bool
  vfAsked : Tbl Bool
  msix : Tbl Msix
  pba : List Nat
  irqs : List Irq
  shares : Tbl Share
  sharesPending : Tbl Share
  tokens : Tbl Nat
  tokenTime : Tbl Nat
  adm : Tbl AdmCount
  deficits : Tbl Nat
  resets : Tbl ResetRun
  compat : Tbl CompatEntry
  pos : Nat
  inWall : Bool
  wallMaster : Bool
  reachable : List Nat
  fwdIn : List (Who × Packet)
  fwdOut : List (Nat × Who × Packet)
  fwdReplies : List (Nat × List Byte)
  fwdLost : Nat
  jrn : Jrn
  deriving DecidableEq, Repr

end Sys2Proof.Machine
end

