-- ==== Sys2Proof/Machine/Operands.lean ====
section
/-! DEFINITION. Reading a packet's operands: header fields (Table 2.1), unit IDs (Table 1.8, Table 1.9), parameter words; and the digest bytes of a packet. -/

namespace Sys2Proof.Machine

/-- The opcode of a packet. -/
def Packet.op (p : Packet) : Nat := p.opcode.toNat

/-- JOURNAL, FENCE, SYNC and QUERY flags of a packet (Table 2.1). -/
def pkJournal (p : Packet) : Bool := p.flags.getLsbD 0

/-- FENCE. -/
def pkFence (p : Packet) : Bool := p.flags.getLsbD 1

/-- SYNC. -/
def pkSync (p : Packet) : Bool := p.flags.getLsbD 2

/-- QUERY. -/
def pkQuery (p : Packet) : Bool := p.flags.getLsbD 3

/-- The reserved header bits are 0 (step 7). -/
def pkReservedOk (p : Packet) : Bool := p.flags.toNat < 16

/-- VER_MAJOR. -/
def pkMajor (p : Packet) : Nat := p.ver.toNat / 16

/-- VER_MINOR. -/
def pkMinor (p : Packet) : Nat := p.ver.toNat % 16

/-- UNIT as a number. -/
def pkUnit (p : Packet) : Nat := p.unit.toNat

/-- Parameter word n as a number; words that are not there read 0. -/
def pkW (p : Packet) (n : Nat) : Nat := (p.words.getD n 0).toNat

/-- Bits [hi:lo] of parameter word n. -/
def pkF (p : Packet) (n hi lo : Nat) : Nat := fld (pkW p n) hi lo

/-- Number of parameter words that LENGTH gives: LENGTH less the two words of the header. -/
def pkN (p : Packet) : Nat := p.length.toNat - 2

/-- The packet's first n parameter words are these many, no more (LENGTH is the header and n words). -/
def pkLen (p : Packet) (n : Nat) : Bool := p.length.toNat == n + 2

/-- Cascade position of a unit ID. -/
def uPos (u : Nat) : Nat := fld u 31 28

/-- Class of a unit ID. -/
def uCls (u : Nat) : Nat := fld u 27 20

/-- INDEX of a unit ID. -/
def uIdx (u : Nat) : Nat := fld u 19 8

/-- SUB of a unit ID. -/
def uSub (u : Nat) : Nat := fld u 7 0

/-- The 20-bit number of a unit ID (R35). -/
def uNum (u : Nat) : Nat := fld u 19 0

/-- A unit ID without its cascade position: the key of the unit tables. -/
def uKey (u : Nat) : Nat := fld u 27 0

/-- The unit ID of a class, INDEX and SUB at POS 0. -/
def uid (cls idx sub : Nat) : Nat := cls * 0x100000 + idx * 256 + sub

/-- The unit ID of a class and a 20-bit number. -/
def uidN (cls n : Nat) : Nat := cls * 0x100000 + n

/-- The unit of a slice. -/
def sliceUnit (inst idx : Nat) : Nat := uid 0x02 inst idx

/-- The key of a slice in the slice table. -/
def sliceKey (inst idx : Nat) : Nat := inst * 256 + idx

/-- The general group classes (Table 1.9). -/
def isGeneral (cls : Nat) : Bool := decide (0xF5 ≤ cls) && decide (cls ≤ 0xFE)

/-- The group classes that GROUP_CREATE makes (R51). -/
def isMadeGroup (cls : Nat) : Bool := cls == 0xF1 || cls == 0xF3 || isGeneral cls

/-- True where a unit ID names a class and range of Table 1.9 (R36). -/
def unitInRange (u : Nat) : Bool :=
  let i := uIdx u
  let k := uSub u
  let lim (n : Nat) : Bool := decide (i < n) && k == 0
  match uCls u with
  | 0x00 => lim 1
  | 0x01 => lim 64
  | 0x02 => decide (i < 64)
  | 0x08 => lim 2
  | 0x10 => lim 2
  | 0x11 => true
  | 0x12 => (decide (i < 2) && decide (k < 64)) || (i == 2 && decide (k < 32)) || (i == 3 && decide (k < 9))
  | 0x20 => lim 9
  | 0x21 => decide (i < 9) && decide (k < 16)
  | 0x22 => lim 8
  | 0x23 => decide (i < 9) && decide (k < 4)
  | 0x24 => lim 1
  | 0x30 => lim 4
  | 0x40 => lim 4
  | 0x41 => lim 64
  | 0x42 => lim 8
  | 0x50 => true
  | 0x51 => decide (uNum u < 65536)
  | 0x52 => decide (i < 9) && decide (k < 64)
  | 0x53 => lim 40
  | 0x60 => lim 8
  | 0x61 => lim 8
  | 0x62 => lim 256
  | 0x70 => lim 48
  | 0x71 => lim 32
  | 0x72 => lim 16
  | 0x73 => lim 1
  | 0x74 => lim 2
  | 0x80 => lim 9
  | 0x81 => lim 1
  | 0x90 => lim 2
  | 0x91 => lim 1
  | 0xA0 => lim 12
  | 0xA1 => lim 96
  | 0xF0 => lim 1
  | 0xF4 => lim 1
  | 0xF1 => k == 0
  | 0xF2 => k == 0
  | 0xF3 => k == 0
  | c => isGeneral c && k == 0

/-- UNIT names this class, in range, with the index and sub of R34. -/
def pkIs (p : Packet) (cls : Nat) : Bool := uCls (pkUnit p) == cls && unitInRange (pkUnit p)

/-- UNIT names the device. -/
def pkDevice (p : Packet) : Bool := pkIs p 0x00

/-- The bytes of a packet as fetched (Table 2.1), the input of its DIGEST (Table 2.8). -/
def pkBytes (p : Packet) : List Byte :=
  le 2 p.opcode.toNat ++ [p.flags, p.ver] ++ le 2 p.length.toNat ++ le 2 p.gen.toNat ++ le 4 p.unit.toNat ++ le 4 p.seq.toNat
    ++ p.words.flatMap (fun w => le 8 w.toNat)

/-- Words from bytes, n of them. -/
def wordsOf : Nat → List Byte → List Word64
  | 0, _ => []
  | n + 1, bs => BitVec.ofNat 64 (ofLe (bs.take 8)) :: wordsOf n (bs.drop 8)

/-- A packet from the bytes of its header and words (R59). -/
def pkOfBytes (bs : List Byte) : Packet :=
  { opcode := BitVec.ofNat 16 (ofLe (bs.take 2)), flags := bs.getD 2 0, ver := bs.getD 3 0,
    length := BitVec.ofNat 16 (ofLe ((bs.drop 4).take 2)), gen := BitVec.ofNat 16 (ofLe ((bs.drop 6).take 2)),
    unit := BitVec.ofNat 32 (ofLe ((bs.drop 8).take 4)), seq := BitVec.ofNat 32 (ofLe ((bs.drop 12).take 4)),
    words := wordsOf ((bs.length - 16) / 8) (bs.drop 16) }

/-- The bytes of parameter words n to n + k - 1. -/
def pkSpan (p : Packet) (n k : Nat) : List Byte := (List.range k).flatMap (fun i => le 8 (pkW p (n + i)))

/-- The code of a status (Table 2.5). -/
def Status.code : Status → Nat
  | .served => 0x0000
  | .servedLate => 0x0001
  | .servedPartial => 0x0002
  | .delayedShare => 0x0100
  | .delayedSecureRestart => 0x0101
  | .delayedUnitBusy => 0x0102
  | .deferredSecureLease => 0x0103
  | .refusedShare => 0x0200
  | .refusedBand => 0x0201
  | .refusedLocked => 0x0202
  | .refusedUnitReset => 0x0203
  | .refusedJournalFull => 0x0204
  | .refusedLinebufShort => 0x0205
  | .refusedNotApproved => 0x0206
  | .refusedHeapSmall => 0x0207
  | .rejectedMalformed => 0x0300
  | .rejectedOpcode => 0x0301
  | .rejectedUnit => 0x0302
  | .rejectedVersion => 0x0303
  | .rejectedPermission => 0x0304
  | .rejectedLength => 0x0305
  | .rejectedSequence => 0x0306
  | .rejectedNoSession => 0x0307
  | .rejectedCycle => 0x0308
  | .failed => 0x0400
  | .failedHeap => 0x0401
  | .failedMemory => 0x0402
  | .failedTimeout => 0x0403
  | .failedLink => 0x0404
  | .failedUnitReset => 0x0405
  | .discardedGeneration => 0x0500
  | .discardedInstanceReset => 0x0501

/-- The outcome class of a status (R13): 0 served, 1 delayed, 2 refused, 3 rejected, 4 failed, 5 discarded. -/
def Status.cls (s : Status) : Nat := s.code / 256

/-- Table 2.14 but for NOP and NEGOTIATE: the FDX-4410 opcode and the FDX-8840 opcode it acts as. -/
def compatTarget : List (Nat × Nat) :=
  [(0x10, 0x0200), (0x11, 0x0201), (0x12, 0x0202), (0x13, 0x0206), (0x20, 0x0300), (0x21, 0x0301), (0x22, 0x0302), (0x30, 0x0405), (0x40, 0x0B01), (0x41, 0x0B02), (0x42, 0x0B04),
   (0x50, 0x0D00), (0x51, 0x0D01)]

/-- True of the opcodes that a compatibility session's packets are executed as (R76). -/
def isCompatOp (op : Nat) : Bool := decide (0x7F00 ≤ op) && decide (op < 0x7F80)

/-- The opcode that an opcode acts as (R77). -/
def asOp (op : Nat) : Nat := if isCompatOp op then ((compatTarget.find? (fun e => e.1 == op - 0x7F00)).map Prod.snd).getD op else op

/-- The statuses a compatibility session returns unchanged (Table 2.15). -/
def compatKeeps (code : Nat) : Bool :=
  [0x0000, 0x0001, 0x0102, 0x0200, 0x0202, 0x0203, 0x0300, 0x0301, 0x0302, 0x0303, 0x0304, 0x0305, 0x0306, 0x0307, 0x0400].contains code

end Sys2Proof.Machine
end

