-- ==== Sys2Proof/Machine/Ops.lean ====
section
/-! DEFINITION. The operations every command shares, over the core of the state: free values, generations, the DTU, ring entries, notifications, interrupts, the journal and completions. -/

namespace Sys2Proof.Machine

/-- Device time in ns (R10). -/
def Core.now (c : Core) : Nat := c.dt.toNat

/-- The next free value (log entry 5). -/
def Core.free (c : Core) : Nat := (Config.freeValue c.freeCtr).toNat

/-- Marks n free values as used. -/
def Core.useFree (c : Core) (n : Nat) : Core := { c with freeCtr := c.freeCtr + n }

/-- n bytes of free values. -/
def Core.freeBytes (c : Core) (n : Nat) : List Byte := (List.range n).map (fun i => (Config.freeValue (c.freeCtr + i)).truncate 8)

/-- A unit ID of this device: with its cascade position (Table 1.8). -/
def Core.here (c : Core) (u : Nat) : Nat := c.pos * 2 ^ 28 + uKey u

/-- The current generation of a unit (R40). -/
def Core.genOf (c : Core) (u : Nat) : Gen := Tbl.at c.gens 1 (uKey u)

/-- The generation after a generation: 0x0000 is never assigned (R40). -/
def nextGen (g : Gen) : Gen := if g = 0xFFFF then 1 else g + 1

/-- Increments the generation of a unit (R40). -/
def Core.bump (c : Core) (u : Nat) : Core := { c with gens := Tbl.put c.gens (uKey u) (nextGen (c.genOf u)) }

/-- Takes the device's own compatibility map entry of a unit out (R78). -/
def Core.unmap (c : Core) (u : Nat) : Core := { c with compat := c.compat.filter (fun e => !(e.2.made && e.2.unit == u)) }

/-- Counts an item discarded for an old generation by its receiving unit (R41, R142). -/
def Core.countOldGen (c : Core) (u : Nat) : Core :=
  let c1 : Core := { c with discClass := Tbl.inc c.discClass (uCls u) }
  if uCls u = 0x01 ∨ uCls u = 0x02 then { c1 with discGen := Tbl.inc c1.discGen (uIdx u) } else c1

/-- Raises an interrupt of the device's own processors or of the manager. -/
def Core.irq (c : Core) (i : Irq) : Core := if i ∈ c.irqs then c else { c with irqs := c.irqs ++ [i] }

/-! ## The DTU -/

/-- True where a descriptor keeps the rules of Table 3.5 at its level (1 to 4). -/
def descOk (lvl d : Nat) : Bool :=
  bitOf d 0 && fld d 63 52 == 0 && fld d 11 4 == 0 &&
  (if bitOf d 3 then lvl != 1 && (lvl == 4 || fld d 51 12 % 2 ^ (9 * (4 - lvl)) == 0) else lvl != 4)

/-- One walk: levels lvl to 4 from a table base; fetch reads a descriptor. Answers the 4 KiB page number, READ and WRITE of the leaf (R117). -/
def walk (fetch : Nat → Option Nat) (addr : Nat) : Nat → Nat → Nat → Option (Nat × Bool × Bool)
  | 0, _, _ => none
  | f + 1, lvl, base =>
    match fetch (base + 8 * fld addr (12 + 9 * (4 - lvl) + 8) (12 + 9 * (4 - lvl))) with
    | none => none
    | some d =>
      if descOk lvl d then
        if bitOf d 3 then
          some (fld d 51 12 + (addr / 4096) % 2 ^ (9 * (4 - lvl)), bitOf d 1, bitOf d 2)
        else walk fetch addr f (lvl + 1) (fld d 51 12 * 4096)
      else none

/-- A cached translation (R120). -/
def Core.tlbFind (c : Core) (inst pasid stage page : Nat) : Option TlbEntry :=
  c.tlb.find? (fun e => e.inst == inst && e.pasid == pasid && e.stage == stage && e.page == page && e.gen == c.genOf (uid 0x01 inst 0))

/-- Adds a cached translation; past 4,096 the oldest goes (log entry 6). -/
def Core.tlbAdd (c : Core) (e : TlbEntry) : Core := { c with tlb := (c.tlb ++ [e]).drop (c.tlb.length + 1 - 4096) }

/-- Stage 2 of an address for an instance (R116): the bus address, or none on a fault. With stage 2 not enabled the address passes (log entry 7). -/
def Core.stage2Of (c : Core) (inst addr : Nat) (write : Bool) : Core × Option Nat :=
  let ctx := Tbl.at c.stage2 { base := 0, enabled := false } inst
  if !ctx.enabled then (c, some addr)
  else if addr / 2 ^ 48 != 0 then (c, none)
  else
    match c.tlbFind inst 0 2 (addr / 4096) with
    | some e => (c, if (if write then e.write else e.read) then some (e.target * 4096 + addr % 4096) else none)
    | none =>
      match walk (fun a => some (ofLe (Memory.rdN c.host a 8))) addr 4 1 ctx.base with
      | none => (c, none)
      | some (page, r, w) =>
        let c1 := c.tlbAdd { inst := inst, pasid := 0, stage := 2, gen := c.genOf (uid 0x01 inst 0), page := addr / 4096, target := page, read := r, write := w }
        (c1, if (if write then w else r) then some (page * 4096 + addr % 4096) else none)

/-- Both stages of a slice IOVA (R116, R118): the bus address, or the stage that faults. -/
def Core.translate (c : Core) (inst : Nat) (sl : Slice) (addr : Nat) (write : Bool) : Core × Except Nat Nat :=
  let after2 (c : Core) (a : Nat) : Core × Except Nat Nat :=
    match c.stage2Of inst a write with
    | (c1, some b) => (c1, .ok b)
    | (c1, none) => (c1, .error 2)
  if sl.disable then after2 c addr
  else if addr / 2 ^ 48 != 0 then (c, .error 1)
  else
    match c.tlbFind inst sl.pasid 1 (addr / 4096) with
    | some e => if (if write then e.write else e.read) then after2 c (e.target * 4096 + addr % 4096) else (c, .error 1)
    | none =>
      match walk (fun a => (c.stage2Of inst a false).2.map (fun b => ofLe (Memory.rdN c.host b 8))) addr 4 1 sl.s1base with
      | none => (c, .error 1)
      | some (page, r, w) =>
        let c1 := c.tlbAdd { inst := inst, pasid := sl.pasid, stage := 1, gen := c.genOf (uid 0x01 inst 0), page := addr / 4096, target := page, read := r, write := w }
        if (if write then w else r) then after2 c1 (page * 4096 + addr % 4096) else (c1, .error 1)

/-- Reads n bytes at a slice IOVA; on a fault the address and stage. -/
def Core.dmaRead (inst : Nat) (sl : Slice) : Nat → Core → Nat → Core × Except (Nat × Nat) (List Byte)
  | 0, c, _ => (c, .ok [])
  | n + 1, c, a =>
    match c.translate inst sl a false with
    | (c1, .error st) => (c1, .error (a, st))
    | (c1, .ok b) =>
      match Core.dmaRead inst sl n c1 (a + 1) with
      | (c2, .error e) => (c2, .error e)
      | (c2, .ok bs) => (c2, .ok (Memory.rd c1.host b :: bs))

/-- Writes bytes at a slice IOVA, stopping at the first fault (R119). -/
def Core.dmaWrite (inst : Nat) (sl : Slice) : List Byte → Core → Nat → Core × Option (Nat × Nat)
  | [], c, _ => (c, none)
  | v :: vs, c, a =>
    match c.translate inst sl a true with
    | (c1, .error st) => (c1, some (a, st))
    | (c1, .ok b) => Core.dmaWrite inst sl vs { c1 with host := Memory.wr c1.host b v } (a + 1)

/-- Reads n bytes at an address that stage 2 alone translates (R109, R113); faulting bytes read 0. -/
def Core.rd2 (c : Core) (inst addr n : Nat) : List Byte :=
  (List.range n).map (fun i =>
    match (c.stage2Of inst (addr + i) false).2 with
    | some b => Memory.rd c.host b
    | none => 0)

/-- Writes bytes at an address that stage 2 alone translates; faulting bytes are dropped and counted (R119). -/
def Core.wr2 (inst : Nat) : List Byte → Core → Nat → Core
  | [], c, _ => c
  | v :: vs, c, a =>
    match c.stage2Of inst a true with
    | (c1, some b) => Core.wr2 inst vs { c1 with host := Memory.wr c1.host b v } (a + 1)
    | (c1, none) => Core.wr2 inst vs { c1 with dtuFaults := satInc c1.dtuFaults } (a + 1)

/-! ## Slices, control blocks and rings -/

/-- A slice that exists. -/
def Core.slice (c : Core) (inst idx : Nat) : Option Slice := Tbl.find c.slices (sliceKey inst idx)

/-- Changes a slice that exists. -/
def Core.updSlice (c : Core) (inst idx : Nat) (f : Slice → Slice) : Core := { c with slices := Tbl.upd c.slices (sliceKey inst idx) f }

/-- STATUS_WORD of a slice (Table 3.2). -/
def Core.statusWord (c : Core) (inst idx : Nat) (sl : Slice) : Nat :=
  (c.genOf (sliceUnit inst idx)).toNat * 0x10000 + b2n sl.jrnWait * 8 + b2n sl.cmpStall * 4 + b2n (sl.st == .halted) * 2 + b2n (sl.ver != 0)

/-- Writes the device's fields of a slice control block: SUB_HEAD, STATUS_WORD, LAST_ACCEPTED (Table 3.2). -/
def Core.syncCb (c : Core) (inst idx : Nat) : Core :=
  match c.slice inst idx with
  | none => c
  | some sl => Core.wr2 inst (le 4 sl.subHead ++ le 4 (c.statusWord inst idx sl) ++ le 4 sl.lastAccepted) c (sl.cb + 0x24)

/-- The three device-written rings of a slice (R57). -/
inductive RingKind where
  | cmp | sts | flt
  deriving DecidableEq, Repr

/-- The size of a ring in bytes from SIZES (Table 3.2). -/
def ringSize (r : Rings) : RingKind → Nat
  | .cmp => 2 ^ fld r.sizes 12 8
  | .sts => 2 ^ fld r.sizes 20 16
  | .flt => 2 ^ fld r.sizes 28 24

/-- The base of a ring. -/
def ringBase (r : Rings) : RingKind → Nat
  | .cmp => r.cmpBase
  | .sts => r.stsBase
  | .flt => r.fltBase

/-- A size of R57: 1 KiB to 1 MiB. -/
def ringSizeOk (log2 : Nat) : Bool := decide (10 ≤ log2) && decide (log2 ≤ 20)

/-- The write position of a ring. -/
def ringPos (sl : Slice) : RingKind → RingPos
  | .cmp => sl.cmp
  | .sts => sl.sts
  | .flt => sl.flt

/-- A slice with a ring's write position changed. -/
def setRingPos (sl : Slice) (k : RingKind) (p : RingPos) : Slice :=
  match k with
  | .cmp => { sl with cmp := p }
  | .sts => { sl with sts := p }
  | .flt => { sl with flt := p }

/-- The head field that software wrote for a ring: CMP_HEAD, STS_HEAD, FLT_HEAD (Table 3.2), read when needed (R57). -/
def Core.ringHead (c : Core) (inst : Nat) (sl : Slice) (k : RingKind) : Nat :=
  ofLe (c.rd2 inst (sl.cb + (match k with | .cmp => 0x34 | .sts => 0x38 | .flt => 0x3C)) 4)

/-- The room of a ring in entries (R57). -/
def ringRoom (size head next : Nat) : Nat :=
  if head % 32 != 0 || !decide (head < size) then 0
  else size / 32 - 1 - ((next + size - head) % size) / 32

/-- The room of a slice's ring; a status or fault ring is known only in a session (R110). -/
def Core.room (c : Core) (inst : Nat) (sl : Slice) (k : RingKind) : Nat :=
  if k != .cmp && sl.ver == 0 then 0
  else ringRoom (ringSize sl.rings k) (c.ringHead inst sl k) (ringPos sl k).next

/-- The position after one entry: PHASE turns at the end of the ring (R57). -/
def ringStep (size : Nat) (p : RingPos) : RingPos :=
  if p.next + 32 ≥ size then { next := 0, phase := !p.phase } else { p with next := p.next + 32 }

/-- Sends an MSI-X vector of a function: a message when it is unmasked, else a pending bit. -/
def Core.raise (c : Core) (inst vec : Nat) : Core :=
  let m := Tbl.at c.msix { addr := 0, data := 0, masked := true } (inst * 256 + vec)
  if m.masked then (if c.pba.contains (inst * 256 + vec) then c else { c with pba := c.pba ++ [inst * 256 + vec] })
  else { c with host := Memory.wrN c.host m.addr (le 4 m.data) }

/-- Byte 7 of an entry with PHASE. -/
def withPhase (ph : Bool) (e : List Byte) : List Byte :=
  e.take 7 ++ [(e.getD 7 0) ||| (if ph then 0x80 else 0)] ++ e.drop 8

/-- Posts a notification to the manager's up ring, or has it wait (R114). While MGT_MBOX_UP_BASE is 0 it waits (log entry 8). -/
def Core.postUp (c : Core) (n : Notif) : Core :=
  let c1 := Core.wr2 0 (le 2 n.type ++ le 2 n.inst ++ [0, 0, 0] ++ [if c.up.phase then 0x80 else 0] ++ le 8 n.dt ++ fit 48 n.data) c (c.mboxUp + 64 * c.up.next)
  { c1 with up := (if c.up.next + 1 ≥ 512 then { next := 0, phase := !c.up.phase } else { c.up with next := c.up.next + 1 }) }

/-- The room of the manager's up ring in entries. -/
def Core.upRoom (c : Core) : Nat :=
  if c.mboxUp = 0 ∨ 512 ≤ c.upHead then 0 else 511 - (c.up.next + 512 - c.upHead) % 512

/-- The notification types that are kept, one per unit (R114). -/
def keptType (t : Nat) : Bool := [0x0001, 0x0002, 0x0011, 0x0013, 0x0014, 0x0015].contains t

/-- The types of which a newer one replaces an older one that waits (R114). -/
def replacedType (t : Nat) : Bool := [0x0011, 0x0013, 0x0014, 0x0015].contains t

/-- Notifies the manager (R114). -/
def Core.notify (c : Core) (type inst key : Nat) (data : List Byte) : Core :=
  let n : Notif := { type := type, inst := inst, dt := c.now, key := key, data := data }
  if c.waitingN.isEmpty && c.keptN.isEmpty && decide (0 < c.upRoom) then c.postUp n
  else if replacedType type && (c.waitingN ++ c.keptN).any (fun m => m.type == type && m.key == key) then
    { c with waitingN := c.waitingN.map (fun m => if m.type = type ∧ m.key = key then n else m),
             keptN := c.keptN.map (fun m => if m.type = type ∧ m.key = key then n else m), mboxLost := satInc c.mboxLost }
  else if c.waitingN.length < 256 then { c with waitingN := c.waitingN ++ [n] }
  else if keptType type then { c with keptN := c.keptN ++ [n] }
  else { c with mboxLost := satInc c.mboxLost }

/-- Posts waiting notifications while the ring has room, at most f of them. -/
def Core.postWaiting : Nat → Core → Core
  | 0, c => c
  | f + 1, c =>
    if c.upRoom = 0 then c
    else match c.waitingN with
      | n :: ns =>
        let c1 := Core.postUp { c with waitingN := ns } n
        match c.keptN with
        | [] => Core.postWaiting f c1
        | k :: ks => Core.postWaiting f { c1 with waitingN := c1.waitingN ++ [k], keptN := ks }
      | [] =>
        match c.keptN with
        | [] => c
        | k :: ks => Core.postWaiting f (Core.postUp { c with keptN := ks } k)

/-- Counts a lost entry of an instance's ring (R57, R119). -/
def Core.loseFlt (c : Core) (inst : Nat) : Core := { c with fltLost := Tbl.inc c.fltLost inst }

/-- Writes an entry to a ring of a slice and raises its vector; on a translation fault the IOVA and the stage. -/
def Core.writeEntry (c : Core) (inst idx : Nat) (sl : Slice) (k : RingKind) (e : List Byte) : Core × Option (Nat × Nat) :=
  let pos := ringPos sl k
  match Core.dmaWrite inst sl (withPhase pos.phase (fit 32 e)) c (ringBase sl.rings k + pos.next) with
  | (c1, none) =>
    let c2 := c1.updSlice inst idx (fun s => setRingPos s k (ringStep (ringSize sl.rings k) pos))
    (c2.raise inst (match k with | .cmp => fld sl.rings.vectors 7 0 | .sts => fld sl.rings.vectors 15 8 | .flt => fld sl.rings.vectors 23 16), none)
  | (c1, some f) => ({ c1.loseFlt inst with dtuFaults := satInc c1.dtuFaults }, some f)

/-- A slice takes no further packets, and the manager receives SLICE_HALTED, once (R65). The notification's data bytes are free (log entry 5). -/
def Core.stopSlice (c : Core) (inst idx : Nat) : Core :=
  match c.slice inst idx with
  | none => c
  | some sl =>
    if sl.st = .halted then c
    else ((Core.notify (c.updSlice inst idx (fun s => { s with st := .halted })) 0x0002 inst (sliceUnit inst idx) (c.freeBytes 48)).useFree 48).syncCb inst idx

/-- Writes a fault record (Table 3.6), or counts it lost where the ring has no room (R57); where the ring does not translate the record is lost and the slice halts (R119). -/
def Core.faultRec (c : Core) (inst idx type addr unit detail : Nat) : Core :=
  match c.slice inst idx with
  | none => c
  | some sl =>
    if c.room inst sl .flt = 0 then c.loseFlt inst
    else
      match c.writeEntry inst idx sl .flt (le 2 type ++ le 2 (c.genOf (sliceUnit inst idx)).toNat ++ [0, 0, 0, 0] ++ le 8 c.now ++ le 8 addr ++ le 4 (if unit = 0 then 0 else c.here unit) ++ le 4 detail) with
      | (c1, none) => c1
      | (c1, some _) => c1.stopSlice inst idx

/-- Halts a slice at an offset: RING_HALTED and SLICE_HALTED (R65). -/
def Core.halt (c : Core) (inst idx off : Nat) : Core := (c.faultRec inst idx 0x0002 off 0 0).stopSlice inst idx

/-- The record of a translation fault (R119, Table 3.6). -/
def Core.dtuRec (c : Core) (inst idx addr stage : Nat) (write : Bool) : Core := c.faultRec inst idx 0x0001 addr 0 (stage + b2n write * 4)

/-- A translation fault met by a slice's own data access: counted and recorded (R119). -/
def Core.dtuFault (c : Core) (inst idx addr stage : Nat) (write : Bool) : Core := Core.dtuRec { c with dtuFaults := satInc c.dtuFaults } inst idx addr stage write

/-- Writes a completion or status entry; one that meets a translation fault is lost, recorded, and the slice halts at its offset (R119). -/
def Core.putEntry (c : Core) (inst idx : Nat) (sl : Slice) (k : RingKind) (e : List Byte) : Core :=
  match c.writeEntry inst idx sl k e with
  | (c1, none) => c1
  | (c1, some f) =>
    let c2 := c1.dtuRec inst idx f.1 f.2 true
    if (c2.slice inst idx).elim true (fun t => t.st == .halted) then c2 else c2.halt inst idx (ringPos sl k).next

/-! ## The journal -/

/-- Bytes an item of the journal takes. -/
def JItem.bytes : JItem → Nat
  | .record _ => 64
  | .seal _ => 192

/-- The journal sequence of an item. -/
def JItem.jseq : JItem → Nat
  | .record r => r.jseq
  | .seal s => s.jseq

/-- Bytes that a list of items takes. -/
def itemsBytes (l : List JItem) : Nat := (l.map JItem.bytes).foldl (· + ·) 0

/-- Bytes 0 to 47 of a record (Table 2.8). -/
def JRec.head (r : JRec) : List Byte :=
  le 8 r.jseq ++ le 8 r.dt ++ [BitVec.ofNat 8 (b2n r.secure * 128 + b2n r.event * 64 + r.inst % 64)] ++ le 1 r.slice ++ le 2 r.gen ++ le 2 r.opcode
    ++ le 2 r.status ++ le 4 r.unit ++ le 4 r.seqArg ++ fit 16 r.digest

/-- The 64 bytes of a record. -/
def JRec.toBytes (r : JRec) : List Byte := r.head ++ fit 16 r.chain

/-- Bytes 8 to 87 of a seal block, which its signature covers (R91). -/
def Seal.body (s : Seal) : List Byte := le 8 s.jseq ++ le 8 s.dt ++ fit 48 s.h ++ fit 16 s.keyId

/-- The 192 bytes of a seal block (Table 2.9). -/
def Seal.toBytes (s : Seal) : List Byte := List.replicate 8 0xFF ++ s.body ++ fit 96 s.sig ++ List.replicate 8 0

/-- The bytes of an item. -/
def JItem.toBytes : JItem → List Byte
  | .record r => r.toBytes
  | .seal s => s.toBytes

/-- H[0] (R88): the ASCII string TAOTH-JOURNAL, the serial and the format count. -/
def chainStart (serial formats : Nat) : List Byte :=
  sha384 ([0x54, 0x41, 0x4F, 0x54, 0x48, 0x2D, 0x4A, 0x4F, 0x55, 0x52, 0x4E, 0x41, 0x4C] ++ le 16 serial ++ le 8 formats)

/-- Bytes of the 64 KiB buffer in use; a record stays until it is durable (R93). -/
def Jrn.used (j : Jrn) : Nat := itemsBytes j.buffer + itemsBytes j.flushing

/-- Unexported bytes of the partition. -/
def Jrn.unexported (j : Jrn) : Nat := itemsBytes (j.part.filter (fun i => decide (j.exported < i.jseq)))

/-- Fill in units of 0.01 % (R96). -/
def Jrn.fill (j : Jrn) : Nat := if j.capacity = 0 then 0 else j.unexported * 10000 / j.capacity

/-- True where regulated mode leaves the partition without space to write (R642): what is unexported and what is being written fill it. -/
def Jrn.noSpace (j : Jrn) : Bool := j.regulated && decide (j.capacity < j.unexported + j.used + 4096)

/-- Bytes of the buffer that an ordinary record may use: the last 8 KiB is kept while no space is left (R642). -/
def Jrn.limit (j : Jrn) (kept : Bool) : Nat := if j.noSpace && !kept then 65536 - 8192 else 65536

/-- True where the buffer has room for one more record, and for EVENTS_LOST before it if one is due. -/
def Jrn.hasRoom (j : Jrn) (kept : Bool) : Bool := decide (j.used + 64 + (if j.lostSince = 0 then 0 else 64) ≤ j.limit kept)

/-- Appends a record: next sequence, chain state, count since the last seal (R82, R88). The CHAIN bytes are computed here. -/
def Jrn.push (j : Jrn) (r : JRec) : Jrn :=
  let r1 := { r with jseq := j.nextJseq }
  let h := sha384 (j.chain ++ r1.head)
  { j with buffer := j.buffer ++ [.record { r1 with chain := h.take 16 }], chain := h, nextJseq := j.nextJseq + 1, sinceSeal := j.sinceSeal + 1 }

/-- The record of an event. -/
def eventRec (now : Nat) (e : JEvent) : JRec :=
  { jseq := 0, dt := now, secure := false, event := true, inst := e.inst, slice := 0, gen := e.gen, opcode := e.code, status := 0,
    unit := e.unit, seqArg := e.arg, digest := fit 16 e.data, chain := [] }

/-- EVENTS_LOST, if events were lost since the last one (R642). -/
def Jrn.pushLost (j : Jrn) (now : Nat) : Jrn :=
  if j.lostSince = 0 then j
  else { j.push (eventRec now { code := 0xFE07, inst := 0, gen := 0, unit := uid 0x81 0 0, arg := j.lostSince, data := le 4 j.eventLost }) with lostSince := 0 }

/-- Journals an event, or holds it while recovering, or counts it lost (R81, R637, R642). -/
def Jrn.event (j : Jrn) (now : Nat) (e : JEvent) : Jrn :=
  if j.st = .recovering then
    (if j.waiting.length < 256 then { j with waiting := j.waiting ++ [e] }
     else { j with eventLost := satInc j.eventLost, lostSince := j.lostSince + 1 })
  else if j.hasRoom false then (j.pushLost now).push (eventRec now e)
  else { j with eventLost := satInc j.eventLost, lostSince := j.lostSince + 1 }

/-- Journals an event of the device (R81): its code, instance, unit, argument and data bytes. -/
def Core.event (c : Core) (code inst unit arg : Nat) (data : List Byte) : Core :=
  { c with jrn := c.jrn.event c.now { code := code, inst := inst, gen := (c.genOf unit).toNat, unit := c.here unit, arg := arg, data := data } }

/-- The code of a journal state in JOURNAL_STATUS (R101). -/
def JState.code : JState → Nat
  | .recovering => 0
  | .active => 1
  | .nearFull => 2
  | .full => 3

/-- The state that fill gives (Table 2.11); leaving FULL is R98's. -/
def Jrn.byFill (j : Jrn) : JState :=
  if j.regulated && decide (9500 ≤ j.fill) then .full else if 8000 ≤ j.fill then .nearFull else .active

/-- The state after a change of fill or mode: FULL is left only where an acknowledgement allows it (R98). -/
def Jrn.nextState (j : Jrn) (acked : Bool) : JState :=
  match j.st with
  | .recovering => .recovering
  | .full => if acked && decide (j.fill ≤ 9000) then (if 8000 ≤ j.fill then .nearFull else .active) else .full
  | _ => j.byFill

/-- The notification data of R96. -/
def jStateData (st : JState) (warning : Bool) (fill : Nat) : List Byte := le 1 st.code ++ le 1 (b2n warning) ++ [0, 0] ++ le 4 fill

/-- Moves the journal to the state its fill gives: event, notification, and the 1 % warnings of NEAR_FULL (R96). -/
def Core.journalState (c : Core) (acked : Bool) : Core :=
  let j := c.jrn
  let st := j.nextState acked
  if st ≠ j.st then
    let c1 : Core := { c with jrn := { j with st := st, warned := j.fill / 100 } }
    let c2 := c1.event 0xFE01 0 (uid 0x81 0 0) st.code (le 4 j.fill)
    c2.notify 0x0012 0 0 (jStateData st false j.fill)
  else if st = .nearFull ∧ j.warned < j.fill / 100 then
    Core.notify { c with jrn := { j with warned := j.fill / 100 } } 0x0012 0 0 (jStateData st true j.fill)
  else c

/-- The record of a packet (Table 2.8). -/
def packetRec (now : Nat) (w : Who) (p : Packet) (op seqArg : Nat) (st : Status) : JRec :=
  { jseq := 0, dt := now, secure := w.secure, event := false, inst := (if w.secure then 0 else w.inst), slice := (if w.secure then 0 else w.slice),
    gen := (if w.secure then 0 else p.gen.toNat), opcode := op, status := st.code, unit := pkUnit p, seqArg := seqArg, digest := (sha384 (pkBytes p)).take 16, chain := [] }

/-- Journals a packet with a status and answers its sequence (R81, R82). -/
def Core.journalPacket (c : Core) (w : Who) (p : Packet) (op : Nat) (st : Status) : Core × Nat :=
  let j := c.jrn.pushLost c.now
  let c1 : Core := { c with jrn := j.push (packetRec c.now w p op (if w.secure then c.secSeq else p.seq.toNat) st) }
  let c2 := if w.secure || w.remote.isSome then c1 else c1.updSlice w.inst w.slice (fun s => { s with lastJseq := j.nextJseq })
  (c2, j.nextJseq)

/-! ## Completions -/

/-- The fields of a completion (Table 2.3). -/
structure Rsp where
  st : Status
  r0 : Nat
  r1 : Nat
  r2 : Nat
  deriving DecidableEq, Repr

/-- A completion without result words. -/
def Rsp.plain (st : Status) : Rsp := { st := st, r0 := 0, r1 := 0, r2 := 0 }

/-- SERVED with result words. -/
def Rsp.ok (r0 r1 r2 : Nat) : Rsp := { st := .served, r0 := r0, r1 := r1, r2 := r2 }

/-- A status with result word 0. -/
def Rsp.code (st : Status) (r0 : Nat) : Rsp := { st := st, r0 := r0, r1 := 0, r2 := 0 }

/-- The status and RESULT2 as a compatibility session sees them (R79). -/
def compatRsp (r : Rsp) : Nat × Nat := if compatKeeps r.st.code then (r.st.code, r.r2) else (0x04FF, r.st.code)

/-- The 32 bytes of a completion but for PHASE (Table 2.3). -/
def cmpBytes (p : Packet) (r : Rsp) (compat final durable grp : Bool) (jseq : Nat) : List Byte :=
  let sr := if compat then compatRsp r else (r.st.code, r.r2)
  le 4 p.seq.toNat ++ le 2 sr.1 ++ le 1 p.opcode.toNat ++ [BitVec.ofNat 8 (b2n grp * 4 + b2n final * 2 + b2n durable)] ++ le 4 (pkUnit p)
    ++ le 2 p.gen.toNat ++ le 6 jseq ++ le 4 r.r0 ++ le 4 r.r1 ++ le 4 sr.2

/-- True where a packet's target is a group unit (Table 2.3). -/
def targetsGroup (p : Packet) : Bool := [0xF0, 0xF1, 0xF2, 0xF3, 0xF4].contains (uCls (pkUnit p)) || isGeneral (uCls (pkUnit p))

/-- Counts of ADMISSION_STATUS by a completion's status (R131). -/
def AdmCount.note (a : AdmCount) (st : Status) : AdmCount :=
  match st with
  | .delayedShare => { a with delayed := satInc a.delayed }
  | .refusedShare => { a with refused := satInc a.refused }
  | .servedLate => { a with late := satInc a.late }
  | _ => a

/-- No counts. -/
def AdmCount.zero : AdmCount := { delayed := 0, refused := 0, late := 0, shownNew := 0, shownHeld := 0, notShown := 0, veiled := 0, dropped := 0, bandCDelay := 0 }

/-- Writes a completion to where its packet came from (R66 to R69, R639, R565); one for a master that is lost is counted (R560). -/
def Core.complete (c : Core) (w : Who) (p : Packet) (r : Rsp) (final durable : Bool) (jseq : Nat) : Core :=
  if w.secure then { c with secCmp := c.secCmp ++ [cmpBytes p r false final durable (targetsGroup p) jseq] }
  else
    let c0 : Core := { c with adm := Tbl.put c.adm w.inst ((Tbl.at c.adm AdmCount.zero w.inst).note r.st) }
    match w.remote with
    | some pos => if c0.reachable.contains pos then { c0 with fwdReplies := c0.fwdReplies ++ [(pos, cmpBytes p r false final durable (targetsGroup p) jseq)] } else { c0 with fwdLost := satInc c0.fwdLost }
    | none =>
      match c0.slice w.inst w.slice with
      | none => c0.countOldGen (sliceUnit w.inst w.slice)
      | some sl =>
        if p.gen ≠ c0.genOf (sliceUnit w.inst w.slice) then c0.countOldGen (sliceUnit w.inst w.slice)
        else
          let c1 := c0.putEntry w.inst w.slice sl .cmp (cmpBytes p r (decide (0 < sl.ver ∧ sl.ver < 0x20)) final durable (targetsGroup p) jseq)
          if final then c1.updSlice w.inst w.slice (fun s => { s with lastCompleted := p.seq.toNat, outstanding := s.outstanding - 1 }) else c1

/-- True where a journal record is durable (R93). -/
def Jrn.isDurable (j : Jrn) (jseq : Nat) : Bool := decide (jseq ≤ j.durable)

/-- Completes now, or, for a SYNC packet whose record is not durable, when it is (R61). -/
def Core.completeOrWait (c : Core) (w : Who) (p : Packet) (r : Rsp) (sync : Bool) (jseq : Nat) : Core :=
  if sync && decide (jseq ≠ 0) && !c.jrn.isDurable jseq then
    { c with owed := c.owed ++ [{ who := w, pk := p, op := p.opcode.toNat, wait := .durable jseq r.st r.r0 r.r1 r.r2, started := true, since := c.now, jseq := jseq, delayed := false, group := none }] }
  else c.complete w p r true (decide (jseq ≠ 0) && c.jrn.isDurable jseq) jseq

end Sys2Proof.Machine
end

