-- ==== Sys2Proof/Machine/AudTypes.lean ====
section
/-! DEFINITION. State of chapter 14: source ports, mix buses, sinks, TDM ports, the headset jack. -/

namespace Sys2Proof.Machine

/-- A linear ramp in 0.01 dB (R481): from, to, sample reached, samples in all. -/
structure Ramp where
  g0 : Int
  g1 : Int
  n : Nat
  total : Nat
  deriving DecidableEq, Repr

/-- A source port that is not closed, or fades out (R475, R477): state of Table 14.6, words, who opened it, READ, the block fetched ahead, newest frames for its converter, its last output frame, and the blocks left of a fade out and in for a reset. -/
structure ASrc where
  st : Nat
  owner : Nat
  slice : Nat
  w0 : Nat
  w1 : Nat
  w2 : Nat
  read : Nat
  ahead : Option (List (List Int))
  hist : List (List Int)
  last : List Int
  dip : Nat
  deriving DecidableEq, Repr

/-- An input of a bus in force (Table 14.3): its word, its gain, and a crossfade from an old source and gain. -/
structure AIn where
  word : Nat
  gain : Ramp
  old : Option (Nat × Int)
  xn : Nat
  xtotal : Nat
  deriving DecidableEq, Repr

/-- A parameter set that waits for its swap (R482): words, work number, slice that staged it, whether it swaps at the next block. -/
structure ASet where
  words : List Nat
  work : Nat
  key : Nat
  due : Bool
  deriving DecidableEq, Repr

/-- A mix bus (R479 to R484): owner, word 0, inputs, the set that waits, the duck term and whether it is held down, the end of the last active block, its newest block, reset fade. -/
structure ABus where
  owner : Option Nat
  w0 : Nat
  set : Bool
  inputs : List AIn
  next : Option ASet
  duck : Ramp
  ducking : Bool
  lastActive : Nat
  out : List (List Int)
  dip : Nat
  deriving DecidableEq, Repr

/-- A sink port (R485, R486): owner, words in force, the set that waits, its gain, a crossfade from an old bus and map, ring WRITE, its newest reduced block, blocks dropped in a row, reset fade. -/
structure ASink where
  owner : Option Nat
  words : List Nat
  slice : Nat
  inst : Nat
  next : Option ASet
  gain : Ramp
  old : Option (Nat × Nat × Int)
  xn : Nat
  xtotal : Nat
  write : Nat
  out : List (List Int)
  muted : Bool
  dip : Nat
  deriving DecidableEq, Repr

/-- Chapter 14: mode, number of the next internal sample, ports and buses, commands that wait for a block, TDM words, codec owner and limits, the jack (Table 14.5), counters. -/
structure Aud where
  mode : Nat
  k : Nat
  srcs : Tbl ASrc
  buses : Tbl ABus
  sinks : Tbl ASink
  applies : List Nat
  tdm : Tbl Nat
  hsOwner : Nat
  hpLimit : Nat
  hpLock : Bool
  jack : Nat
  jackSince : Nat
  plugged : Bool
  pressed : Bool
  button : Nat
  micMv : Nat
  load : Nat
  starve : Tbl Nat
  slip : Tbl Nat
  sat : Tbl Nat
  sinkSat : Tbl Nat
  sinkDrop : Tbl Nat
  deriving DecidableEq, Repr

end Sys2Proof.Machine
end

