-- ==== Sys2Proof/Machine/FrondTypes.lean ====
section
/-! DEFINITION. State of chapters 6 and 7: layers, scenes, fronds, outputs, the patrol, group layers and compose passes. -/

namespace Sys2Proof.Machine

/-- A layer descriptor: the five words of Table 6.2. -/
structure Desc where
  w0 : Nat
  w1 : Nat
  w2 : Nat
  w3 : Nat
  w4 : Nat
  deriving DecidableEq, Repr

/-- A post that is not yet latched (R217): its surface, its completion's work number (0 where the device made it), the number of its reference, the latch points at which it was ready and not taken, the receiver whose frame it is. -/
structure Post where
  surf : Nat
  work : Nat
  ref : Nat
  ready : Nat
  inst : Nat
  slice : Nat
  recv : Option Nat
  deriving DecidableEq, Repr

/-- A commit that waits for its latch point, or is staged: target layer unit, descriptor, work number. -/
structure Commit where
  layer : Nat
  desc : Desc
  work : Nat
  inst : Nat
  slice : Nat
  applied : Bool
  creates : Bool
  deriving DecidableEq, Repr

/-- A set with a pending bank (R222 step 2): what is in force, what is loaded and the load's work number. -/
structure Bank where
  now : List Byte
  pending : Option (List Byte × Nat × Nat)
  deriving DecidableEq, Repr

/-- A layer (R212): owner, creating slice, descriptor in force, posts, buffer and banks. -/
structure Layer where
  owner : Nat
  slice : Nat
  gen : Gen
  latched : Bool
  desc : Desc
  posts : List Post
  buffer : Nat
  bufferAt : Nat
  held : Nat
  removing : Option (Nat × Bool)
  coef : Bank
  tone : Bank
  borrowed : Option Nat
  dropped : Nat
  missed : Nat
  lastRect : Option (Int × Int × Int × Int)
  deriving DecidableEq, Repr

/-- A layer as one frame shows it, fixed at its latch point. -/
structure SceneLayer where
  slot : Nat
  owner : Nat
  slice : Nat
  gen : Gen
  desc : Desc
  buffer : Nat
  status : Nat
  cause : Nat
  config : Bool
  last : Bool
  repeated : Bool
  held : Nat
  tone : List Byte
  coef : List Byte
  palette : List Nat
  stripe : Bool
  safety : Bool
  deriving DecidableEq, Repr

/-- What a frond shows in one frame. -/
structure Scene where
  frame : Nat
  latchDt : Nat
  layers : List SceneLayer
  bg : Nat
  tone : List Byte
  safetySurf : Option Nat
  drawn : List (Nat × Int × Int × Int × Int)
  deriving DecidableEq, Repr

/-- A writeback slot (R288): settings words, its two targets, which one is written next and the work that waits. -/
structure WbSlot where
  w0 : Nat
  targets : List Nat
  crop : Nat
  next : Nat
  count : Nat
  pending : Option (Nat × List Nat × Nat)
  aborted : Bool
  deriving DecidableEq, Repr

/-- A frond (Tables 6.7 to 6.9, 7.11, 7.12, 20.5). -/
structure Frond where
  enable : Bool
  bands : Nat
  fullMirror : Bool
  offset : Nat
  entA : Nat
  entB : Nat
  bg : Nat
  panicLevel : Nat
  panic : Bool
  panicAt : Nat
  cushion : Nat
  tolerance : Nat
  flagLine : Nat
  flagStages : Nat
  repeats : Nat
  drops : Nat
  stsLost : Nat
  underrun : Nat
  wbAbort : Nat
  tbcErr : Nat
  wb : Tbl WbSlot
  wbLast : Tbl (Nat × Nat × Nat)
  staged : List Commit
  commits : List Commit
  scan : Option Scene
  next : Option Scene
  line : Nat
  latches : Nat
  substituted : List Nat
  replaced : Bool
  bistFailed : Bool
  lost : Tbl Nat
  deriving DecidableEq, Repr

/-- A modeset in progress (R280): the prepared words, the work number, and where it stands: 0 waits for the black frame, 1 black frame, 2 training, 3 first latch. -/
structure Modeset where
  words : List Nat
  work : Nat
  stage : Nat
  began : Nat
  deriving DecidableEq, Repr

/-- An output (class 0x22). -/
structure Outp where
  mode : List Nat
  token : Option (Nat × List Nat)
  tokens : Nat
  link : Nat
  rate : Nat
  lanes : Nat
  hpd : Bool
  sink : Option Sink
  frames : Nat
  frond : Nat
  spare : Bool
  tone : Bank
  genlock : List Nat
  lock : Nat
  phaseErr : Int
  goodFrames : Nat
  rateMean : Nat
  vt : Nat
  vtNew : Option (Nat × Nat × Bool)
  sav : Nat
  nextSav : Nat
  modeset : Option Modeset
  black : Bool
  lineOut : List Nat
  edgeAt : Nat
  edgeLast : Nat
  edgeCount : Nat
  deriving DecidableEq, Repr

/-- The patrol (Table 7.7) and FROND[8]'s stand-in. -/
structure Patrol where
  st : Nat
  target : Nat
  frames : Nat
  mismatch : Nat
  streak : Nat
  lastMismatch : Nat
  swaps : Nat
  cause : Nat
  detected : Nat
  partly : Bool
  fromLine : Nat
  pending : List (Nat × Nat × Nat × Nat)
  deriving DecidableEq, Repr

/-- A group layer (R254): size, intermediates, members by entry. -/
structure GLayer where
  owner : Nat
  width : Nat
  height : Nat
  inter : List Nat
  members : Tbl (List Nat)
  done : Nat
  doneSize : Nat
  deriving DecidableEq, Repr

/-- A compose pass (R256): its work number, group layer, intermediate, issuer and what is left of a cascade. -/
structure Pass where
  work : Nat
  gl : Nat
  inter : Nat
  who : Who
  skipped : Nat
  nested : List Nat
  outer : Nat
  deriving DecidableEq, Repr

/-- Chapters 6 and 7. -/
structure Frd where
  fronds : Tbl Frond
  layers : Tbl Layer
  outs : Tbl Outp
  patrol : Patrol
  glayers : Tbl GLayer
  passes : List Pass
  used : Tbl Nat
  pcmPasses : Nat
  pcmTbcErr : Nat
  deriving DecidableEq, Repr

end Sys2Proof.Machine
end

