-- ==== Sys2Proof/Machine/LinkTypes.lean ====
section
/-! DEFINITION. State of chapter 1's Lichen link, heartbeats, dispatch pairs and pace. -/

namespace Sys2Proof.Machine

/-- One direction of a replayed link: what its sender keeps and what its receiver expects (R23, R553). -/
structure LinkDir where
  sendSeq : Nat
  acked : Nat
  replay : List (List Byte)
  expect : Nat
  dropping : Bool
  sinceAck : Nat
  msgCount : Nat
  partMsg : List Byte
  deriving DecidableEq, Repr

/-- Chapter 1: the Lichen link (Table 1.5), heartbeats (R20), dispatch pairs (R48), pace (Table 1.7, R30, R32). -/
structure Lnk where
  verMajor : Nat
  verMinor : Nat
  up : Bool
  degraded : Bool
  spareUsed : Bool
  replacedLane : Nat
  laneFail : Nat
  replayCount : Nat
  crcErr : Nat
  authFail : Nat
  osuDrop : Nat
  toWarden : LinkDir
  toCanvas : LinkDir
  sessionKey : BitVec 256
  authTimes : List Nat
  heartbeatsStopped : Bool
  lastBeat : Tbl Nat
  osuFault : Tbl Bool
  activePair : Nat
  failedPairs : List Nat
  canvasPace : List Nat
  wardenPace : List Nat
  overload : Bool
  floorMiss : Bool
  slowest : Nat
  pacePs : Nat
  window : List Nat
  calmUs : Nat
  deriving DecidableEq, Repr

end Sys2Proof.Machine
end

