-- ==== Sys2Proof/Machine/IngTypes.lean ====
section
/-! DEFINITION. State of chapters 11 and 17: Ethernet ports, stream receivers, routes, the PTP clock, the rhizome. -/

namespace Sys2Proof.Machine

/-- A frame being received (R418): its RTP timestamp, when its first packet came, its first number where known, the numbers that arrived, those whose only copies failed a check, the marker's number, a field bit or a sample twice, samples by component, row and column, codestream or ANC pieces by number, the target with its work number. -/
structure RxFrame where
  ts : Nat
  began : Nat
  first : Option Nat
  seqs : List Nat
  badSeqs : List Nat
  marker : Option Nat
  spoilt : Bool
  samples : Tbl Nat
  pieces : Tbl (List Byte)
  target : Option Nat
  lost : Bool
  deriving DecidableEq, Repr

/-- A route of a receiver to a layer (R428 to R431, R567): the layer's unit ID, the issuing slice, whether it takes frames yet, the work number of the command that waits for a latch point, whether it ends there, and the landing surfaces of a remote layer. -/
structure Route where
  layer : Nat
  inst : Nat
  slice : Nat
  active : Bool
  work : Nat
  removing : Bool
  landing : List Nat
  deriving DecidableEq, Repr

/-- A stream receiver (Table 11.5, Table 11.6): MOVING and K in force and declared, run count and CRC of R367, frames in progress, what each path delivered, routes, samples of ST 2110-30 packets by number that no block has taken. -/
structure Recv where
  owner : Option Nat
  words : List Nat
  st : Nat
  moving : Bool
  k : Nat
  declared : Option (Bool × Nat)
  forceMoving : Bool
  run : Nat
  lastCrc : Option Nat
  lastTs : Option Nat
  lastGood : Nat
  good : Nat
  cause : Nat
  badFrames : Nat
  noBuffer : Nat
  stampFallback : Nat
  pathLost : List Nat
  pathUp : List Bool
  pathAt : List Nat
  pathSeq : List (Option Nat)
  seen : List (Nat × Nat)
  waitSince : Option Nat
  nextFirst : Option Nat
  frames : List RxFrame
  lanes : Nat
  routes : List Route
  closing : Option (Nat × Bool)
  ringNext : Nat
  audio : List (Nat × List Nat)
  deriving DecidableEq, Repr

/-- An Ethernet port (R411). -/
structure EthPort where
  w0 : Nat
  w1 : Nat
  link : Bool
  deriving DecidableEq, Repr

/-- The PTP clock (R412, R413, Table 20.5): 0 FREE, 1 ACQUIRING, 2 LOCKED, 3 HOLDOVER. -/
structure Ptp where
  domain : Nat
  ports : Nat
  st : Nat
  offset : Int
  slewing : Bool
  everLocked : Bool
  goodSyncs : Nat
  lastAnnounce : Nat
  lastSync : Nat
  deriving DecidableEq, Repr

/-- Chapter 11. -/
structure Ing where
  ports : Tbl EthPort
  recvs : Tbl Recv
  ptp : Ptp
  deriving DecidableEq, Repr

/-- A rhizome port (Table 17.3): ENABLE, versions, link, neighbour, lanes, the receiver's side of its replay and the replays of one flit that failed. -/
structure RPort where
  enable : Bool
  major : Nat
  minor : Nat
  up : Bool
  neighbour : Nat
  lanes : Nat
  dir : LinkDir
  fails : Nat
  deriving DecidableEq, Repr

/-- A remote tag's update that waits for its frame's copy to land (R571). -/
structure TagUpd where
  tag : Nat
  last : Nat
  maxAge : Nat
  st : Nat
  recv : Nat
  stamp : Nat
  deriving DecidableEq, Repr

/-- Chapter 17 (Tables 17.1 to 17.3). role 0 ALONE, 1 MASTER, 2 DEPUTY, 3 MEMBER, 4 FORMING; broken holds each broken link by the position at its down side's start. videoOut: frames sent, by port, receiver and stamp; tagOut: tag updates sent; landed: the newest stamp of each remote receiver that landed here; auths and challenges: sessions of slices of the master with this device's SEC (R566). -/
structure Rhz where
  auto : Bool
  deputyWord : Nat
  masterPos : Nat
  deputyPos : Nat
  members : Nat
  serials : Tbl Nat
  role : Nat
  split : Bool
  time : Nat
  holdAt : Nat
  lastBeacon : Nat
  changes : Nat
  ver : Nat
  ports : Tbl RPort
  replayCount : Tbl Nat
  crcErr : Tbl Nat
  videoDrop : Nat
  broken : List Nat
  tagWait : List TagUpd
  passed : List (Nat × List Byte)
  videoOut : List (Nat × Nat × Nat)
  tagOut : List (Nat × Nat × Nat × Nat)
  landed : Tbl Nat
  auths : Tbl Auth
  challenges : Tbl Challenge
  deriving DecidableEq, Repr

end Sys2Proof.Machine
end

