-- ==== Sys2Proof/Machine/LedgerTypes.lean ====
section
/-! DEFINITION. State of chapters 8 and 9: live tags, live regions, the veil, signed regions, expected-value records and check engines. -/

namespace Sys2Proof.Machine

/-- The states of Table 8.2 of a created tag; NONE is absence from the table. -/
inductive TagSt where
  | unbound | live | stale | frozen | retired
  deriving DecidableEq, Repr

/-- A live tag (Table 8.1): PATH 0 HOST, 1 STREAM, 2 SEQ; source names the receiver or signed region. -/
structure Tag where
  last : Nat
  maxAge : Nat
  st : TagSt
  path : Nat
  source : Nat
  remote : Bool
  notify : Bool
  owner : Nat
  deriving DecidableEq, Repr

/-- Why a region is veiled with FAULT or SERVICE (Table 8.5). -/
inductive CauseKind where
  | signature | underrun | heartbeat | bothFrozen | bothFlagged | journalFull | bandRemoved | instanceReset | debug | leaseBroken | tamper
  deriving DecidableEq, Repr

/-- A veil cause: when it reached the inserter and when its end did (R331). -/
structure Cause where
  kind : CauseKind
  since : Nat
  ended : Option Nat
  deriving DecidableEq, Repr

/-- A region's veil: causes, state fixed for the frame, badge (1 HELD, 2 FROZEN, 3 FAULT, 4 SERVICE), and its counts (R328, R329). -/
structure Veil where
  causes : List Cause
  veiled : Bool
  badge : Nat
  frames : Nat
  since : Nat
  decided : Nat
  deriving DecidableEq, Repr

/-- A live region (R320): place, rectangle, badge size, TIED, bindings; E_r as the inserter holds it and when it came; orphan says that its layer has been removed (R137). -/
structure LRegion where
  place : Nat
  rect : Nat
  size : Nat
  tied : Bool
  slots : List Nat
  inst : Nat
  slice : Nat
  secure : Bool
  bandA : Bool
  er : Nat
  erNow : Bool
  erAt : Nat
  erFrame : Nat
  frozenBadge : Bool
  safetyAt : Option Nat
  newPlace : Option (Nat × Nat)
  removing : Bool
  orphan : Bool
  drawn : Option (Int × Int × Int × Int)
  repeatedPx : Nat
  veil : Veil
  deriving DecidableEq, Repr

/-- The states of Table 9.2. -/
inductive SigSt where
  | none | pending | checking | faulted | latched
  deriving DecidableEq, Repr

/-- An expected-value record (Table 9.3). -/
structure SigRec where
  frame : Nat
  expected : Nat
  alive : Nat
  sticky : Bool
  deriving DecidableEq, Repr

/-- A signed region (R347 to R360). -/
structure SRegion where
  place : Nat
  rect : Nat
  moving : Bool
  latchFault : Bool
  inst : Nat
  slice : Nat
  secure : Bool
  st : SigSt
  newSet : Option (Nat × Nat × Bool × Bool × Nat)
  removing : Option Nat
  orphan : Bool
  tapAt : Nat
  recs : List SigRec
  sticky : Option SigRec
  base : Option Nat
  lastAlive : Nat
  lastFlags : Nat
  lastFrame : Nat
  lastExpected : Nat
  faults : Nat
  crc : Nat
  crcFrame : Nat
  drawn : Option (Int × Int × Int × Int)
  waiting : Bool
  captured : Bool
  layerRepeat : Bool
  repeatedPx : Nat
  veil : Veil
  deriving DecidableEq, Repr

/-- A refresh that waits to be applied (R311): tag, stamped ledger time, path. -/
structure Refresh where
  tag : Nat
  stamp : Nat
  path : Nat
  moving : Bool
  deriving DecidableEq, Repr

/-- Chapters 8 and 9's first half. -/
structure Led where
  tags : Tbl Tag
  regions : Tbl LRegion
  sregs : Tbl SRegion
  refreshDrop : Nat
  refreshExpired : Nat
  notifyLost : Tbl Nat
  notifyTimes : Tbl (Nat × Nat)
  veilFrames : Tbl Nat
  veilLock : Bool
  lockedWr : Nat
  palRgb : Tbl Nat
  palYcc : Tbl Nat
  style : Tbl Nat
  badge : Tbl Nat
  hostLink : Bool
  results : List (List Byte)
  sigLate : Nat
  sigSkipped : Nat
  deriving DecidableEq, Repr

/-- A scan of a check engine (Table 9.10): its packet stays for the completions of periodic runs. -/
structure Scan where
  work : Nat
  who : Who
  pk : Packet
  deriving DecidableEq, Repr

/-- A check engine (R361 to R365): mode 0 idle, 1 scan, 2 periodic; runFlags are those fixed when the run began. -/
structure Engine where
  mode : Nat
  scan : Option Scan
  queued : Option Scan
  running : Bool
  run : Nat
  bytes : Nat
  check : Nat
  flags : Nat
  runFlags : Nat
  alive : Nat
  hasBase : Bool
  began : Nat
  cancel : Bool
  deriving DecidableEq, Repr

/-- Chapter 9's check engines. -/
structure Chk where
  engines : Tbl Engine
  deriving DecidableEq, Repr

end Sys2Proof.Machine
end

