-- ==== Sys2Proof/Machine/SecTypes.lean ====
section
/-! DEFINITION. State of chapter 15: the SEC, keys, measurements, leases, debug, tamper, boot; and the Warden SRAM. -/

namespace Sys2Proof.Machine

/-- What the SEC core is doing (R513, R523, R524). -/
inductive SecRun where
  | booting | running | restarting | gaveUp
  deriving DecidableEq, Repr

/-- A session key slot (Table 15.2). -/
structure SessKey where
  key : List Byte
  certified : Bool
  deriving DecidableEq, Repr

/-- A region of a region controller: BASE, LIMIT, ATTR as the registers hold them (Table 4.12). -/
structure Region where
  base : Nat
  limit : Nat
  attr : Nat
  deriving DecidableEq, Repr

/-- Chapter 15. -/
structure Sec where
  run : SecRun
  wdog : Nat
  restartBegan : Nat
  restartCause : Nat
  restarts : Nat
  restartTimes : List Nat
  operatorKeys : Tbl (List Byte)
  sessionKeys : Tbl SessKey
  sealKey : Nat
  meas : Tbl (List Byte)
  measCount : Tbl Nat
  measLog : List (Nat × List Byte)
  fwDigest : List Byte
  approved : List (List Byte × Nat)
  approvedWords : List Word64
  approvedLock : Bool
  keyLock : Bool
  leases : Tbl Bool
  dbgEnables : Nat
  dbgCertFail : Nat
  dbgAccessFail : Nat
  dbgChallenge : List Byte
  dbgCert : Memory
  dbgLocked : Bool
  siSince : Bool
  tamperCfg : Tbl Nat
  tamperOn : List Nat
  tamperLatched : List Nat
  tamperHeld : Tbl Nat
  decertified : Bool
  nmbox : List (List Byte)
  nmPush : Memory
  nmDropped : Nat
  bootHalted : Bool
  bootCode : Nat
  bootCount : Nat
  bootedB : Bool
  worldDeny : Nat
  lockedWr : Nat
  sram : Memory
  sramRgn : Tbl Region
  rollback : Nat
  deriving DecidableEq, Repr

end Sys2Proof.Machine
end

