-- ==== Sys2Proof/Machine/MemTypes.lean ====
section
/-! DEFINITION. State of chapters 4 and 5: what manufacture and straps fix, the memory groups, and the surfaces with their lock table. -/

namespace Sys2Proof.Machine

/-- The NAND fitted and what MGMT measures of it (R527, R537): LUNs, blocks of a LUN, bytes of a block, channels of the reserve, bytes per µs, then t_prog, t_r and t_rst in µs. -/
structure NandChip where
  luns : Nat
  blocks : Nat
  blockBytes : Nat
  channels : Nat
  rate : Nat
  tProg : Nat
  tR : Nat
  tRst : Nat
  deriving DecidableEq, Repr

/-- What manufacture, fuses, straps and fitted parts fix; no command changes it (R143, R499, Table 15.4, Table 19.12). firmwareKey is the public key whose digest is fused (R513). -/
structure Fixed where
  serial : Nat
  gradeX : Bool
  lifecycle : Nat
  identityKey : Nat
  pairing : Nat
  firmwareKey : List Byte
  debugDigest : List Byte
  cascMaster : Bool
  bootNand : Bool
  memGiB : List Nat
  memRate : List Nat
  nand : NandChip
  deriving DecidableEq, Repr

/-- Group states (Table 4.8). -/
inductive GroupSt where
  | offline | training | active | pd | sr | srDeep | frozen | recovering
  deriving DecidableEq, Repr

/-- A request to device memory (R179). -/
structure MemReq where
  port : Nat
  inst : Option Nat
  slice : Nat
  band : Nat
  write : Bool
  addr : Nat
  data : List Byte
  surface : Option Nat
  deriving DecidableEq, Repr

/-- The answer to a request (R169, R182). -/
inductive MemAnswer where
  | data (bs : List Byte)
  | done
  | poison
  | writeLost
  | error
  | dropped
  deriving DecidableEq, Repr

/-- One memory group (Table 4.9, Table 20.5). -/
structure MemGroup where
  st : GroupSt
  frzCause : Nat
  frzChannel : Nat
  frzPort : Nat
  chTrained : Nat
  retrainLate : Bool
  ceStorm : Bool
  latentUe : Bool
  lock : Bool
  maxSleep : Nat
  grain : Nat
  cfgWrDrop : Nat
  tolerance : Nat
  idleNs : Nat
  retrainMs : Nat
  scrubPeriod : Nat
  ceLimit : Nat
  ceCount : Tbl Nat
  ceTimes : Tbl (List Nat)
  frzAddr : Nat
  frzInst : Nat
  frzQueue : Tbl Nat
  badPages : List Nat
  poison : List Nat
  rgn : Tbl Region
  enforce : Bool
  rgnLock : Bool
  rgnViol : Nat
  rgnViolAddr : Option Nat
  rgnLockedWr : Nat
  queue : List MemReq
  lastReq : Nat
  retrainDue : Option Nat
  retrainLeft : Nat
  lastRetrain : Nat
  refreshRate : Nat
  slots : Tbl Nat
  pendingSlots : Option (Tbl Nat)
  slotPos : Nat
  prio : Tbl Nat
  panic : List Nat
  drr : Tbl Nat
  exiting : Bool
  lost : Bool
  deriving DecidableEq, Repr

/-- Both groups, the weights of the round robin, and device memory by device address (R144, R156). -/
structure MemSys where
  a : MemGroup
  b : MemGroup
  devWeight : Tbl Nat
  dram : Memory
  answer : Option MemAnswer
  hint : Nat
  deriving DecidableEq, Repr

/-- What holds a reference to a surface (R203). -/
inductive Holder where
  | layer (f k n : Nat)
  | work (n : Nat)
  | writeback (f slot : Nat)
  | receiver (r : Nat)
  deriving DecidableEq, Repr

/-- A reference: read or write, and its holder. -/
structure Ref where
  write : Bool
  holder : Holder
  deriving DecidableEq, Repr

/-- A surface (R186, Table 5.1, Table 5.5). -/
structure Surf where
  owner : Nat
  format : Nat
  width : Nat
  height : Nat
  layout : Nat
  stride : Nat
  home : Nat
  first : Nat
  size : Nat
  mirror : Option Nat
  mirrorStale : Bool
  homeStale : Bool
  palette : List Nat
  grants : Tbl Nat
  refs : List Ref
  releasing : Bool
  deriving DecidableEq, Repr

/-- A pool (R185): first unit and size in 64 KiB units. -/
structure Pool where
  first : Nat
  size : Nat
  deriving DecidableEq, Repr

/-- An aperture mapping (R202). -/
structure Mapping where
  inst : Nat
  slice : Nat
  offset : Nat
  surf : Nat
  surfOff : Nat
  len : Nat
  deriving DecidableEq, Repr

/-- A SURFACE_COPY in progress (R201, R206). -/
structure CopyRun where
  work : Nat
  who : Who
  surf : Nat
  plane : Nat
  toSurface : Bool
  iova : Nat
  stride : Nat
  x : Nat
  y : Nat
  w : Nat
  h : Nat
  deriving DecidableEq, Repr

/-- Chapter 5. -/
structure Srf where
  pools : Tbl Pool
  surfs : Tbl Surf
  maps : List Mapping
  apertureMiss : Nat
  peak : Nat
  fullWait : Nat
  dropCount : Tbl Nat
  lastLocked : Tbl Nat
  copies : List CopyRun
  mirrorCopies : List (Nat × Nat)
  deriving DecidableEq, Repr

end Sys2Proof.Machine
end

