-- ==== Sys2Proof/Machine/PeatTypes.lean ====
section
/-! DEFINITION. State of chapter 16: the peat store. -/

namespace Sys2Proof.Machine

/-- The frame that the copier holds for a capture (R542): its frame part, the region as drawn in it, and the region's result. -/
structure CapHeld where
  frame : Nat
  dt : Nat
  surf : Nat
  veiled : Bool
  badge : Nat
  rect : Option (Int × Int × Int × Int)
  flags : Nat
  alive : Nat
  crc : Nat
  expected : Nat
  deriving DecidableEq, Repr

/-- A capture asked for and not yet staged (R541). -/
structure CapReq where
  id : Nat
  cause : Nat
  region : Nat
  frond : Nat
  frame : Nat
  outcome : Nat
  jseq : Nat
  late : Bool
  creator : Nat
  held : Option CapHeld
  work : Nat
  deriving DecidableEq, Repr

/-- A capture record (Table 16.6): its fields and the bytes of its blocks. -/
structure Capture where
  req : CapReq
  dt : Nat
  veiled : Bool
  badge : Nat
  flags : Nat
  alive : Nat
  rect : Nat
  blocks : Nat
  crc : Nat
  expected : Nat
  data : List Byte
  deriving DecidableEq, Repr

/-- The slot record of a firmware component (R546, R549). -/
structure FwSlot where
  active : Nat
  trial : Option Nat
  trialBoots : Nat
  deriving DecidableEq, Repr

/-- A fatal-error dump (R550). -/
structure Dump where
  number : Nat
  cause : Nat
  bytes : List Byte
  deriving DecidableEq, Repr

/-- A NAND block as the translation layer keeps it (R530 to R532). -/
structure NBlock where
  part : Option Nat
  erases : Nat
  reads : Nat
  bad : Bool
  deriving DecidableEq, Repr

/-- Chapter 16. -/
structure Peat where
  formatted : Bool
  sizes : List Nat
  attrs : Tbl Nat
  retainLock : Bool
  retainMin : Nat
  uncorr : Nat
  rgnViol : Nat
  disturbLimit : Nat
  patrolDays : Nat
  stageMib : Nat
  holdup : Nat
  sparesLow : Bool
  reserve : Tbl (List JItem)
  flushing : Bool
  failTime : Nat
  failSaved : Nat
  nextCapture : Nat
  requests : List CapReq
  staged : List Capture
  stored : List Capture
  images : Tbl Memory
  slots : Tbl FwSlot
  committed : Tbl (List Byte)
  activating : List Nat
  dumps : List Dump
  dumpArea : Option Dump
  nextDump : Nat
  log : List Byte
  baselines : Tbl (List Nat)
  blocks : Tbl NBlock
  spares : Tbl Nat
  deriving DecidableEq, Repr

end Sys2Proof.Machine
end

