-- ==== Sys2Proof/Machine/PwrTypes.lean ====
section
/-! DEFINITION. State of chapter 18: power domains, AVS, thermal, islands, shutdown and resets. -/

namespace Sys2Proof.Machine

/-- Domain states (Table 18.2). -/
inductive DomSt where
  | off | waking | on | draining | shed
  deriving DecidableEq, Repr

/-- A clock island: running, and the time it was last used (R591). -/
structure Island where
  running : Bool
  lastUse : Nat
  deriving DecidableEq, Repr

/-- Chapter 18. -/
structure Pwr where
  dom : Tbl DomSt
  avsEnable : Bool
  avsTarget : Nat
  avsMax : Nat
  avsMin : Nat
  vread : Nat
  vset : Nat
  shedMask : Nat
  tripC : Nat
  warnC : Nat
  vmonLim : Tbl Nat
  sensor : Tbl Nat
  warned : List Nat
  tripped : List Nat
  trippedAt : Tbl Nat
  thermTripLow : Bool
  held : Bool
  shutdown : Bool
  standby : Bool
  shutdownBegan : Nat
  admitStopped : Bool
  pcieUp : Bool
  pcieTraining : Bool
  perstHigh : Bool
  islands : Tbl Island
  resetAsked : Option Nat
  mgmtRestarting : Bool
  mgmtRestartBegan : Nat
  mgmtRestarts : List Nat
  deriving DecidableEq, Repr

end Sys2Proof.Machine
end

