-- ==== Sys2Proof/Machine/RasterTypes.lean ====
section
/-! DEFINITION. State of chapter 10: raster jobs, cores, combiner programs. -/

namespace Sys2Proof.Machine

/-- A vertex of an exact-mode record (R379): 16.8 position, depth, colours, texture coordinates. -/
structure RVert where
  x : Int
  y : Int
  z : Nat
  c0 : Nat
  c1 : Nat
  tex : List (Int × Int)
  deriving DecidableEq, Repr

/-- What a binned item draws: a CLEAR, an exact triangle after setup with its area term (R383), or a general-mode triangle's raw words. -/
inductive RKind where
  | clear (arg word : Nat)
  | tri (area : Int) (a b c : RVert)
  | general (raw : List Nat)
  deriving DecidableEq, Repr

/-- A binned item: its offset in the stream (R405), the raster state in force (Table 10.6, listed where written), its pixel box x0, y0, x1, y1 inside the scissor (R402), what it draws. -/
structure RItem where
  off : Nat
  state : Tbl Nat
  box : Nat × Nat × Nat × Nat
  kind : RKind
  deriving DecidableEq, Repr

/-- A raster job (R371 to R376): issuer, parameter words, programs and palettes in force at its admission, `bound` where no load of its instance kept it back (R393), and, once it has started, its items, the ends of its rounds between flushes (R404), the failure it ends with, the items done of each tile. -/
structure RJob where
  work : Nat
  who : Who
  seq : Nat
  words : List Nat
  programs : Tbl (List Nat)
  palettes : Tbl (List Nat)
  bound : Bool
  holds : Bool
  admitted : Bool
  started : Bool
  stopped : Bool
  items : List RItem
  rounds : List Nat
  round : Nat
  fail : Option (Status × Nat × Nat)
  done : Tbl Nat
  splits : Nat
  used : Nat
  deriving DecidableEq, Repr

/-- The tile pass in progress on a core: the job, the tile, a flush pass or not. -/
structure RCore where
  work : Nat
  tile : Nat
  flush : Bool
  deriving DecidableEq, Repr

/-- Chapter 10: jobs in admission order, cores, programs in force by instance and slot, loads that wait (instance, slot, program, work number), counters of Table 20.5. -/
structure Ras where
  jobs : List RJob
  cores : Tbl RCore
  programs : Tbl (List Nat)
  loads : List (Nat × Nat × List Nat × Nat)
  guardDrop : Nat
  hsrSkip : Nat
  passSplit : Nat
  flushCount : Nat
  tbcErr : Nat
  deriving DecidableEq, Repr

end Sys2Proof.Machine
end

