-- ==== Sys2Proof/Machine/RegTypes.lean ====
section
/-! DEFINITION. State of chapter 20 that belongs to no other block: ignored PF writes and the latched upper word of a 64-bit read. -/

namespace Sys2Proof.Machine

/-- Chapter 20: PCI_WR_IGNORED (R623), and the upper words latched by reads of lower words, by Canvas offset (R621). -/
structure Regs where
  wrIgnored : Nat
  latch : Tbl Nat
  deriving DecidableEq, Repr

end Sys2Proof.Machine
end

