-- ==== Sys2Proof/Machine/TouchTypes.lean ====
section
/-! DEFINITION. State of chapters 12 and 13: touch surfaces, contacts, regions and report rings; haptic channels, effect slots and bindings. -/

namespace Sys2Proof.Machine

/-- A touch region (R454). -/
structure TRegion where
  owner : Nat
  rect : Nat
  critical : Bool
  deriving DecidableEq, Repr

/-- A report ring of a slice on a surface (R451). -/
structure TRing where
  base : Nat
  log2 : Nat
  vector : Nat
  head : Nat
  pos : RingPos
  lost : Nat
  deriving DecidableEq, Repr

/-- A contact of the newest frame (R447 to R453): identity, position, nodes, peak node and delta, where it went down, whom it is routed to and by which region, flags, when it began, unreported until it lifts. -/
structure TContact where
  id : Nat
  x : Nat
  y : Nat
  nodes : List Nat
  peak : Nat
  strength : Nat
  downX : Nat
  downY : Nat
  region : Nat
  inst : Option Nat
  start : Bool
  resting : Bool
  interp : Bool
  glove : Bool
  hover : Nat
  since : Nat
  silent : Bool
  deriving DecidableEq, Repr

/-- A node that takes a new baseline: the sum and number of frames seen, and how many it needs; absorbed or re-acquired (R445, R453). -/
structure TLearn where
  sum : Nat
  seen : Nat
  need : Nat
  deriving DecidableEq, Repr

/-- A touch surface (Tables 12.2, 12.4, 12.8): words, state, frame number, sums of STARTUP or REBASE, baselines, suspect nodes with their start-up delta, nodes that learn, contacts, identities with the frame they came free, line counts (runs out of line, runs in line), faulty lines, what a port received and not yet scanned. -/
structure TSurf where
  words : List Nat
  st : Nat
  frame : Nat
  sums : List Nat
  taken : Nat
  base : List Nat
  suspect : Tbl Int
  learn : Tbl TLearn
  contacts : List TContact
  freed : Tbl Nat
  lineBad : Tbl Nat
  lineFit : Tbl Nat
  lines : List Nat
  reported : List Nat
  noInterp : List Nat
  counts : Option (List Nat)
  self : Option (List Nat)
  lastRf : Nat
  lastCount : Option Nat
  cleanSince : Nat
  regions : Tbl TRegion
  nextRegions : List (Nat × Option TRegion)
  rings : Tbl TRing
  handover : List (Nat × Nat × Bool × Nat)
  rebase : Option (Bool × Nat)
  deriving DecidableEq, Repr

/-- Chapter 12. -/
structure Tch where
  surfs : Tbl TSurf
  unrouted : Tbl Nat
  excess : Tbl Nat
  anomaly : Tbl Nat
  rfErr : Tbl Nat
  rfGap : Tbl Nat
  deriving DecidableEq, Repr

/-- An effect slot (R463). -/
structure HSlot where
  owner : Nat
  w0 : Nat
  w1 : Nat
  deriving DecidableEq, Repr

/-- A trigger (R465 to R468): its slot with the parameters it started with, PREEMPT, and the work number of its HAP_PLAY, 0 for a touch trigger. -/
structure HTrig where
  slot : Nat
  owner : Nat
  w0 : Nat
  w1 : Nat
  preempt : Bool
  work : Nat
  deriving DecidableEq, Repr

/-- A resonance scan (R471): its command's work number, the step's frequency, pulses driven in it, best step and peak, bad windows in a row. -/
structure HScan where
  work : Nat
  freq : Nat
  pulse : Nat
  best : Nat
  bestPeak : Nat
  bad : Nat
  paused : Bool
  deriving DecidableEq, Repr

/-- A haptic channel (Tables 13.2 to 13.4): words, state, the effect in progress with its phase's pulse number, pulses driven, CLIPPED, whether it listens, pulses since the last window, the pulse's amplitude, when the brake began, HAP_STOP asked for; the trigger that cuts in and the one that waits; resonance in 0.1 Hz; windows in a row that point to OPEN and to STALLED; last peak and decay ratio. -/
structure HChan where
  w0 : Nat
  w1 : Nat
  st : Nat
  cur : Option HTrig
  idx : Nat
  driven : Nat
  clipped : Bool
  listening : Bool
  sinceListen : Nat
  amp : Nat
  brakeBegan : Nat
  stop : Bool
  cut : Option HTrig
  waiting : Option HTrig
  res : Nat
  openBad : Nat
  stallBad : Nat
  peak : Nat
  decay : Nat
  fault : Nat
  scan : Option HScan
  touchRun : Nat
  trigDrop : Nat
  deriving DecidableEq, Repr

/-- A binding of a touch region (R466), by surface and region. -/
structure HBind where
  inst : Nat
  channel : Nat
  slot : Nat
  preempt : Bool
  deriving DecidableEq, Repr

/-- Chapter 13. -/
structure Hap where
  chans : Tbl HChan
  slots : Tbl HSlot
  binds : Tbl HBind
  deriving DecidableEq, Repr

end Sys2Proof.Machine
end

