-- ==== Sys2Proof/Machine/Cold.lean ====
section
/-! DEFINITION. What each part of the state holds after a cold reset: the reset values of the register tables (R634), generations at 1 (R40), the share records of R122. Values that no rule gives are named in log entry 74. -/

namespace Sys2Proof.Machine

/-- The device of the model: what manufacture, fuses and straps fix (log entry 75): grade E, PRODUCTION, QSPI boot, 16 GiB at 8,533 MT/s in each group, the NAND of the example to R540. -/
def Fixed.device : Fixed :=
  { serial := Config.serial.toNat, gradeX := false, lifecycle := 1, identityKey := Config.identityKey.toNat, pairing := Config.pairingSecret.toNat, firmwareKey := le 96 Config.firmwareKey.toNat, debugDigest := le 48 Config.debugDigest.toNat,
    cascMaster := false, bootNand := false, memGiB := [16, 16], memRate := [8533, 8533], nand := { luns := 4, blocks := 1024, blockBytes := 2 ^ 24, channels := 2, rate := 800, tProg := 700, tR := 60, tRst := 200 } }

/-- A share record that permits nothing (R122). -/
def Share.none : Share :=
  { bands := 0, exportOk := false, weight := 1, refOutput := 0, resAMemA := 0, resBMemA := 0, resAMemB := 0, resBMemB := 0, rasterUs := 0, rasterAUs := 0, pcmUs := 0, pcmAUs := 0, layerQuota := 0, maxSlices := 0, streamRx := 0, jrnRate := 1,
    tagQuota := 0, dAge := 1, dDepth := 1 }

/-- Two layers on each of the nine fronds, 5 bits each (R122). -/
def quotaTwo : Nat := (List.range 9).foldl (fun a f => a + 2 * 2 ^ (5 * f)) 0

/-- The PF's record (R122). -/
def Share.pf : Share := { Share.none with bands := 14, exportOk := true, weight := 256, layerQuota := quotaTwo, maxSlices := 256, jrnRate := 10000, dAge := 10, dDepth := 256 }

/-- All share records at reset (R122). -/
def sharesCold : Tbl Share := (0, Share.pf) :: (List.range 63).map (fun i => (i + 1, Share.none))

/-- The journal at power-up (R637): RECOVERING; the partition is the NAND's. -/
def Jrn.cold (part : List JItem) (formats capacity blockBytes : Nat) : Jrn :=
  { st := .recovering, nextJseq := 1, chain := [], buffer := [], flushing := [], part := part, capacity := capacity, blockBytes := blockBytes, durable := 0, sealed := 0, sinceSeal := 0, sealTimer := 0, resumed := false, exported := 0,
    openExport := Option.none, exports := 0, formats := formats, waiting := [], eventLost := 0, lostSince := 0, bufferWait := 0, warned := 0, regulated := false, restored := 0, reserves := [false, false] }

/-- Chapters 1 to 3. -/
def Core.cold (dt : BitVec 64) (freeCtr : Nat) (host : Memory) (jrn : Jrn) : Core :=
  { dt := dt, freeCtr := freeCtr, rdData := [], gens := [], trans := [], discClass := [], discGen := [], discReset := [], groups := [], groupRuns := [], owed := [], nextWork := 1, slices := [], secCmp := [], secSeq := 0, fltLost := [],
    jrnReject := [], admJrnWait := [], host := host, stage2 := [], tlb := [], dtuFaults := 0, slice0Cb := 0, ready := false, mboxUp := 0, mboxDown := 0, upHead := 0, up := { next := 0, phase := true }, waitingN := [], keptN := [],
    mboxLost := 0, vfReq := [], vfRsp := [], vfBusy := [], vfReply := [], vfAsked := [], msix := [], pba := [], irqs := [], shares := sharesCold, sharesPending := [], tokens := [], tokenTime := [], adm := [], deficits := [], resets := [],
    compat := [], pos := 0, inWall := false, wallMaster := false, reachable := [], fwdIn := [], fwdOut := [], fwdReplies := [], fwdLost := 0, jrn := jrn }

/-- A link's state before its first flit. -/
def freshDir : LinkDir := { sendSeq := 0, acked := 0, replay := [], expect := 0, dropping := false, sinceAck := 0, msgCount := 0, partMsg := [] }

/-- The Lichen link down (Table 1.5), lanes 0 to 3 active (R21). -/
def Lnk.cold : Lnk :=
  { verMajor := 0, verMinor := 0, up := false, degraded := false, spareUsed := false, replacedLane := 0, laneFail := 0, replayCount := 0, crcErr := 0, authFail := 0, osuDrop := 0, toWarden := freshDir, toCanvas := freshDir, sessionKey := 0,
    authTimes := [], heartbeatsStopped := false, lastBeat := [], osuFault := [], activePair := 0, failedPairs := [], canvasPace := [], wardenPace := [], overload := false, floorMiss := false, slowest := 0, pacePs := 0, window := [], calmUs := 0 }

/-- The debug enables of a lifecycle at reset (Table 15.4). -/
def enablesOf (lifecycle : Nat) : Nat := if lifecycle = 1 then 0 else 15

/-- TAMPER_CFG's reset value (Table 15.11): DEBOUNCE_MS 0x14, INTERRUPT. -/
def tamperCold : Nat := 0x140008

/-- Chapter 15. -/
def Sec.cold (x : Fixed) (latched : List Nat) (held : Tbl Nat) (boots rollback : Nat) : Sec :=
  { run := .booting, wdog := 0, restartBegan := 0, restartCause := 0, restarts := 0, restartTimes := [], operatorKeys := [], sessionKeys := [], sealKey := sealingKey x.identityKey, meas := [], measCount := [], measLog := [], fwDigest := [],
    approved := [], approvedWords := [], approvedLock := false, keyLock := false, leases := [], dbgEnables := enablesOf x.lifecycle, dbgCertFail := 0, dbgAccessFail := 0, dbgChallenge := [], dbgCert := [], dbgLocked := false,
    siSince := bitOf (enablesOf x.lifecycle) 3, tamperCfg := (List.range 8).map (fun n => (n, tamperCold)), tamperOn := [], tamperLatched := latched, tamperHeld := held, decertified := false, nmbox := [], nmPush := [], nmDropped := 0, bootHalted := false,
    bootCode := 0, bootCount := boots, bootedB := false, worldDeny := 0, lockedWr := 0, sram := [], sramRgn := [], rollback := rollback }

/-- TRIP_C at reset by grade (Table 18.9). -/
def tripCold (x : Fixed) : Nat := if x.gradeX then 0x73 else 0x69

/-- Chapter 18 (Tables 18.2, 18.8, 18.9). -/
def Pwr.cold (x : Fixed) : Pwr :=
  { dom := [], avsEnable := true, avsTarget := 0x47E, avsMax := 0x384, avsMin := 0x258, vread := 0, vset := 0, shedMask := 0x412, tripC := tripCold x, warnC := (if x.gradeX then 0x64 else 0x5A),
    vmonLim := (List.range 24).map (fun n => (n, (Config.vmonLimits n).toNat)), sensor := [], warned := [], tripped := [], trippedAt := [], thermTripLow := false, held := false, shutdown := false, standby := false, shutdownBegan := 0,
    admitStopped := false, pcieUp := false, pcieTraining := false, resetAsked := Option.none, perstHigh := false, islands := [], mgmtRestarting := false, mgmtRestartBegan := 0, mgmtRestarts := [] }

/-- A memory group (Tables 4.9, 20.3, 20.5). -/
def MemGroup.cold : MemGroup :=
  { st := .training, frzCause := 0, frzChannel := 0, frzPort := 0, chTrained := 0, retrainLate := false, ceStorm := false, latentUe := false, lock := false, maxSleep := 3, grain := 10, cfgWrDrop := 0, tolerance := 0xFFFF, idleNs := 500,
    retrainMs := 1000, scrubPeriod := 24, ceLimit := 1000, ceCount := [], ceTimes := [], frzAddr := 0, frzInst := 0, frzQueue := [], badPages := [], poison := [], rgn := [], enforce := false, rgnLock := false, rgnViol := 0,
    rgnViolAddr := Option.none, rgnLockedWr := 0, queue := [], lastReq := 0, retrainDue := Option.none, retrainLeft := 0, lastRetrain := 0, refreshRate := 0, slots := [], pendingSlots := Option.none, slotPos := 0, prio := [], panic := [],
    drr := [], exiting := false, lost := false }

/-- Chapters 4 and 5's memory. -/
def MemSys.cold (dram : Memory) : MemSys := { a := MemGroup.cold, b := MemGroup.cold, devWeight := [], dram := dram, answer := Option.none, hint := 0 }

/-- Chapter 5. -/
def Srf.cold : Srf := { pools := [], surfs := [], maps := [], apertureMiss := 0, peak := 0, fullWait := 0, dropCount := [], lastLocked := [], copies := [], mirrorCopies := [] }

/-- A frond (Tables 6.7, 6.8, 7.11, 7.12). -/
def Frond.cold : Frond :=
  { enable := false, bands := 0, fullMirror := false, offset := 500, entA := 0, entB := 0, bg := 0, panicLevel := 0x40, panic := false, panicAt := 0, cushion := 0, tolerance := 65535, flagLine := 0, flagStages := 0, repeats := 0, drops := 0,
    stsLost := 0, underrun := 0, wbAbort := 0, tbcErr := 0, wb := [], wbLast := [], staged := [], commits := [], scan := Option.none, next := Option.none, line := 0, latches := 0, substituted := [], replaced := false, bistFailed := false, lost := [] }

/-- An output (Tables 7.9, 7.10): its XBAR_SEL names the frond of its own number. -/
def Outp.cold (o : Nat) : Outp :=
  { mode := [], token := Option.none, tokens := 0, link := 0, rate := 0, lanes := 0, hpd := false, sink := Option.none, frames := 0, frond := o, spare := false, tone := { now := [], pending := Option.none }, genlock := [], lock := 0, phaseErr := 0,
    goodFrames := 0, rateMean := 0, vt := 0, vtNew := Option.none, sav := 0, nextSav := 0, modeset := Option.none, black := false, lineOut := [], edgeAt := 0, edgeLast := 0, edgeCount := 0 }

/-- Chapters 6 and 7. -/
def Frd.cold : Frd :=
  { fronds := (List.range 9).map (fun f => (f, Frond.cold)), layers := [], outs := (List.range 8).map (fun o => (o, Outp.cold o)),
    patrol := { st := 0, target := 0, frames := 0, mismatch := 0, streak := 0, lastMismatch := 0, swaps := 0, cause := 0, detected := 0, partly := false, fromLine := 0, pending := [] }, glayers := [], passes := [], used := [], pcmPasses := 0, pcmTbcErr := 0 }

/-- LED_VEIL_PAL_RGB at reset (Table 8.7). -/
def palCold : Tbl Nat := [(0, 0), (1, 0x3FFFFFFF), (2, 0x3FFA0000), (3, 0x3FF00000), (4, 0x000803FF), (5, 0x20080200)]

/-- Chapters 8 and 9 (Tables 8.6 to 8.8). -/
def Led.cold : Led :=
  { tags := [], regions := [], sregs := [], refreshDrop := 0, refreshExpired := 0, notifyLost := [], notifyTimes := [], veilFrames := [], veilLock := false, lockedWr := 0, palRgb := palCold,
    palYcc := (List.range 16).map (fun n => (n, 0x04080200)), style := (List.range 8).map (fun n => (n, 0x00080005)), badge := (List.range 8).map (fun n => (n, 0x10314120)), hostLink := false, results := [], sigLate := 0, sigSkipped := 0 }

/-- Chapter 9's check engines. -/
def Chk.cold : Chk := { engines := [] }

/-- Chapter 10. -/
def Ras.cold : Ras := { jobs := [], cores := [], programs := [], loads := [], guardDrop := 0, hsrSkip := 0, passSplit := 0, flushCount := 0, tbcErr := 0 }

/-- The PTP clock: FREE, domain 127 (R412). -/
def Ptp.cold (everLocked : Bool) : Ptp := { domain := 127, ports := 0, st := 0, offset := 0, slewing := false, everLocked := everLocked, goodSyncs := 0, lastAnnounce := 0, lastSync := 0 }

/-- Chapter 11. -/
def Ing.cold (everLocked : Bool) : Ing := { ports := [], recvs := [], ptp := Ptp.cold everLocked }

/-- A rhizome port that is enabled and down. -/
def freshPort : RPort := { enable := true, major := 0, minor := 0, up := false, neighbour := 0, lanes := 0, dir := freshDir, fails := 0 }

/-- Chapter 17 (Table 17.2): FORMING, one member, the deputy chosen by the device. -/
def Rhz.cold : Rhz :=
  { auto := true, deputyWord := 0, masterPos := 0, deputyPos := 0, members := 1, serials := [], role := 4, split := false, time := 0, holdAt := 0, lastBeacon := 0, changes := 0, ver := 0, ports := [], replayCount := [], crcErr := [],
    videoDrop := 0, broken := [], tagWait := [], passed := [], videoOut := [], tagOut := [], landed := [], auths := [], challenges := [] }

/-- Chapter 12. -/
def Tch.cold : Tch := { surfs := [], unrouted := [], excess := [], anomaly := [], rfErr := [], rfGap := [] }

/-- Chapter 13. -/
def Hap.cold : Hap := { chans := [], slots := [], binds := [] }

/-- Chapter 14. -/
def Aud.cold : Aud :=
  { mode := 0, k := 0, srcs := [], buses := [], sinks := [], applies := [], tdm := [], hsOwner := 0, hpLimit := 0, hpLock := false, jack := 0, jackSince := 0, plugged := false, pressed := false, button := 0, micMv := 0, load := 0,
    starve := [], slip := [], sat := [], sinkSat := [], sinkDrop := [] }

/-- Chapter 16 with a NAND that holds no format record (Table 16.9, R533). -/
def Peat.cold : Peat :=
  { formatted := false, sizes := [], attrs := [], retainLock := false, retainMin := 0, uncorr := 0, rgnViol := 0, disturbLimit := 0xC350, patrolDays := 7, stageMib := 0x40, holdup := 0, sparesLow := false, reserve := [], flushing := false,
    failTime := 0, failSaved := 0, nextCapture := 1, requests := [], staged := [], stored := [], images := [], slots := [], committed := [], activating := [], dumps := [], dumpArea := Option.none, nextDump := 1, log := [], baselines := [],
    blocks := [], spares := [] }

/-- Chapter 20's own registers. -/
def Regs.cold : Regs := { wrIgnored := 0, latch := [] }

end Sys2Proof.Machine
end

