-- ==== Sys2Proof/Machine/State.lean ====
section
/-! DEFINITION. The state of the block: every register, queue, buffer and memory the spec gives it, and the commands that wait. -/

namespace Sys2Proof.Machine

/-- Stops that the block raises. No meaning of the table ends in one (safe): a command that the spec lets be refused, rejected or failed is answered in the state. -/
inductive Fault where
  /-- raised by nothing: every command of the table has an effect in the spec (safe) -/
  | none
  deriving DecidableEq, Repr

/-- Refusals of the model. -/
inductive Refusal where
  /-- raised by an arm of exec whose command has no meaning yet (safe) -/
  | notModelled (mnemonic : String)
  deriving DecidableEq, Repr

/-- The state of the block. -/
structure State where
  fix : Fixed
  core : Core
  lnk : Lnk
  sec : Sec
  pwr : Pwr
  mem : MemSys
  srf : Srf
  frd : Frd
  led : Led
  chk : Chk
  ras : Ras
  ing : Ing
  rhz : Rhz
  tch : Tch
  hap : Hap
  aud : Aud
  peat : Peat
  reg : Regs
  pending : List Instr
  deriving DecidableEq, Repr

/-- The block right after reset: every register at its reset value, the NAND without a format record, no command waiting. -/
def State.reset : State :=
  { fix := Fixed.device, core := Core.cold 0 0 [] (Jrn.cold [] 0 0 Fixed.device.nand.blockBytes), lnk := Lnk.cold, sec := Sec.cold Fixed.device [] [] 0 0, pwr := Pwr.cold Fixed.device, mem := MemSys.cold [], srf := Srf.cold, frd := Frd.cold,
    led := Led.cold, chk := Chk.cold, ras := Ras.cold, ing := Ing.cold false, rhz := Rhz.cold, tch := Tch.cold, hap := Hap.cold, aud := Aud.cold, peat := Peat.cold, reg := Regs.cold, pending := [] }

end Sys2Proof.Machine
end

