-- ==== Sys2Proof/Machine/Packet.lean ====
section
/-! DEFINITION. What every packet command goes through: taking from a ring, the checks of Table 2.2, groups (R38), the wall (R563), journaling (R81) and completion (R67). -/

namespace Sys2Proof.Machine

/-- The state with its core changed. -/
def State.mapCore (s : State) (f : Core → Core) : State := { s with core := f s.core }

/-- A command's outcome: the state its effect leaves. No command changes what manufacture fixed, the commands that wait behind it, or device time (R10: the PTP clock gives it). -/
def State.ends (s t : State) : Host.Outcome State Fault Refusal := .next { t with fix := s.fix, pending := s.pending, core := { t.core with dt := s.core.dt } }

/-- The outcome of one of the few commands that may move device time (R413, R559, R603). -/
def State.endsTime (s t : State) : Host.Outcome State Fault Refusal := .next { t with fix := s.fix, pending := s.pending }

/-- The power domain that holds a unit (Table 18.1). -/
def domainOf (u : Nat) : Nat :=
  let i := uIdx u
  let frond := if i < 5 then 2 else 3
  match uCls u with
  | 0x20 => frond
  | 0x21 => frond
  | 0x23 => frond
  | 0x52 => frond
  | 0x24 => 1
  | 0x30 => 1
  | 0x40 => 4
  | 0x41 => 4
  | 0x42 => 4
  | 0x53 => if i < 16 then 0 else if i < 32 then 4 else 8
  | 0x10 => if i = 0 then 5 else 6
  | 0x12 => if i = 0 then 5 else if i = 1 then 6 else if i = 2 then 8 else 11
  | 0x60 => 10
  | 0x61 => 10
  | 0x62 => 10
  | 0x70 => 10
  | 0x71 => 10
  | 0x72 => 10
  | 0x73 => 10
  | 0x74 => 10
  | 0x80 => 11
  | 0x90 => 7
  | 0x50 => 8
  | 0x51 => 8
  | 0x81 => 8
  | _ => 0

/-- The phase of a unit: its own transition, else its domain's state (R42, R576). Domains themselves are ruled by PWR_DOMAIN_SET. -/
def State.phaseOf (s : State) (u : Nat) : Phase :=
  match Tbl.find s.core.trans (uKey u) with
  | some t => t.phase
  | none =>
    if uCls u = 0xA0 then .active
    else
      match Tbl.at s.pwr.dom .off (domainOf u) with
      | .on => .active
      | .draining => .draining
      | _ => .off

/-- True where step 11 passes for a unit. -/
def State.isActive (s : State) (u : Nat) : Bool := s.phaseOf u == .active

/-- The verdict on a command that passed every check. -/
inductive Verdict where
  /-- finished, with its completion -/
  | done (s : State) (r : Rsp)
  /-- a first completion with a delayed status; the command waits -/
  | delayed (s : State) (r : Rsp) (w : Wait) (started : Bool)
  /-- no completion until later work ends -/
  | silent (s : State) (w : Wait)

/-- The status a verdict journals at admission (R84): a command still at work is journaled as SERVED (log entry 9). -/
def Verdict.status : Verdict → Status
  | .done _ r => r.st
  | .delayed _ r _ _ => r.st
  | .silent _ _ => .served

/-- Which forms an opcode has (step 7). -/
inductive Forms where
  | setOnly | both | queryOnly
  deriving DecidableEq, Repr

/-- One opcode's own part of the checks and its effect. -/
structure Cmd where
  opcode : Nat
  forms : Forms
  secure : Bool
  always : Bool
  form : State → Who → Packet → Bool
  qform : State → Who → Packet → Bool
  unitOk : State → Who → Packet → Bool
  may : State → Who → Packet → Bool
  active : State → Packet → Bool
  check : State → Who → Packet → Option Rsp
  run : State → Who → Packet → Verdict
  ask : State → Who → Packet → State × Rsp

/-- True where this packet asks for the query form. -/
def Cmd.asks (c : Cmd) (p : Packet) : Bool :=
  match c.forms with
  | .queryOnly => true
  | .both => pkQuery p
  | .setOnly => false

/-- True where the packet changes state. -/
def Cmd.changes (c : Cmd) (p : Packet) : Bool := !c.asks p && c.opcode != 0x0000

/-- Step 7. -/
def Cmd.step7 (c : Cmd) (s : State) (w : Who) (p : Packet) : Bool :=
  pkReservedOk p && (match c.forms with
    | .setOnly => !pkQuery p && c.form s w p
    | .queryOnly => c.qform s w p
    | .both => if pkQuery p then c.qform s w p else c.form s w p)

/-- The exemptions of R97: the journal group, PWR_SHUTDOWN, PWR_THERMAL_SET, and the secure firmware. -/
def exemptFull (op : Nat) (w : Who) : Bool := w.secure || asOp op / 256 == 0x0D || op == 0x0E06 || op == 0x0E04

/-- R564: on a member that is not the master, its own PF may only query and its VFs nothing. -/
def State.wallAllows (s : State) (w : Who) (asks : Bool) : Bool :=
  w.secure || w.remote.isSome || !s.core.inWall || s.core.wallMaster || (w.inst == 0 && asks)

/-- Steps 8 to 12 for one unit: the outcome of the first check that fails; the flag says that step 9 was passed. -/
def Cmd.steps (c : Cmd) (s : State) (w : Who) (p : Packet) : Option (Rsp × Bool) :=
  if !c.unitOk s w p then some (Rsp.plain .rejectedUnit, false)
  else if !(s.wallAllows w (c.asks p) && c.may s w p) then some (Rsp.plain .rejectedPermission, false)
  else if c.changes p && s.core.jrn.st == .full && !exemptFull c.opcode w then some (Rsp.plain .refusedJournalFull, true)
  else if !c.active s p then some (Rsp.plain .refusedUnitReset, true)
  else if c.secure && s.sec.run == .restarting && !c.asks p then none
  else if c.asks p then none
  else (c.check s w p).map (fun r => (r, true))

/-- The members of a group that are not groups, depth first (R38). -/
def Core.leaves (c : Core) : Nat → List Nat → List Nat
  | _, [] => []
  | 0, _ => []
  | f + 1, u :: us =>
    match Tbl.find c.groups (uKey u) with
    | some g => Core.leaves c f (g.members ++ us)
    | none => u :: Core.leaves c f us

/-- Enough steps to flatten every group. -/
def Core.leafFuel (c : Core) : Nat := (c.groups.length + 1) * (1 + (c.groups.map (fun e => e.2.members.length)).foldl (· + ·) 0) + 1

/-- True where a packet's target is a group that the opcode does not take itself, so that it fans out (R38, R565). -/
def Cmd.fansOut (c : Cmd) (s : State) (w : Who) (p : Packet) : Bool :=
  !isCompatOp c.opcode && !c.unitOk s w p && ((isMadeGroup (uCls (pkUnit p)) && (Tbl.find s.core.groups (uKey (pkUnit p))).isSome) || (uCls (pkUnit p) == 0xF0 && unitInRange (pkUnit p)))

/-- The units a group command reaches. -/
def State.fanUnits (s : State) (p : Packet) : List Nat :=
  if uCls (pkUnit p) = 0xF0 then s.core.reachable.map (fun pos => pos * 2 ^ 28)
  else s.core.leaves s.core.leafFuel [uKey (pkUnit p)]

/-- A packet with another UNIT. -/
def withUnit (p : Packet) (u : Nat) : Packet := { p with unit := BitVec.ofNat 32 u }

/-- True where a unit lies on another device of the wall. -/
def State.foreign (s : State) (u : Nat) : Bool := uPos u != s.core.pos

/-- True where another device can be reached by forwarding (R563). -/
def State.canForward (s : State) (u : Nat) : Bool := s.core.inWall && s.core.wallMaster && s.core.reachable.contains (uPos u)

/-- Counts of a group's members (R38). -/
structure FanAcc where
  served : Nat
  late : Nat
  failed : Nat
  firstFail : Option Status
  firstDelay : Option Rsp
  waiting : Nat
  deriving DecidableEq, Repr

/-- Adds a finished member. -/
def FanAcc.add (a : FanAcc) (st : Status) : FanAcc :=
  match st.cls with
  | 0 => { a with served := a.served + 1, late := a.late + (if st = .servedLate then 1 else 0) }
  | _ => { a with failed := a.failed + 1, firstFail := a.firstFail.or (some st) }

/-- The group's completion (R38). -/
def fanRsp (served late failed : Nat) (firstFail : Option Status) : Rsp :=
  { st := if failed = 0 then (if late = 0 then .served else .servedLate) else if served = 0 then firstFail.getD .failed else .servedPartial,
    r0 := served, r1 := failed, r2 := 0 }

/-- Records that a packet waits. -/
def State.owe (s : State) (w : Who) (p : Packet) (op : Nat) (wait : Wait) (started delayed : Bool) (jseq : Nat) (group : Option Nat) : State :=
  s.mapCore (fun c => { c with owed := c.owed ++ [{ who := w, pk := p, op := op, wait := wait, started := started, since := c.now, jseq := jseq, delayed := delayed, group := group }] })

/-- Forwards a packet to another device and has it wait for the reply (R563). -/
def State.forward (s : State) (w : Who) (p : Packet) (group : Option Nat) : State :=
  (s.mapCore (fun c => { c with fwdOut := c.fwdOut ++ [(uPos (pkUnit p), w, p)] })).owe w p p.opcode.toNat (.remote (uPos (pkUnit p))) true false 0 group

/-- Runs a group command on its units in turn. -/
def Cmd.fan (c : Cmd) (w : Who) (p : Packet) (gid jseq : Nat) : List Nat → State → FanAcc → State × FanAcc
  | [], s, a => (s, a)
  | u :: us, s, a =>
    let q := withUnit p u
    if s.foreign u then Cmd.fan c w p gid jseq us (s.forward w q (some gid)) { a with waiting := a.waiting + 1 }
    else
      match c.run s w q with
      | .done s1 r => Cmd.fan c w p gid jseq us s1 (a.add r.st)
      | .delayed s1 r wt started => Cmd.fan c w p gid jseq us (s1.owe w q c.opcode wt started false jseq (some gid)) { a with waiting := a.waiting + 1, firstDelay := a.firstDelay.or (some r) }
      | .silent s1 wt => Cmd.fan c w p gid jseq us (s1.owe w q c.opcode wt true false jseq (some gid)) { a with waiting := a.waiting + 1 }

/-- The first unit of a group that would refuse or reject (R38). -/
def Cmd.fanBlocked (c : Cmd) (s : State) (w : Who) (p : Packet) : List Nat → Option (Rsp × Bool)
  | [] => none
  | u :: us =>
    if s.foreign u then (if s.canForward u then Cmd.fanBlocked c s w p us else some (Rsp.plain .failedLink, true))
    else
      match c.steps s w (withUnit p u) with
      | some x => some x
      | none => Cmd.fanBlocked c s w p us

/-- What turns a group command away: its first unit that would refuse or reject, then the group unit's own transition (R38, R42). -/
def Cmd.fanTurn (c : Cmd) (s : State) (w : Who) (p : Packet) : Option (Rsp × Bool) :=
  (c.fanBlocked s w p (s.fanUnits p)).or (if uCls (pkUnit p) != 0xF0 && !s.isActive (pkUnit p) then some (Rsp.plain .refusedUnitReset, true) else none)

/-- Journals a packet that is to be journaled and answers its sequence, 0 where it is not. -/
def State.journalIf (s : State) (yes : Bool) (w : Who) (p : Packet) (op : Nat) (st : Status) : State × Nat :=
  if yes then
    let r := s.core.journalPacket w p op st
    ({ s with core := r.1 }, r.2)
  else (s, 0)

/-- True where a packet is journaled once it has passed step 9 (R60, R81). -/
def Cmd.journals (c : Cmd) (p : Packet) : Bool := c.changes p || c.always || pkJournal p || pkSync p

/-- True where completions wait for durability (R60, R61). -/
def Cmd.syncs (c : Cmd) (p : Packet) : Bool := pkSync p || c.always

/-- Ends a packet that failed a check: journaled if it must be, counted if it is another rejected packet (R81), completed. -/
def Cmd.turnAway (c : Cmd) (s : State) (w : Who) (p : Packet) (r : Rsp) (past9 : Bool) : State :=
  let j := (past9 && c.journals p) || r.st == .rejectedPermission
  let sj := s.journalIf j w p c.opcode r.st
  let s2 := if !j && r.st.cls == 3 && !w.secure then sj.1.mapCore (fun k => { k with jrnReject := Tbl.inc k.jrnReject (sliceKey w.inst w.slice) }) else sj.1
  s2.mapCore (fun k => k.completeOrWait w p r (c.syncs p) sj.2)

/-- A command that passed every check: journaled, executed, completed or left waiting. -/
def Cmd.execute (c : Cmd) (s : State) (w : Who) (p : Packet) : State :=
  if c.asks p then
    let sj := s.journalIf (c.journals p) w p c.opcode .served
    let a := c.ask sj.1 w p
    a.1.mapCore (fun k => k.completeOrWait w p a.2 (c.syncs p) sj.2)
  else if c.secure && s.sec.run == .restarting then
    let sj := s.journalIf (c.journals p) w p c.opcode .delayedSecureRestart
    let s1 := sj.1.mapCore (fun k => k.complete w p (Rsp.plain .delayedSecureRestart) false (k.jrn.isDurable sj.2 && sj.2 != 0) sj.2)
    s1.owe w p c.opcode .secRestart false true sj.2 none
  else
    let sj := s.journalIf (c.journals p) w p c.opcode (c.run s w p).status
    match c.run sj.1 w p with
    | .done s1 r => s1.mapCore (fun k => k.completeOrWait w p r (c.syncs p) sj.2)
    | .delayed s1 r wt started =>
      (s1.mapCore (fun k => k.complete w p r false (k.jrn.isDurable sj.2 && sj.2 != 0) sj.2)).owe w p c.opcode wt started true sj.2 none
    | .silent s1 wt => s1.owe w p c.opcode wt true false sj.2 none

/-- A group command that no member turns away (R38). -/
def Cmd.executeFan (c : Cmd) (s : State) (w : Who) (p : Packet) (us : List Nat) : State :=
  let gid := s.core.nextWork
  let s0 := s.mapCore (fun k => { k with nextWork := k.nextWork + 1 })
  let sj := s0.journalIf (c.journals p) w p c.opcode .served
  let r := c.fan w p gid sj.2 us sj.1 { served := 0, late := 0, failed := 0, firstFail := none, firstDelay := none, waiting := 0 }
  if r.2.waiting = 0 then
    r.1.mapCore (fun k => k.completeOrWait w p (fanRsp r.2.served r.2.late r.2.failed r.2.firstFail) (c.syncs p) sj.2)
  else
    let run : GroupRun :=
      { who := w, pk := p, op := c.opcode, remaining := r.2.waiting, served := r.2.served, late := r.2.late, failed := r.2.failed, firstFail := r.2.firstFail, jseq := sj.2, delayed := r.2.firstDelay.isSome }
    let s2 := r.1.mapCore (fun k => { k with groupRuns := Tbl.put k.groupRuns gid run })
    match r.2.firstDelay with
    | some rs => s2.mapCore (fun k => k.complete w p rs false false sj.2)
    | none => s2

/-- A query to a group fans out and returns one combined record whose layout no rule gives: a free value (R39, log entry 10). -/
def Cmd.executeFanQuery (c : Cmd) (s : State) (w : Who) (p : Packet) : State :=
  let sj := s.journalIf (c.journals p) w p c.opcode .served
  sj.1.mapCore (fun k => (k.useFree 2).completeOrWait w p { st := .served, r0 := k.free, r1 := (Config.freeValue (k.freeCtr + 1)).toNat, r2 := 0 } (c.syncs p) sj.2)

/-- Steps 7 to 12 and what follows. -/
def Cmd.accept (c : Cmd) (s : State) (w : Who) (p : Packet) : State :=
  if !c.step7 s w p then c.turnAway s w p (Rsp.plain .rejectedMalformed) false
  else if s.foreign (pkUnit p) && c.opcode / 2 != 0 && !isCompatOp c.opcode && w.remote.isNone then
    if s.canForward (pkUnit p) then s.forward w p none
    else
      let s1 := if c.changes p then s else s.mapCore (fun k => { k with fwdLost := satInc k.fwdLost })
      let sj := s1.journalIf (c.changes p) w p c.opcode .failedLink
      sj.1.mapCore (fun k => k.completeOrWait w p (Rsp.plain .failedLink) (c.syncs p) sj.2)
  else if c.fansOut s w p then
    match c.fanTurn s w p with
    | some (r, past9) => c.turnAway s w p r past9
    | none => if c.asks p then c.executeFanQuery s w p else c.executeFan s w p (s.fanUnits p)
  else
    match c.steps s w p with
    | some (r, past9) => c.turnAway s w p r past9
    | none => c.execute s w p

/-- True where the packet will be journaled: it passes step 9 and is of a journaled kind, fails with FAILED_LINK while changing state, or fails step 9 (R81). -/
def Cmd.willJournal (c : Cmd) (s : State) (w : Who) (p : Packet) : Bool :=
  c.step7 s w p && (if s.foreign (pkUnit p) && c.opcode / 2 != 0 && !isCompatOp c.opcode && w.remote.isNone then !s.canForward (pkUnit p) && c.changes p
    else match (if c.fansOut s w p then c.fanTurn s w p else c.steps s w p) with
    | some (r, past9) => (past9 && c.journals p) || r.st == .rejectedPermission
    | none => c.journals p)

/-! ## Slices: steps 1 to 6, rings -/

/-- The versions the device supports (R73), major times 16 plus minor. -/
def supported (v : Nat) : Bool := [0x10, 0x11, 0x12, 0x13, 0x20].contains v

/-- The FDX-4410 opcodes of Table 2.14 other than NOP and NEGOTIATE. -/
def compatOpcodes : List Nat := compatTarget.map Prod.fst

/-- The opcode a packet is executed as (R76): none where the session's version does not define it. -/
def opFor (ver op : Nat) : Option Nat :=
  if 0 < ver ∧ ver < 0x20 then
    (if op < 2 then some op else if compatOpcodes.contains op then some (0x7F00 + op) else none)
  else some op

/-- What becomes of the front packet of a slice before its opcode is looked at. -/
inductive Front where
  | empty
  | stall
  | fenced
  | drop
  | halt
  | reject (r : Rsp) (advance : Bool)
  | go (p : Packet) (op : Nat)

/-- True where a slice must not take another packet now: halted, draining, or behind a renegotiation (R75). -/
def Core.holds (c : Core) (inst idx : Nat) (sl : Slice) : Bool :=
  sl.st == .halted || sl.st == .draining ||
  c.owed.any (fun o => !o.who.secure && o.who.remote.isNone && o.who.inst == inst && o.who.slice == idx && o.pk.opcode.toNat == 1 && o.group.isNone)

/-- LENGTH is 2 to 512 and the packet lies within the tail (step 2). -/
def lengthOk (p : Packet) : Bool := decide (2 ≤ p.length.toNat) && decide (p.length.toNat ≤ 512) && p.words.length + 2 == p.length.toNat

/-- The entries a packet needs room for (R58). -/
def roomFor (p : Packet) : Nat := if p.opcode = 0 then 1 else 2

/-- Completions still owed to packets of a slice already taken (R58). -/
def Core.owedTo (c : Core) (inst idx : Nat) : Nat :=
  (c.owed.filter (fun o => !o.who.secure && o.who.remote.isNone && o.who.inst == inst && o.who.slice == idx && o.group.isNone)).length
    + (c.groupRuns.filter (fun e => !e.2.who.secure && e.2.who.remote.isNone && e.2.who.inst == inst && e.2.who.slice == idx)).length

/-- Steps 1 to 5 on the front packet, with the room of R58 and FENCE. -/
def Core.front (c : Core) (inst idx : Nat) : Front :=
  match c.slice inst idx with
  | none => .empty
  | some sl =>
    match sl.visible with
    | [] => .empty
    | p :: _ =>
      if c.holds inst idx sl then .empty
      else if p.gen ≠ c.genOf (sliceUnit inst idx) then (if lengthOk p then .drop else .halt)
      else if c.room inst sl .cmp < roomFor p + c.owedTo inst idx then .stall
      else if !lengthOk p then .reject (Rsp.plain .rejectedLength) false
      else if sl.ver = 0 ∧ 2 ≤ p.opcode.toNat then .reject (Rsp.plain .rejectedNoSession) false
      else if (if sl.ver = 0 then !supported p.ver.toNat else !(pkMajor p == sl.ver / 16 && decide (pkMinor p ≤ sl.ver % 16))) then .reject (Rsp.plain .rejectedVersion) false
      else if sl.ver ≠ 0 ∧ p.seq.toNat ≠ (sl.lastAccepted + 1) % 2 ^ 32 then .reject (Rsp.code .rejectedSequence ((sl.lastAccepted + 1) % 2 ^ 32)) false
      else if pkFence p ∧ sl.outstanding ≠ 0 then .fenced
      else
        match opFor sl.ver p.opcode.toNat with
        | some op => .go p op
        | none => .reject (Rsp.plain .rejectedOpcode) true

/-- Where the ring goes on after a packet: fewer than 16 bytes before the end are skipped (R55). -/
def Slice.past (s : Slice) (len : Nat) : Nat :=
  let size := 2 ^ fld s.rings.sizes 4 0
  let h := (s.subHead + 8 * len) % size
  if size - h < 16 && h != s.tail then 0 else h

/-- Takes the front packet off the ring: SUB_HEAD moves past it, the sequence advances if it passed step 5 (R56, R64). -/
def Core.take (c : Core) (inst idx : Nat) (p : Packet) (advance : Bool) : Core :=
  (c.updSlice inst idx (fun s =>
    { s with visible := s.visible.drop 1, subHead := s.past p.length.toNat,
             lastAccepted := (if advance then p.seq.toNat else s.lastAccepted), outstanding := s.outstanding + 1,
             cmpStall := false, jrnWait := false, countedToken := false, countedBuffer := false })).syncCb inst idx

/-- Marks a stall of the completion ring in STATUS_WORD (R58). -/
def Core.stall (c : Core) (inst idx : Nat) : Core := (c.updSlice inst idx (fun s => { s with cmpStall := true })).syncCb inst idx

/-- Refills an instance's token bucket to now (R130); tokens are counted in units of 1e-9. -/
def Core.refill (c : Core) (inst : Nat) : Core :=
  let rate := (Tbl.find c.shares inst).elim 1 Share.jrnRate
  let t := min (1024 * 10 ^ 9) (Tbl.at c.tokens (1024 * 10 ^ 9) inst + (c.now - Tbl.at c.tokenTime 0 inst) * rate)
  { c with tokens := Tbl.put c.tokens inst t, tokenTime := Tbl.put c.tokenTime inst c.now }

/-- Tokens an instance holds, whole ones. -/
def Core.tokensOf (c : Core) (inst : Nat) : Nat := Tbl.at c.tokens (1024 * 10 ^ 9) inst / 10 ^ 9

/-- Takes one token. -/
def Core.spend (c : Core) (inst : Nat) : Core := { c with tokens := Tbl.put c.tokens inst (Tbl.at c.tokens (1024 * 10 ^ 9) inst - 10 ^ 9) }

/-- True where the journal admits another journaled packet: rebuilt, room in the buffer, an erased reserve area, no power fail or shutdown under way (R94, R535, R538, R581, R637, R642). -/
def State.journalAdmits (s : State) (op : Nat) : Bool :=
  s.core.jrn.st != .recovering && s.core.jrn.hasRoom (asOp op / 256 == 0x0D) && s.core.jrn.reserves.contains true && !s.pwr.admitStopped

/-- Counts a packet that waits for a journal token, once (R130). -/
def Core.waitToken (c : Core) (inst idx : Nat) (sl : Slice) : Core :=
  let c1 := if sl.countedToken then c else { c with admJrnWait := Tbl.inc c.admJrnWait inst }
  (c1.updSlice inst idx (fun s => { s with jrnWait := true, countedToken := true })).syncCb inst idx

/-- Counts a packet that waits for room in the journal buffer, once (R94). -/
def Core.waitBuffer (c : Core) (inst idx : Nat) (sl : Slice) : Core :=
  let c1 : Core := if sl.countedBuffer then c else { c with jrn := { c.jrn with bufferWait := satInc c.jrn.bufferWait } }
  c1.updSlice inst idx (fun s => { s with countedBuffer := true })

/-- The issuer that a slice is. -/
def sliceWho (inst idx : Nat) : Who := { secure := false, inst := inst, slice := idx, remote := none }

/-- The secure firmware as issuer (R639). -/
def secWho : Who := { secure := true, inst := 0, slice := 0, remote := none }

/-- A command at the front of a slice's ring. -/
def Cmd.fromSlice (c : Cmd) (s : State) (inst idx : Nat) : State :=
  match s.core.front inst idx with
  | .stall => s.mapCore (fun k => k.stall inst idx)
  | .go p op =>
    if op ≠ c.opcode then s
    else
      match s.core.slice inst idx with
      | none => s
      | some sl =>
        let s1 := s.mapCore (fun k => k.refill inst)
        let j := c.willJournal s1 (sliceWho inst idx) p
        if j && !s1.journalAdmits c.opcode then s1.mapCore (fun k => k.waitBuffer inst idx sl)
        else if j && s1.core.tokensOf inst == 0 then s1.mapCore (fun k => k.waitToken inst idx sl)
        else
          let s2 := s1.mapCore (fun k => (if j then k.spend inst else k).take inst idx p true)
          c.accept s2 (sliceWho inst idx) p
  | _ => s

/-- A command of the secure firmware (R639): steps 2 and 6 to 12; without room in the journal buffer it waits. -/
def Cmd.fromSec (c : Cmd) (s : State) (p : Packet) : State :=
  if p.opcode.toNat ≠ c.opcode then s
  else
    let done (s : State) : State := s.mapCore (fun k => { k with secSeq := (k.secSeq + 1) % 2 ^ 32 })
    if !lengthOk p then done (c.turnAway s secWho p (Rsp.plain .rejectedLength) false)
    else if c.opcode < 2 ∨ c.opcode / 256 = 0x7F then done (c.turnAway s secWho p (Rsp.plain .rejectedOpcode) false)
    else if c.willJournal s secWho p && !s.journalAdmits c.opcode then
      done ((s.mapCore (fun k => { k with jrn := { k.jrn with bufferWait := satInc k.jrn.bufferWait } })).owe secWho p c.opcode .journalRoom false false 0 none)
    else done (c.accept s secWho p)

/-- The oldest packet forwarded to this device: steps 8 to 12 here (R563). -/
def Cmd.fromWall (c : Cmd) (s : State) : State :=
  match s.core.fwdIn with
  | [] => s
  | (w, p) :: rest =>
    if p.opcode.toNat ≠ c.opcode then s
    else if c.willJournal s w p && !s.journalAdmits c.opcode then s
    else c.accept (s.mapCore (fun k => { k with fwdIn := rest })) w p

/-- A packet command from its port. -/
def Cmd.exec (c : Cmd) (port : Port) (s : State) : State :=
  match port with
  | .slice inst idx => c.fromSlice s inst idx
  | .sec p => c.fromSec s p
  | .forwarded => c.fromWall s

/-- Gives a waiting command its final completion; a delayed one gets its second record (R67, R84). A member of a group is counted towards its group (R38). -/
def State.finish (s : State) (o : Owed) (r : Rsp) : State :=
  match o.group with
  | none =>
    if o.delayed && o.jseq != 0 then
      let j := s.core.journalPacket o.who o.pk o.op r.st
      { s with core := j.1.completeOrWait o.who o.pk r (pkSync o.pk) j.2 }
    else s.mapCore (fun k => k.completeOrWait o.who o.pk r (pkSync o.pk) o.jseq)
  | some g =>
    match Tbl.find s.core.groupRuns g with
    | none => s
    | some run =>
      let good := r.st.cls == 0
      let run1 := { run with remaining := run.remaining - 1, served := run.served + b2n good, late := run.late + b2n (r.st == .servedLate),
                             failed := run.failed + b2n (!good), firstFail := (if good then run.firstFail else run.firstFail.or (some r.st)) }
      if run1.remaining = 0 then
        let s1 := s.mapCore (fun k => { k with groupRuns := Tbl.del k.groupRuns g })
        let rs := fanRsp run1.served run1.late run1.failed run1.firstFail
        if run1.delayed && run1.jseq != 0 then
          let j := s1.core.journalPacket run1.who run1.pk run1.op rs.st
          { s1 with core := j.1.completeOrWait run1.who run1.pk rs (pkSync run1.pk) j.2 }
        else s1.mapCore (fun k => k.completeOrWait run1.who run1.pk rs (pkSync run1.pk) run1.jseq)
      else s.mapCore (fun k => { k with groupRuns := Tbl.put k.groupRuns g run1 })

/-- Finishes every waiting command that a test picks, with the completion a function gives it. -/
def State.finishWhere (s : State) (pick : Owed → Bool) (rsp : Owed → Rsp) : State :=
  let mine := s.core.owed.filter pick
  mine.foldl (fun t o => t.finish o (rsp o)) (s.mapCore (fun k => { k with owed := k.owed.filter (fun o => !pick o) }))

/-- Finishes the command that waits for a piece of engine work. -/
def State.finishWork (s : State) (n : Nat) (r : Rsp) : State := s.finishWhere (fun o => o.wait == .work n) (fun _ => r)

/-- A fresh number for a piece of engine work. -/
def State.newWork (s : State) : State × Nat := (s.mapCore (fun k => { k with nextWork := k.nextWork + 1 }), s.core.nextWork)

/-- The opcodes of a 2.0 session (R70): the rows of the chapters' command tables. -/
def definedOps : List Nat :=
  [0x0000, 0x0001] ++ (List.range 4).map (0x0100 + ·) ++ (List.range 8).map (0x0140 + ·) ++ (List.range 9).map (0x0200 + ·) ++ (List.range 10).map (0x0300 + ·)
    ++ (List.range 9).map (0x0400 + ·) ++ (List.range 4).map (0x0500 + ·) ++ (List.range 8).map (0x0600 + ·) ++ (List.range 5).map (0x0700 + ·)
    ++ [0x0710, 0x0711, 0x0712, 0x0720] ++ (List.range 5).map (0x0800 + ·) ++ [0x0810, 0x0811, 0x0812] ++ (List.range 6).map (0x0900 + ·)
    ++ (List.range 8).map (0x0A00 + ·) ++ (List.range 10).map (0x0B00 + ·) ++ (List.range 10).map (0x0C00 + ·) ++ [0x0D00, 0x0D01, 0x0D02, 0x0D03, 0x0D04, 0x0D06]
    ++ (List.range 7).map (0x0E00 + ·) ++ (List.range 11).map (0x0F00 + ·) ++ [0x1000, 0x1001, 0x1002, 0x1100, 0x1101, 0x7F80]

/-- True where step 6 passes for the opcode a packet is executed as. -/
def stepSix (ver op : Nat) : Bool := (decide (0 < ver ∧ ver < 0x20) && decide (0x7F00 ≤ op ∧ op < 0x7F80)) || definedOps.contains op

/-- Rejects the front packet of a slice at steps 2 to 6: completed, counted, and a length error halts the slice (R63 to R65, R81). -/
def State.rejectFront (s : State) (inst idx : Nat) (p : Packet) (r : Rsp) (advance : Bool) : State :=
  let off := (s.core.slice inst idx).elim 0 Slice.subHead
  s.mapCore (fun k =>
    let k1 := (k.take inst idx p advance).complete (sliceWho inst idx) p r true false 0
    let k2 : Core := { k1 with jrnReject := Tbl.inc k1.jrnReject (sliceKey inst idx) }
    if r.st = .rejectedLength then k2.halt inst idx off else k2)

/-- Disposes of a front packet that no opcode's row takes: stepped over, halted or rejected at steps 1 to 6. -/
def State.settleOne (s : State) (inst idx : Nat) : Option State :=
  match s.core.front inst idx, (s.core.slice inst idx).bind (fun sl => sl.visible.head?.map (fun p => (sl, p))) with
  | .drop, some (_, p) => some (s.mapCore (fun k =>
      ((k.updSlice inst idx (fun t => { t with visible := t.visible.drop 1, subHead := t.past p.length.toNat })).countOldGen (sliceUnit inst idx)).syncCb inst idx))
  | .halt, some (sl, _) => some (s.mapCore (fun k => k.halt inst idx sl.subHead))
  | .reject r advance, some (_, p) => some (s.rejectFront inst idx p r advance)
  | .go p op, some (sl, _) => if stepSix sl.ver op then none else some (s.rejectFront inst idx p (Rsp.plain .rejectedOpcode) true)
  | _, _ => none

/-- Disposes of front packets of a slice, at most n of them. -/
def State.settle : Nat → State → Nat → Nat → State
  | 0, s, _, _ => s
  | n + 1, s, inst, idx =>
    match s.settleOne inst idx with
    | some s1 => State.settle n s1 inst idx
    | none => s

/-! ## Host buffers of commands -/

/-- Reads n bytes at a command's IOVA through the issuer's context (R116); the secure firmware and forwarded packets read bus addresses of instance contexts' stage 2 (log entry 11). -/
def State.hostRead (s : State) (w : Who) (addr n : Nat) : State × Except (Nat × Nat) (List Byte) :=
  match s.core.slice w.inst w.slice with
  | some sl =>
    if w.secure || w.remote.isSome then (s, .ok (s.core.rd2 w.inst addr n))
    else
      let r := Core.dmaRead w.inst sl n s.core addr
      ({ s with core := r.1 }, r.2)
  | none => (s, .ok (s.core.rd2 w.inst addr n))

/-- Writes bytes at a command's IOVA. -/
def State.hostWrite (s : State) (w : Who) (addr : Nat) (bs : List Byte) : State × Option (Nat × Nat) :=
  match s.core.slice w.inst w.slice with
  | some sl =>
    if w.secure || w.remote.isSome then (s.mapCore (fun k => Core.wr2 w.inst bs k addr), none)
    else
      let r := Core.dmaWrite w.inst sl bs s.core addr
      ({ s with core := r.1 }, r.2)
  | none => (s.mapCore (fun k => Core.wr2 w.inst bs k addr), none)

/-- The failure of a command whose parameter or data access met a translation fault: recorded, FAILED with 0x0001_0000 plus the stage (R119). -/
def State.dataFault (s : State) (w : Who) (f : Nat × Nat) (write : Bool) : State × Rsp :=
  (s.mapCore (fun k => k.dtuFault w.inst w.slice f.1 f.2 write), Rsp.code .failed (0x10000 + f.2))

/-- Writes a command's result bytes to a buffer and answers with a completion, or the failure of R119. -/
def State.answer (s : State) (w : Who) (addr : Nat) (bs : List Byte) (r : Rsp) : State × Rsp :=
  match s.hostWrite w addr bs with
  | (s1, none) => (s1, r)
  | (s1, some f) => s1.dataFault w f true

/-- The query form of R640: the parameter words in force, up to the buffer's length. -/
def State.answerWords (s : State) (w : Who) (p : Packet) (ws : List Word64) : State × Rsp :=
  let bs := ws.flatMap (fun x => le 8 x.toNat)
  let n := min bs.length (pkW p 1)
  s.answer w (pkW p 0) (bs.take n) (Rsp.ok n bs.length 0)

/-- A query form that takes exactly the buffer's address and length (R640). -/
def bufForm (_ : State) (_ : Who) (p : Packet) : Bool := pkLen p 2

/-- No query form. -/
def noAsk (s : State) (_ : Who) (_ : Packet) : State × Rsp := (s, Rsp.plain .served)

/-- No effect of its own. -/
def noRun (s : State) (_ : Who) (_ : Packet) : Verdict := .done s (Rsp.plain .served)

/-- No check at step 12. -/
def noCheck (_ : State) (_ : Who) (_ : Packet) : Option Rsp := none

/-- Any issuer. -/
def anyone (_ : State) (_ : Who) (_ : Packet) : Bool := true

/-- The PF's slices only. -/
def pfOnly (_ : State) (w : Who) (_ : Packet) : Bool := !w.secure && w.inst == 0

/-- The secure firmware only. -/
def secOnly (_ : State) (w : Who) (_ : Packet) : Bool := w.secure

/-- The PF's slices and the secure firmware. -/
def pfOrSec (_ : State) (w : Who) (_ : Packet) : Bool := w.secure || w.inst == 0

/-- Step 11 on the packet's own unit. -/
def ownActive (s : State) (p : Packet) : Bool := s.isActive (pkUnit p)

/-- UNIT is the device (step 8). -/
def atDevice (_ : State) (_ : Who) (p : Packet) : Bool := pkDevice p

/-- True where an instance is the issuer. -/
def Who.is (w : Who) (inst : Nat) : Bool := !w.secure && w.inst == inst

/-- True where the issuer is an instance or the PF. -/
def Who.ownerOrPf (w : Who) (inst : Nat) : Bool := !w.secure && (w.inst == inst || w.inst == 0)

end Sys2Proof.Machine
end

