-- ==== Sys2Proof/Machine/SurfOps.lean ====
section
/-! DEFINITION. Operations over device memory and surfaces: groups, region controllers, the lock table, references, reading and writing pixels (R144, R174, R179 to R183, R190 to R210). -/

namespace Sys2Proof.Machine

/-! ## Memory groups -/

/-- A memory group. -/
def State.group (s : State) (g : Nat) : MemGroup := if g = 0 then s.mem.a else s.mem.b

/-- Changes a memory group. -/
def State.updGroup (s : State) (g : Nat) (f : MemGroup → MemGroup) : State :=
  if g = 0 then { s with mem := { s.mem with a := f s.mem.a } } else { s with mem := { s.mem with b := f s.mem.b } }

/-- Usable bytes of a group: 31/32 of its raw capacity (R144). -/
def State.usable (s : State) (g : Nat) : Nat := s.fix.memGiB.getD g 0 * 2 ^ 30 / 32 * 31

/-- Entry bandwidth numerator: 64 bytes times the slot clock over 1,024, in bytes per second (R229): 64 · rate · 10^6 / 8 / 1,024. -/
def State.entryRate (s : State) (g : Nat) : Nat := 64 * (s.fix.memRate.getD g 8533) * 10 ^ 6 / 8 / 1024

/-- Group, offset of a device address (R144). -/
def addrGroup (a : Nat) : Nat := a / 2 ^ 35 % 2

/-- Offset within the group. -/
def addrOff (a : Nat) : Nat := a % 2 ^ 35

/-- The device address of a group and offset. -/
def devAddr (g off : Nat) : Nat := g * 2 ^ 35 + off

/-- A state of a group that keeps content reachable: ACTIVE or a low state (R187). -/
def GroupSt.serves (st : GroupSt) : Bool :=
  match st with
  | .active => true
  | .pd => true
  | .sr => true
  | .srDeep => true
  | _ => false

/-- The code of Table 4.8. -/
def GroupSt.code : GroupSt → Nat
  | .offline => 0
  | .training => 1
  | .active => 2
  | .pd => 3
  | .sr => 4
  | .srDeep => 5
  | .frozen => 6
  | .recovering => 7

/-- The channel of an offset under the interleave grain (R145). -/
def chanOf (grain off : Nat) : Nat := off / 2 ^ grain % 8

/-- The channel address of an offset (R145). -/
def chanAddr (grain off : Nat) : Nat := off / 2 ^ (grain + 3) * 2 ^ grain + off % 2 ^ grain

/-- The port class of a port (Table 4.6, R180). -/
def portClass (port : Nat) : Nat :=
  if port ≤ 8 then 0 else if port ≤ 13 then 1 else if port = 14 then 2 else if port = 15 then 3 else if port = 16 then 4 else if port = 17 then 5 else if port ≤ 19 then 6 else 7

/-- A region that is enabled and contains a page. -/
def Region.covers (r : Region) (page : Nat) : Bool := bitOf r.attr 29 && decide (r.base ≤ page) && decide (page ≤ r.limit)

/-- True where a page is retired (R178). -/
def MemGroup.retired (m : MemGroup) (page : Nat) : Bool := m.badPages.any (fun e => bitOf e 30 && bitOf e 31 && fld e 23 0 == page)

/-- The region controller's decision on an access (R181). -/
def State.permits (s : State) (port : Nat) (write : Bool) (addr : Nat) : Bool :=
  let g := addrGroup addr
  let m := s.group g
  let page := addr / 4096 % 2 ^ 24
  if s.usable g ≤ addrOff addr ∨ m.retired page then false
  else if !m.enforce then true
  else
    let rs := (Tbl.vals m.rgn).filter (fun r => r.covers page)
    !rs.isEmpty && rs.all (fun r => bitOf r.attr (portClass port + (if write then 8 else 0)))

/-- A request as MEMx_FRZ_QUEUE and MEMx_RGN_VIOL_ADDR show it (Table 20.5). -/
def reqWord (addr port : Nat) (inst : Option Nat) (write : Bool) : Nat :=
  addr % 2 ^ 36 + port * 2 ^ 40 + (inst.getD 0) * 2 ^ 48 + b2n write * 2 ^ 56

/-- A denial: counted, the first latched, a record to the request's slice, a secure interrupt inside a SEC_OWNED region (R182). -/
def State.deny (s : State) (port : Nat) (inst : Option Nat) (slice : Nat) (write : Bool) (addr : Nat) : State :=
  let g := addrGroup addr
  let m := s.group g
  let page := addr / 4096 % 2 ^ 24
  let s1 := s.updGroup g (fun m => { m with rgnViol := satInc m.rgnViol, rgnViolAddr := m.rgnViolAddr.or (some (reqWord addr port inst write)) })
  let s2 := match inst with
    | some i => s1.mapCore (fun k => k.faultRec i slice 0x0004 addr 0 (port + b2n write * 32))
    | none => s1
  if (Tbl.vals m.rgn).any (fun r => r.covers page && bitOf r.attr 30) then s2.mapCore (fun k => k.irq .secRegion) else s2

/-! ## Surfaces and the lock table -/

/-- The key of a surface in the surface table: its 20-bit number. -/
def surfKey (u : Nat) : Nat := uNum u

/-- The unit of a surface. -/
def surfUnit (n : Nat) : Nat := uidN 0x11 n

/-- A surface by unit ID. -/
def State.surf (s : State) (u : Nat) : Option Surf := if uCls u = 0x11 then Tbl.find s.srf.surfs (uNum u) else none

/-- Changes a surface. -/
def State.updSurf (s : State) (n : Nat) (f : Surf → Surf) : State := { s with srf := { s.srf with surfs := Tbl.upd s.srf.surfs n f } }

/-- The shape of a surface. -/
def Surf.shape (sf : Surf) : Shape := { format := sf.format, width := sf.width, height := sf.height, layout := sf.layout, stride := sf.stride }

/-- The 64 KiB unit of an address within its group. -/
def addrUnit (a : Nat) : Nat := addrOff a / 65536

/-- The surface whose home or mirror copy holds an address, with the byte offset in its allocation. -/
def State.surfAt (s : State) (a : Nat) : Option (Nat × Surf × Nat) :=
  let inRun (first size : Nat) : Bool := decide (first ≤ addrUnit a) && decide (addrUnit a < first + size)
  s.srf.surfs.findSome? (fun e =>
    if addrGroup a = e.2.home ∧ inRun e.2.first e.2.size then some (e.1, e.2, addrOff a - e.2.first * 65536)
    else match e.2.mirror with
      | some m => if addrGroup a ≠ e.2.home ∧ inRun m e.2.size then some (e.1, e.2, addrOff a - m * 65536) else none
      | none => none)

/-- A surface that holds references is locked (R203). -/
def Surf.locked (sf : Surf) : Bool := !sf.refs.isEmpty

/-- Entries a surface takes in the lock table while it is locked. -/
def Surf.entries (sf : Surf) : Nat := if sf.refs.isEmpty then 0 else if sf.mirror.isSome then 2 else 1

/-- Lock table entries in use. -/
def Srf.inUse (r : Srf) : Nat := (r.surfs.map (fun e => e.2.entries)).foldl (· + ·) 0

/-- The home copy's base. -/
def Surf.homeBase (sf : Surf) : Nat := devAddr sf.home (sf.first * 65536)

/-- The mirror copy's base. -/
def Surf.mirrorBase (sf : Surf) (m : Nat) : Nat := devAddr (1 - sf.home) (m * 65536)

/-- The base of the copy that reads take: the home, or the mirror while the home group does not serve or its content is the stale one (R169, R170, R174). -/
def State.readBase (s : State) (sf : Surf) : Option Nat :=
  if (s.group sf.home).st.serves && !sf.homeStale then some sf.homeBase
  else
    match sf.mirror with
    | some m => if (s.group (1 - sf.home)).st.serves && !sf.mirrorStale then some (sf.mirrorBase m) else none
    | none => none

/-- Bytes of a surface's allocation. -/
def State.surfRead (s : State) (sf : Surf) (off n : Nat) : List Byte :=
  match s.readBase sf with
  | some b => Memory.rdN s.mem.dram (b + off) n
  | none => List.replicate n 0

/-- A full 64-byte write clears the poison of its block (R149). -/
def State.unpoison (s : State) (addr len : Nat) : State :=
  if (s.group (addrGroup addr)).poison.isEmpty then s
  else s.updGroup (addrGroup addr) (fun m => { m with poison := m.poison.filter (fun a => !(decide (addr ≤ a) && decide (a + 64 ≤ addr + len))) })

/-- Writes bytes of a surface to each copy whose group serves; a copy in a frozen group becomes stale (R174). -/
def State.surfWrite (s : State) (n off : Nat) (bs : List Byte) : State :=
  match Tbl.find s.srf.surfs n with
  | none => s
  | some sf =>
    let homeOk := (s.group sf.home).st.serves
    let d1 := if homeOk then Memory.wrN s.mem.dram (sf.homeBase + off) bs else s.mem.dram
    let s1 : State := { s with mem := { s.mem with dram := d1 } }
    let s2 := if homeOk then s1.unpoison (sf.homeBase + off) bs.length else s1
    match sf.mirror with
    | none => s2
    | some m =>
      let mirOk := (s.group (1 - sf.home)).st.serves
      let d2 := if mirOk then Memory.wrN d1 (sf.mirrorBase m + off) bs else d1
      let s3 : State := { s2 with mem := { s2.mem with dram := d2 } }
      (if mirOk then s3.unpoison (sf.mirrorBase m + off) bs.length else s3).updSurf n (fun x => { x with homeStale := x.homeStale || (!homeOk && mirOk), mirrorStale := x.mirrorStale || (!mirOk && homeOk) })

/-- Counts and reports a write dropped by the lock table (R205, R207); path is 0 aperture, 1 copy, 2 engine. -/
def State.lockDrop (s : State) (inst slice n off path : Nat) : State :=
  match Tbl.find s.srf.surfs n with
  | none => s
  | some sf =>
    let s1 := { s with srf := { s.srf with dropCount := Tbl.inc s.srf.dropCount inst } }
    let key := n * 2 ^ 14 + sliceKey inst slice
    match Tbl.find s.srf.lastLocked key with
    | some t => if s.core.now < t + 10 ^ 6 then s1 else
        { s1.mapCore (fun k => k.faultRec inst slice 0x0003 off (surfUnit n) (path + min sf.refs.length 0xFFFF * 0x10000)) with srf := { s1.srf with lastLocked := Tbl.put s1.srf.lastLocked key s.core.now } }
    | none =>
        { s1.mapCore (fun k => k.faultRec inst slice 0x0003 off (surfUnit n) (path + min sf.refs.length 0xFFFF * 0x10000)) with srf := { s1.srf with lastLocked := Tbl.put s1.srf.lastLocked key s.core.now } }

/-- True where a reference needs a lock table entry that is not free, or is one too many (R208). -/
def State.lockFull (s : State) (n : Nat) : Bool :=
  match Tbl.find s.srf.surfs n with
  | none => false
  | some sf => decide (65535 ≤ sf.refs.length) || (sf.refs.isEmpty && decide (16384 < s.srf.inUse + (if sf.mirror.isSome then 2 else 1)))

/-- Takes a reference (R203) and follows PEAK. -/
def State.takeRef (s : State) (n : Nat) (write : Bool) (h : Holder) : State :=
  let s1 := s.updSurf n (fun sf => { sf with refs := sf.refs ++ [{ write := write, holder := h }] })
  { s1 with srf := { s1.srf with peak := max s1.srf.peak s1.srf.inUse } }

/-- Counts a wait for a lock table entry (R208). -/
def State.countLockWait (s : State) : State := { s with srf := { s.srf with fullWait := satInc s.srf.fullWait } }

/-- True where a surface is under a job's write reference. -/
def Surf.written (sf : Surf) : Bool := sf.refs.any Ref.write

/-- A holder that is a layer of a frond. -/
def Holder.isLayer : Holder → Bool
  | .layer _ _ _ => true
  | _ => false

/-- Held by a committed frame. -/
def Surf.onScreen (sf : Surf) : Bool := sf.refs.any (fun r => r.holder.isLayer)

/-- R42 on a surface at the end of its release: the generation moves on and the allocation returns to the pool. -/
def State.dropSurf (s : State) (n : Nat) : State :=
  let s1 := { s with srf := { s.srf with surfs := Tbl.del s.srf.surfs n, maps := s.srf.maps.filter (fun m => m.surf != n) } }
  s1.mapCore (fun k => (k.unmap (surfUnit n)).bump (surfUnit n))

/-- Ends the deferred release of a surface whose last reference retires (R210): frame count and output, or a job. -/
def State.endRelease (s : State) (n frame out : Nat) (job : Bool) : State :=
  let s1 := s.dropSurf n
  s1.finishWhere (fun o => asOp o.op == 0x0201 && o.wait == .unit (surfUnit n)) (fun _ => Rsp.ok (frame % 2 ^ 32) (out % 8 + b2n job * 256) 0)

/-- Releases one reference of a holder (R203, R210). -/
def State.dropRef (s : State) (n : Nat) (h : Holder) (frame out : Nat) (job : Bool) : State :=
  match Tbl.find s.srf.surfs n with
  | none => s
  | some sf =>
    match sf.refs.find? (fun r => r.holder == h) with
    | none => s
    | some r =>
      let s1 := s.updSurf n (fun x => { x with refs := x.refs.erase r })
      if sf.releasing && (sf.refs.erase r).isEmpty then s1.endRelease n frame out job else s1

/-- Releases every reference that a piece of work holds. -/
def State.dropWork (s : State) (w : Nat) : State :=
  (Tbl.keys (Tbl.keep s.srf.surfs (fun _ sf => sf.refs.any (fun r => r.holder == .work w)))).foldl
    (fun t n => (List.range ((Tbl.find t.srf.surfs n).elim 0 (fun sf => sf.refs.length))).foldl (fun u _ => u.dropRef n (.work w) 0 0 true) t) s

/-- READ or WRITE use of a surface by an instance (R199). -/
def Surf.mayUse (sf : Surf) (w : Who) (write : Bool) : Bool :=
  w.secure || w.inst == 0 || w.inst == sf.owner || bitOf (Tbl.at sf.grants 0 w.inst) (if write then 1 else 0)

/-! ## Elements -/

/-- The block a TBC surface holds at a block number: none on a header error. -/
def State.tbcBlock (s : State) (sf : Surf) (p k : Nat) : Option (List Nat) :=
  let sh := sf.shape
  let b := sh.planeStart p
  let hdr := ofLe (s.surfRead sf (b + headerAt k) 4)
  tbcDecode (sh.plane p) hdr (s.surfRead sf (b + sh.payloadAt p k) (min (16 * fld hdr 29 24) (sh.blockB p)))

/-- An element of a surface in stored form; a block with a header error reads zero (R198). -/
def State.elem (s : State) (sf : Surf) (p x y : Nat) : Nat :=
  let sh := sf.shape
  if sh.layout = 2 then ((s.tbcBlock sf p (sh.blockOf p x y)).getD zeroBlock).getD (elemOf x y) 0
  else ofLe (s.surfRead sf (sh.planeStart p + sh.elemAt p x y) (sh.eb p))

/-- The header errors among the blocks of a rectangle of a plane: their header offsets. -/
def State.tbcErrors (s : State) (sf : Surf) (p x y w h : Nat) : List Nat :=
  if sf.layout ≠ 2 then []
  else
    let sh := sf.shape
    (List.range (ceilDiv (y % 8 + h) 8)).flatMap (fun j => (List.range (ceilDiv (x % 8 + w) 8)).filterMap (fun i =>
      let k := sh.blockOf p (x + 8 * i) (y + 8 * j)
      if (s.tbcBlock sf p k).isNone then some (headerAt k) else none))

/-- Records the TBC errors of a surface in its owner's fault ring (R198). -/
def State.tbcRecords (s : State) (n p : Nat) (offs : List Nat) : State :=
  match Tbl.find s.srf.surfs n with
  | none => s
  | some sf => offs.foldl (fun t o => t.mapCore (fun k => k.faultRec sf.owner 0 0x0005 o (surfUnit n) p)) s

/-- Pieces of bytes, with offsets in the allocation, that store a rectangle of a plane (R190 to R197). Padding of whole blocks is stored as zero. -/
def State.rectPieces (s : State) (sf : Surf) (p x y w h : Nat) (f : Nat → Nat → Nat) : List (Nat × List Byte) :=
  let sh := sf.shape
  let b := sh.planeStart p
  if sh.layout = 0 then
    (List.range h).map (fun j => (b + sh.elemAt p x (y + j), (List.range w).flatMap (fun i => le (sh.eb p) (f (x + i) (y + j)))))
  else
    (List.range (ceilDiv (y % 8 + h) 8)).flatMap (fun j => (List.range (ceilDiv (x % 8 + w) 8)).flatMap (fun i =>
      let bx := (x / 8 + i) * 8
      let by' := (y / 8 + j) * 8
      let k := sh.blockOf p bx by'
      let el (n : Nat) : Nat :=
        let ex := bx + n % 8
        let ey := by' + n / 8
        if sh.pw p ≤ ex ∨ sh.ph p ≤ ey then 0
        else if x ≤ ex ∧ ex < x + w ∧ y ≤ ey ∧ ey < y + h then f ex ey
        else s.elem sf p ex ey
      let es := (List.range 64).map el
      if sh.layout = 1 then [(b + k * sh.blockB p, es.flatMap (le (sh.eb p)))]
      else
        let t := tbcEncode (sh.plane p) es
        [(b + headerAt k, le 4 t.1), (b + sh.payloadAt p k, t.2)]))

/-- Writes pieces to a surface under its own write reference, checked by the region controller at the surface's pages (R205, R181). -/
def State.putPieces (s : State) (n port : Nat) (inst : Option Nat) (slice : Nat) (ps : List (Nat × List Byte)) : State :=
  ps.foldl (fun t e =>
    match Tbl.find t.srf.surfs n with
    | none => t
    | some sf => if t.permits port true (sf.homeBase + e.1) then t.surfWrite n e.1 e.2 else t.deny port inst slice true (sf.homeBase + e.1)) s

/-- Writes a rectangle of a plane of a surface. -/
def State.putRect (s : State) (n port : Nat) (inst : Option Nat) (slice p x y w h : Nat) (f : Nat → Nat → Nat) : State :=
  match Tbl.find s.srf.surfs n with
  | none => s
  | some sf => s.putPieces n port inst slice (s.rectPieces sf p x y w h f)

/-- Fills a surface's allocation with zero bytes (CLEAR of Table 5.1): with TBC every header reads 0x0000_0000. -/
def State.clearSurf (s : State) (n : Nat) : State :=
  match Tbl.find s.srf.surfs n with
  | none => s
  | some sf =>
    let wipe (d : Memory) (base : Nat) : Memory := d.filter (fun e => !(decide (base ≤ e.1) && decide (e.1 < base + sf.size * 65536)))
    let d1 := wipe s.mem.dram sf.homeBase
    { s with mem := { s.mem with dram := (match sf.mirror with | some m => wipe d1 (sf.mirrorBase m) | none => d1) } }

/-- Copies the bytes of one copy of a surface over the other (R174, R200). -/
def State.copyAcross (s : State) (sf : Surf) (toMirror : Bool) : State :=
  match sf.mirror with
  | none => s
  | some m =>
    let a := if toMirror then sf.homeBase else sf.mirrorBase m
    let b := if toMirror then sf.mirrorBase m else sf.homeBase
    let len := sf.size * 65536
    let keep := s.mem.dram.filter (fun e => !(decide (b ≤ e.1) && decide (e.1 < b + len)))
    let moved := (s.mem.dram.filter (fun e => decide (a ≤ e.1) && decide (e.1 < a + len))).map (fun e => (e.1 - a + b, e.2))
    { s with mem := { s.mem with dram := moved.foldl (fun d e => Tbl.put d e.1 e.2) keep } }

end Sys2Proof.Machine
end

