-- ==== Sys2Proof/Machine/Compose.lean ====
section
/-! DEFINITION. What a frond composes: layers of a scene, the picture at the tap, the veil, the output line (R219, R231 to R241, R259, R276, R323, R335 to R338, R345). -/

namespace Sys2Proof.Machine

/-! ## Descriptor fields (Table 6.2) -/

/-- Z. -/
def Desc.z (d : Desc) : Nat := fld d.w0 63 48
/-- BAND. -/
def Desc.band (d : Desc) : Nat := fld d.w0 41 40
/-- SCALABLE. -/
def Desc.scalable (d : Desc) : Bool := bitOf d.w0 39
/-- STRIPE. -/
def Desc.stripe (d : Desc) : Bool := bitOf d.w0 38
/-- ARM. -/
def Desc.arm (d : Desc) : Bool := bitOf d.w0 37
/-- MUST_UPDATE. -/
def Desc.mustUpdate (d : Desc) : Bool := bitOf d.w0 36
/-- PREMULT. -/
def Desc.premult (d : Desc) : Bool := bitOf d.w0 35
/-- SOURCE. -/
def Desc.source (d : Desc) : Nat := fld d.w0 31 0
/-- SRC_X. -/
def Desc.srcX (d : Desc) : Nat := fld d.w1 15 0
/-- SRC_Y. -/
def Desc.srcY (d : Desc) : Nat := fld d.w1 31 16
/-- SRC_W. -/
def Desc.srcW (d : Desc) : Nat := fld d.w1 47 32
/-- SRC_H. -/
def Desc.srcH (d : Desc) : Nat := fld d.w1 63 48
/-- DST_X, signed. -/
def Desc.dstX (d : Desc) : Int := sxt 16 d.w2
/-- DST_Y, signed. -/
def Desc.dstY (d : Desc) : Int := sxt 16 (d.w2 >>> 16)
/-- DST_W. -/
def Desc.dstW (d : Desc) : Nat := fld d.w2 47 32
/-- DST_H. -/
def Desc.dstH (d : Desc) : Nat := fld d.w2 63 48
/-- SCALE. -/
def Desc.scaleBit (d : Desc) : Bool := bitOf d.w3 15
/-- The run length of HDECIM: 1, 2 or 4. -/
def Desc.decimN (d : Desc) : Nat := 2 ^ fld d.w3 11 10
/-- LAYER_ALPHA. -/
def Desc.alpha (d : Desc) : Nat := fld d.w3 9 0
/-- CONST. -/
def Desc.const (d : Desc) : Nat := fld d.w4 35 0
/-- Ws of R238. -/
def Desc.ws (d : Desc) : Nat := ceilDiv d.srcW d.decimN
/-- True where the layer uses a scaler. -/
def Desc.scales (d : Desc) : Bool := d.scaleBit || d.dstW != d.srcW || d.dstH != d.srcH || d.decimN != 1

/-- The order key of R219: band rank, Z, slot. -/
def Desc.key (d : Desc) (slot : Nat) : Nat := ((3 - d.band) * 65536 + d.z) * 16 + slot

/-- A surface as the source of a descriptor. -/
def Desc.src (d : Desc) (sf : Surf) (palette : List Nat) : Src :=
  { shape := sf.shape, palette := palette, const := d.const, x := d.srcX, y := d.srcY, w := d.srcW, h := d.srcH }

/-! ## Composition -/

/-- Stages 1 to 5 of R231 at a column and row of the source rectangle. -/
def State.layerBase (s : State) (l : SceneLayer) (sf : Surf) (x y : Nat) : Px :=
  let p := tonePx l.tone (srcPx (l.desc.src sf l.palette) (s.elem sf) (l.desc.srcX + x) (l.desc.srcY + y))
  if l.desc.premult && sf.format != 0x08 then p else premul p

/-- A layer's pixel at a column and row of its destination rectangle (stage 6). -/
def State.layerPx (s : State) (l : SceneLayer) (sf : Surf) (x y : Nat) : Px :=
  let d := l.desc
  if l.slot < 4 ∧ d.scales then
    scalePx l.coef d.ws d.srcH d.dstW d.dstH (fun c r => decim d.decimN d.srcW (fun i => s.layerBase l sf i r) c) x y
  else s.layerBase l sf x y

/-- A layer that takes part in composition. -/
def SceneLayer.shown (l : SceneLayer) : Bool := decide (l.status ≤ 1) && l.buffer != 0 && !l.safety

/-- A layer covers a pixel (R236). -/
def SceneLayer.covers (l : SceneLayer) (x y : Nat) : Bool :=
  decide (l.desc.dstX ≤ x) && decide ((x : Int) < l.desc.dstX + l.desc.dstW) && decide (l.desc.dstY ≤ y) && decide ((y : Int) < l.desc.dstY + l.desc.dstH)

/-- One layer blended over a pixel. -/
def State.blendLayer (s : State) (x y : Nat) (dst : Px) (l : SceneLayer) : Px :=
  if l.shown && l.covers x y then
    match s.surf l.buffer with
    | some sf => blend dst (s.layerPx l sf ((x : Int) - l.desc.dstX).toNat ((y : Int) - l.desc.dstY).toNat) l.desc.alpha
    | none => dst
  else dst

/-- A scene's layers from the bottom up (R219), of band A or of the others. -/
def Scene.stack (sc : Scene) (bandA : Bool) : List SceneLayer :=
  (sc.layers.filter (fun l => (l.desc.band == 0) == bandA)).mergeSort (fun a b => decide (a.desc.key a.slot ≤ b.desc.key b.slot))

/-- The composition of bands B to D, with the safety copy over it where one is shown (R170, R288). -/
def State.composeLow (s : State) (sc : Scene) (x y : Nat) : Px :=
  let base := (sc.stack false).foldl (s.blendLayer x y) (bgPx sc.bg)
  match sc.safetySurf.bind s.surf with
  | some sf =>
    let p := expandRgb 0x02 0 (s.elem sf 0 x y) []
    if sc.layers.any (fun l => l.safety && l.covers x y) then { p with a := 1023 } else base
  | none => base

/-- The composed picture (R236). -/
def State.composeAt (s : State) (sc : Scene) (x y : Nat) : Px := (sc.stack true).foldl (s.blendLayer x y) (s.composeLow sc x y)

/-- The picture at the taps: after the output tone set (R259 steps 2 and 3). -/
def State.tapPx (s : State) (sc : Scene) (x y : Nat) : Px := tonePx sc.tone (s.composeAt sc x y)

/-! ## Outputs and regions -/

/-- The output that a frond's committed mode drives. -/
def State.outOf (s : State) (f : Nat) : Option (Nat × Outp) := s.frd.outs.find? (fun e => e.2.frond == f && !e.2.mode.isEmpty)

/-- An output. -/
def State.out (s : State) (o : Nat) : Option Outp := Tbl.find s.frd.outs o

/-- A frond. -/
def State.frond (s : State) (f : Nat) : Option Frond := Tbl.find s.frd.fronds f

/-- Changes a frond. -/
def State.updFrond (s : State) (f : Nat) (g : Frond → Frond) : State := { s with frd := { s.frd with fronds := Tbl.upd s.frd.fronds f g } }

/-- Changes an output. -/
def State.updOut (s : State) (o : Nat) (g : Outp → Outp) : State := { s with frd := { s.frd with outs := Tbl.upd s.frd.outs o g } }

/-- The key of a layer or signed region: INDEX times 256 plus SUB. -/
def subKey (u : Nat) : Nat := uIdx u * 256 + uSub u

/-- A layer by unit ID. -/
def State.layer (s : State) (u : Nat) : Option Layer := if uCls u = 0x21 then Tbl.find s.frd.layers (subKey u) else none

/-- Changes a layer. -/
def State.updLayer (s : State) (k : Nat) (g : Layer → Layer) : State := { s with frd := { s.frd with layers := Tbl.upd s.frd.layers k g } }

/-- A mode word of an output (Table 7.3). -/
def Outp.w (o : Outp) (n : Nat) : Nat := o.mode.getD n 0
/-- H_ACTIVE. -/
def Outp.hActive (o : Outp) : Nat := fld (o.w 0) 15 0
/-- V_ACTIVE. -/
def Outp.vActive (o : Outp) : Nat := fld (o.w 0) 31 16
/-- H_TOTAL. -/
def Outp.hTotal (o : Outp) : Nat := fld (o.w 0) 47 32
/-- V_TOTAL. -/
def Outp.vTotal (o : Outp) : Nat := fld (o.w 0) 63 48
/-- PIXEL_HZ. -/
def Outp.pixelHz (o : Outp) : Nat := fld (o.w 2) 31 0
/-- FORMAT. -/
def Outp.format (o : Outp) : Nat := fld (o.w 2) 39 38
/-- BPC. -/
def Outp.bpc (o : Outp) : Nat := fld (o.w 2) 43 40
/-- ADAPTIVE. -/
def Outp.adaptive (o : Outp) : Bool := bitOf (o.w 2) 44
/-- DSC. -/
def Outp.dsc (o : Outp) : Bool := bitOf (o.w 2) 45
/-- VT_MAX. -/
def Outp.vtMax (o : Outp) : Nat := fld (o.w 3) 15 0
/-- SLICE_H. -/
def Outp.sliceH (o : Outp) : Nat := fld (o.w 3) 36 32

/-- ns of n line periods. -/
def Outp.linesNs (o : Outp) (n : Nat) : Nat := if o.pixelHz = 0 then 0 else n * o.hTotal * 10 ^ 9 / o.pixelHz

/-- ns of a frame at the vertical total in force. -/
def Outp.frameNs (o : Outp) : Nat := o.linesNs o.vt

/-- The hold of R260 in ns. -/
def Outp.holdNs (o : Outp) : Nat := o.linesNs (if o.dsc then o.sliceH + 2 else 4)

/-- A rectangle: left, top, right, bottom; right and bottom are past the end. -/
abbrev Rect := Int × Int × Int × Int

/-- The common part of two rectangles. -/
def clip (a b : Rect) : Rect := (max a.1 b.1, max a.2.1 b.2.1, min a.2.2.1 b.2.2.1, min a.2.2.2 b.2.2.2)

/-- A rectangle without pixels. -/
def rectEmpty (r : Rect) : Bool := decide (r.2.2.1 ≤ r.1) || decide (r.2.2.2 ≤ r.2.1)

/-- A pixel within a rectangle. -/
def inRect (r : Rect) (x y : Nat) : Bool := decide (r.1 ≤ x) && decide ((x : Int) < r.2.2.1) && decide (r.2.1 ≤ y) && decide ((y : Int) < r.2.2.2)

/-- The active area. -/
def Outp.area (o : Outp) : Rect := (0, 0, o.hActive, o.vActive)

/-- The destination rectangle of a layer. -/
def Desc.dest (d : Desc) : Rect := (d.dstX, d.dstY, d.dstX + d.dstW, d.dstY + d.dstH)

/-- A rectangle word (R320). -/
def wordRect (w : Nat) : Rect := ((fld w 15 0 : Nat), (fld w 31 16 : Nat), (fld w 15 0 + fld w 47 32 : Nat), (fld w 31 16 + fld w 63 48 : Nat))

/-- A layer region's rectangle on the output (R323). -/
def Desc.mapRect (d : Desc) (r : Rect) : Rect :=
  let lo (p o : Int) (a n m : Nat) : Int := o + (p - a) * n / m
  let hi (p o : Int) (a n m : Nat) : Int := o + -(-((p - a) * n) / m)
  (lo r.1 d.dstX d.srcX d.dstW d.srcW, lo r.2.1 d.dstY d.srcY d.dstH d.srcH, hi r.2.2.1 d.dstX d.srcX d.dstW d.srcW, hi r.2.2.2 d.dstY d.srcY d.dstH d.srcH)

/-- A drawn rectangle of a region in a scene. -/
def Scene.rectOf (sc : Scene) (u : Nat) : Option Rect := (sc.drawn.find? (fun e => e.1 == u)).map Prod.snd

/-! ## The veil and the output line -/

/-- A veiled region as the inserter draws it: rectangle, badge, asked size, and whether band A layers cut it. -/
structure Veiled where
  rect : Rect
  badge : Nat
  size : Nat
  cut : Bool
  deriving DecidableEq, Repr

/-- The palette entry of a badge, foreground or background (Table 8.8). -/
def badgePal (style : Nat) (badge : Nat) (fg : Bool) : Nat := fld style (8 * (badge - 1) + (if fg then 3 else 7)) (8 * (badge - 1) + (if fg then 0 else 4))

/-- The veiled regions of a frond's scene, in index order (R338). -/
def State.veiledOf (s : State) (sc : Scene) : List Veiled :=
  sc.drawn.filterMap (fun e =>
    if uCls e.1 = 0x51 then
      (Tbl.find s.led.regions (uNum e.1)).bind (fun r =>
        if r.veil.veiled then some { rect := e.2, badge := r.veil.badge, size := r.size, cut := uCls r.place == 0x21 && !r.bandA && !sc.layers.any (fun l => uid 0x21 (uIdx r.place) l.slot == r.place && l.desc.band == 0) } else none)
    else
      (Tbl.find s.led.sregs (subKey e.1)).bind (fun r => if r.veil.veiled then some { rect := e.2, badge := r.veil.badge, size := 0, cut := false } else none))

/-- True where a veiled region covers a pixel: a non-A layer's region gives way to band A layers (R323). -/
def Veiled.covers (v : Veiled) (sc : Scene) (x y : Nat) : Bool :=
  inRect v.rect x y && !(v.cut && sc.layers.any (fun l => l.desc.band == 0 && l.shown && l.covers x y))

/-- The badge part of R337 at a pixel: none outside the badge. -/
def Veiled.badgePx (v : Veiled) (pal : Nat → Px) (style x y : Nat) : Option Px :=
  let w := (v.rect.2.2.1 - v.rect.1).toNat
  let h := (v.rect.2.2.2 - v.rect.2.1).toNat
  let lx := ((x : Int) - v.rect.1).toNat
  let ly := ((y : Int) - v.rect.2.1).toNat
  let sz := badgeSize v.size w h
  if sz = 0 then (if lx < 2 ∨ ly < 2 ∨ w ≤ lx + 2 ∨ h ≤ ly + 2 then some (pal (badgePal style v.badge false)) else none)
  else
    let bx := w - 4 - badgeW sz
    if bx ≤ lx ∧ lx < bx + badgeW sz ∧ 4 ≤ ly ∧ ly < 4 + badgeH sz then some (pal (badgePal style v.badge (Config.glyphRom v.badge sz (lx - bx) (ly - 4)))) else none

/-- The veil stage at a pixel (R335 to R338). -/
def State.veilPx (s : State) (o : Nat) (rgb : Bool) (sc : Scene) (vs : List Veiled) (x y : Nat) (p : Px) : Px :=
  let mine := vs.filter (fun v => v.covers sc x y)
  if mine.isEmpty then p
  else
    let st := Tbl.at s.led.style 0x00080005 o
    let pal (i : Nat) : Px := palPx (if rgb then Tbl.at s.led.palRgb 0 i else Tbl.at s.led.palYcc 0x04080200 i)
    let base := if isHatch x y then pal (fld st 3 0) else dimPx rgb (fld st 31 20) (fld st 19 8) p
    mine.foldl (fun q v => (v.badgePx pal (Tbl.at s.led.badge 0x10314120 o) x y).getD q) base

/-- The picture after the veil stage. -/
def State.postPx (s : State) (o : Nat) (out : Outp) (sc : Scene) (x y : Nat) : Px :=
  s.veilPx o (out.format == 0) sc (s.veiledOf sc) x y (s.tapPx sc x y)

/-- The format stage at a column and row: the samples sent there (R276, R277). -/
def Outp.formatAt (out : Outp) (pic : Nat → Nat → Px) (x y : Nat) : List Nat :=
  let q (v : Nat) : Nat := toBpc out.bpc (bitOf (out.w 2) 37) x y v
  let cl (c : Int) : Nat := (clampI 0 (out.hActive - 1 : Nat) c).toNat
  let hs (ch r : Nat) : Nat := ((pic (cl ((x : Int) - 1)) r).ch ch + 2 * (pic x r).ch ch + (pic (cl ((x : Int) + 1)) r).ch ch + 2) / 4
  let p := pic x y
  if out.format ≤ 1 then [q p.c0, q p.c1, q p.c2]
  else if x % 2 = 1 then [q p.c0]
  else if out.format = 2 then [q p.c0, q (hs 1 y), q (hs 2 y)]
  else if y % 2 = 1 then [q p.c0]
  else [q p.c0, q ((hs 1 y + hs 1 (min (y + 1) (out.vActive - 1)) + 1) / 2), q ((hs 2 y + hs 2 (min (y + 1) (out.vActive - 1)) + 1) / 2)]

/-- Repeats the last sent sample group at missing columns (R286). -/
def repeatMissing (missing : List Nat) : List (List Nat) → Nat → List Nat → List (List Nat)
  | [], _, _ => []
  | p :: ps, x, last => let q := if missing.contains x then last else p; q :: repeatMissing missing ps (x + 1) q

/-- The samples that the transmitter sends for a line, in column order. -/
def State.lineSamples (s : State) (o : Nat) (out : Outp) (sc : Scene) (y : Nat) (missing : List Nat) : List Nat :=
  (repeatMissing missing ((List.range out.hActive).map (fun x => out.formatAt (s.postPx o out sc) x y)) 0 ([0, 1, 2].map (fun c => (Config.firstRepeat o sc.frame y c).toNat % 2 ^ out.bpc))).flatten

/-- The canonical bytes of one row of a rectangle at the tap (R345, R346). -/
def State.tapRow (s : State) (sc : Scene) (r : Rect) (y : Nat) : List Byte :=
  (List.range (r.2.2.1 - r.1).toNat).flatMap (fun i => le 4 (canonical (s.tapPx sc (r.1.toNat + i) y)))

end Sys2Proof.Machine
end

