-- ==== Sys2Proof/Machine/Slots.lean ====
section
/-! DEFINITION. The slot table's construction (R152, R153), fetch demands (R229, R290) and the shared engines' budgets of a frame (R126 to R129, R258). -/

namespace Sys2Proof.Machine

/-! ## Slot table -/

/-- The share record in force of an instance. -/
def Core.share (c : Core) (inst : Nat) : Option Share := Tbl.find c.shares inst

/-- The owners of a group with their entries, in the order they are placed (R153): fronds, band A, band B. -/
def State.slotOwners (s : State) (g : Nat) : List (Nat × Nat) :=
  s.frd.fronds.map (fun e => (0x4000 + e.1, if g = 0 then e.2.entA else e.2.entB))
    ++ s.core.shares.map (fun e => (0x8000 + e.1, if g = 0 then e.2.resAMemA else e.2.resAMemB))
    ++ s.core.shares.map (fun e => (0xC000 + e.1, if g = 0 then e.2.resBMemA else e.2.resBMemB))

/-- Spreads k entries over the channels one by one: the channel with the fewest, the lowest on a tie. So channel c gets k / 8, and one more where c is below k mod 8. -/
def chanShare (k c : Nat) : Nat := k / 8 + (if c < k % 8 then 1 else 0)

/-- The first free row of a channel from a row on. -/
def freeRow (t : Tbl Nat) (c : Nat) : Nat → Nat → Option Nat
  | 0, _ => none
  | f + 1, row => if Tbl.has t (8 * row + c) then freeRow t c f ((row + 1) % 128) else some row

/-- Places an owner's q entries on one channel. -/
def placeChan (owner c q : Nat) (t : Tbl Nat) : Tbl Nat :=
  (List.range q).foldl (fun t i =>
    match freeRow t c 128 ((2 * i + 1) * 128 / (2 * q) % 128) with
    | some row => Tbl.put t (8 * row + c) owner
    | none => t) t

/-- The pending bank of a group (R153); an unlisted entry is background. -/
def State.buildSlots (s : State) (g : Nat) : Tbl Nat :=
  (s.slotOwners g).foldl (fun t o => (List.range 8).foldl (fun t c => placeChan o.1 c (chanShare o.2 c) t) t) []

/-- Writes both groups' pending banks (R152). -/
def State.rebuildSlots (s : State) : State :=
  { s with mem := { s.mem with a := { s.mem.a with pendingSlots := some (s.buildSlots 0) }, b := { s.mem.b with pendingSlots := some (s.buildSlots 1) } } }

/-- The largest gap, in slots, between consecutive entries of an owner on one channel, round the wrap. -/
def chanGap (slots : Tbl Nat) (owner c : Nat) : Nat :=
  let ks := Tbl.keys (Tbl.keep slots (fun k o => o == owner && k % 8 == c))
  match ks.head?, ks.getLast? with
  | some a, some z => (ks.zip (ks.drop 1)).foldl (fun m p => max m (p.2 - p.1)) (a + 1024 - z)
  | _, _ => 0

/-- SLOT_OWNER_INFO (R153). -/
def MemGroup.ownerInfo (m : MemGroup) (k : Nat) : Nat :=
  let owner := if k < 9 then 0x4000 + k else if k < 64 then 0 else if k < 128 then 0x8000 + (k - 64) else 0xC000 + (k - 128)
  if owner = 0 then 0
  else (Tbl.keep m.slots (fun _ o => o == owner)).length * 0x10000 + (List.range 8).foldl (fun a c => max a (chanGap m.slots owner c)) 0

/-- Entries of group g that fronds hold. -/
def State.frondEntries (s : State) (g : Nat) : Nat := (s.frd.fronds.map (fun e => if g = 0 then e.2.entA else e.2.entB)).foldl (· + ·) 0

/-- Rows 1 and 2 of Table 3.9 for given frond entries and records: the first row that breaks. -/
def slotRows (frA frB : Nat) (shares : Tbl Share) : Option Nat :=
  let sum (f : Share → Nat) : Nat := (shares.map (fun e => f e.2)).foldl (· + ·) 0
  let bad (fr a b : Nat) : Bool := decide (1024 < fr) || decide ((1024 - fr) * 7 / 10 < a) || decide (1024 - fr < a + b)
  if bad frA (sum Share.resAMemA) (sum Share.resBMemA) then some 1
  else if bad frB (sum Share.resAMemB) (sum Share.resBMemB) then some 2
  else none

/-! ## Demands -/

/-- Bytes fetched per frame for a source rectangle (R229). -/
def fetchBytes (sh : Shape) (x y w h : Nat) : Nat :=
  ((List.range (planesOf sh.format).length).map (fun p =>
    let pf := sh.plane p
    let px := x / pf.hdiv
    let py := y / pf.vdiv
    let pw := w / pf.hdiv
    let ph := h / pf.vdiv
    let eb := pf.bits / 8
    if sh.layout = 0 then ph * (roundUp 64 ((px + pw) * eb) - px * eb / 64 * 64)
    else (roundUp 8 (px + pw) - px / 8 * 8) * (roundUp 8 (py + ph) - py / 8 * 8) * eb)).foldl (· + ·) 0

/-- Entries for bytes per frame at an output's highest refresh rate (R229): the refresh rate is PIXEL_HZ over the shortest totals. -/
def State.entriesFor (s : State) (out : Outp) (g bytes : Nat) : Nat :=
  if bytes = 0 ∨ out.hTotal * out.vTotal * s.entryRate g = 0 then 0
  else ceilDiv (bytes * out.pixelHz) (out.hTotal * out.vTotal * s.entryRate g)

/-- A group layer (class 0xF2). -/
def State.glayer (s : State) (u : Nat) : Option GLayer := if uCls u = 0xF2 then Tbl.find s.frd.glayers (uIdx u) else none

/-- The surface that stands for a SOURCE: the surface, or a group layer's first intermediate. -/
def State.sourceSurf (s : State) (src : Nat) : Option Surf :=
  if uCls src = 0xF2 then (s.glayer src).bind (fun g => g.inter.head?.bind s.surf) else s.surf src

/-- The group a surface is fetched from. -/
def State.fetchGroup (s : State) (sf : Surf) : Nat := if (s.group sf.home).st.serves || sf.mirror.isNone then sf.home else 1 - sf.home

/-- A descriptor's demand: group and entries (R229). -/
def State.descDemand (s : State) (out : Outp) (d : Desc) : Nat × Nat :=
  match s.sourceSurf d.source with
  | none => (0, 0)
  | some sf => let g := s.fetchGroup sf; (g, s.entriesFor out g (fetchBytes sf.shape d.srcX d.srcY d.srcW d.srcH))

/-- Layers of a frond: slot and layer. -/
def State.layersOf (s : State) (f : Nat) : List (Nat × Layer) := (Tbl.keep s.frd.layers (fun k _ => k / 256 == f)).map (fun e => (e.1 % 256, e.2))

/-- Non-A layers of a frond without a mirror, homed in a group (R171). -/
def State.unmirrored (s : State) (f home : Nat) : Bool :=
  (s.layersOf f).any (fun e => e.2.desc.band != 0 && (s.sourceSurf e.2.desc.source).elim false (fun sf => sf.mirror.isNone && sf.home == home))

/-- Bytes a writeback slot writes per frame (R290): a linear surface's pixels, or raw size and 4 bytes a block in TBC. -/
def wbBytes (tbc : Bool) (w h : Nat) : Nat := if tbc then ceilDiv w 8 * ceilDiv h 8 * 260 else w * h * 4

/-- Writeback slot 0 or 1 runs, and in which groups (R289, R291). -/
def State.safetyGroups (s : State) (f : Nat) (fr : Frond) (slot : Nat) : List Nat :=
  if slot = 0 then
    (if fr.fullMirror then [] else (if s.unmirrored f 0 then [1] else []) ++ (if s.unmirrored f 1 then [0] else []))
  else
    let set := (Tbl.find fr.wb 1).elim 0 WbSlot.w0
    if fr.fullMirror && !bitOf set 10 then [] else [if bitOf set 9 then 0 else 1]

/-- Writeback demand of a frond in a group (R227, R229). -/
def State.wbDemand (s : State) (f g : Nat) : Nat :=
  match s.frond f, s.outOf f with
  | some fr, some (_, out) =>
    let safety := ([0, 1].map (fun n => if (s.safetyGroups f fr n).contains g then s.entriesFor out g (wbBytes true out.hActive out.vActive) else 0)).foldl (· + ·) 0
    let general := ([2, 3].map (fun n =>
      match Tbl.find fr.wb n with
      | none => 0
      | some w =>
        if fld w.w0 39 32 = 0 then 0
        else match w.targets.head?.bind s.surf with
          | some sf => if sf.home = g ∨ sf.mirror.isSome then s.entriesFor out g (wbBytes (fld w.w0 25 24 == 2) (fld w.crop 47 32) (fld w.crop 63 48)) else 0
          | none => 0)).foldl (· + ·) 0
    safety + general
  | _, _ => 0

/-- Band A and band B demand of a frond in a group, counting a replacement of one slot's descriptor. -/
def State.abDemand (s : State) (f g : Nat) (out : Outp) (slot : Nat) (d : Option Desc) : Nat :=
  let descs := ((s.layersOf f).filter (fun e => e.1 != slot)).map (fun e => e.2.desc)
  let all := descs ++ d.toList
  ((all.filter (fun x => decide (x.band ≤ 1))).map (fun x => let e := s.descDemand out x; if e.1 = g then e.2 else 0)).foldl (· + ·) 0

/-- Demand with the writebacks (FRD_DEMAND). -/
def State.demand (s : State) (f g : Nat) : Nat :=
  match s.outOf f with
  | some (_, out) => s.abDemand f g out 255 none + s.wbDemand f g
  | none => 0

/-- True where band A and band B demand fits the entries, for a mode and a new descriptor. -/
def State.fitsBudget (s : State) (f : Nat) (out : Outp) (entA entB slot : Nat) (d : Option Desc) : Bool :=
  decide (s.abDemand f 0 out slot d + s.wbDemand f 0 ≤ entA) && decide (s.abDemand f 1 out slot d + s.wbDemand f 1 ≤ entB)

/-! ## Engines shared by the frame: 0 raster, 1 pre-compose -/

/-- What an instance reserves of an engine for band A, and in all, in floor-µs a frame. -/
def Share.engine (sh : Share) (res : Nat) (bandA : Bool) : Nat :=
  if res = 0 then (if bandA then sh.rasterAUs else sh.rasterUs) else (if bandA then sh.pcmAUs else sh.pcmUs)

/-- Floor-µs charged in the current frame. -/
def State.usedBy (s : State) (res inst band : Nat) : Nat := Tbl.at s.frd.used 0 (res * 0x10000 + inst * 4 + band)

/-- Charges an engine. -/
def State.charge (s : State) (res inst band cost : Nat) : State :=
  { s with frd := { s.frd with used := Tbl.put s.frd.used (res * 0x10000 + inst * 4 + band) (s.usedBy res inst band + cost) } }

/-- The frame period of an instance's REF_OUTPUT in µs; 0 without a committed mode. -/
def State.refPeriod (s : State) (inst : Nat) : Nat := ((s.core.share inst).bind (fun sh => s.out sh.refOutput)).elim 0 (fun o => o.frameNs / 1000)

/-- Everything charged to an engine in the current frame. -/
def State.usedAll (s : State) (res : Nat) : Nat := ((Tbl.keep s.frd.used (fun k _ => k / 0x10000 == res)).map Prod.snd).foldl (· + ·) 0

/-- Reserved capacity of other instances that they have not used and have band A work queued for (R127). -/
def State.heldBack (s : State) (res inst : Nat) : Nat :=
  (s.core.shares.map (fun e =>
    if e.1 ≠ inst ∧ (s.core.owed.any (fun o => o.who.inst == e.1 && o.wait == .share res 0) ∨ (res = 0 ∧ s.ras.jobs.any (fun j => j.who.inst == e.1 && j.holds && !j.admitted && fld (j.words.getD 0 0) 5 4 == 0))) then
      e.2.engine res true - s.usedBy res e.1 0
    else 0)).foldl (· + ·) 0

/-- Device pace in ps; the pace floor until it is measured (R30). -/
def State.pace (s : State) : Nat := if s.lnk.pacePs = 0 then 1400 else s.lnk.pacePs

/-- The µs that floor-µs take at the device pace (R123). -/
def State.paceTime (s : State) (w : Nat) : Nat := ceilDiv (w * s.pace) 1400

/-- What an instance has used of an engine in the current frame, all bands. -/
def State.usedOf (s : State) (res inst : Nat) : Nat := (List.range 4).foldl (fun a b => a + s.usedBy res inst b) 0

/-- True where a piece of work is admitted now (R126 to R128, R374): within the instance's time for the frame, and either band A work within its reservation, at a pace up to 2.00 ns, or within what is left of the frame. -/
def State.engineFits (s : State) (res inst band cost : Nat) : Bool :=
  match s.core.share inst with
  | none => false
  | some sh =>
    decide (s.usedOf res inst + cost ≤ sh.engine res false) &&
    ((band == 0 && decide (s.usedBy res inst 0 + cost ≤ sh.engine res true) && decide (s.pace ≤ 2000)) ||
     decide (s.paceTime (s.usedAll res + cost + s.heldBack res inst) ≤ s.refPeriod inst))

/-- The first verdict on work that does not fit (R129). -/
def State.shareWait (s : State) (res band : Nat) : Verdict :=
  if band ≤ 1 then .delayed s (Rsp.plain .delayedShare) (.share res band) false else .silent s (.share res band)

/-- Frames of an instance's REF_OUTPUT that passed since a time (R129). -/
def State.lateFrames (s : State) (inst since : Nat) : Nat := if s.refPeriod inst = 0 then 0 else (s.core.now - since) / (s.refPeriod inst * 1000)

/-- A completion of work of a band that began waiting at a time: band A and band C work that ends after its frame is SERVED_LATE with the frames of delay (R128, R129). -/
def State.lateRsp (s : State) (inst band since : Nat) (r : Rsp) : Rsp :=
  let k := s.lateFrames inst since
  if r.st = .served ∧ (band = 0 ∨ band = 2) ∧ 0 < k then { r with st := .servedLate, r2 := k } else r

/-- Finishes the command of a piece of work, late or not. -/
def State.finishLate (s : State) (n band : Nat) (r : Rsp) : State := s.finishWhere (fun o => o.wait == .work n) (fun o => s.lateRsp o.who.inst band o.since r)

end Sys2Proof.Machine
end

