-- ==== Sys2Proof/Machine/Surfaces.lean ====
section
/-! DEFINITION. The surface commands of chapter 5 and the events of copies, mirrors and apertures (R185 to R210, R635). -/

namespace Sys2Proof.Machine

/-- UNIT is a registered surface (Table 5.6). -/
def atSurface (s : State) (_ : Who) (p : Packet) : Bool := pkIs p 0x11 && (s.surf (pkUnit p)).isSome

/-- The surface UNIT names. -/
def State.target (s : State) (p : Packet) : Option Surf := s.surf (pkUnit p)

/-- Its owner or the PF. -/
def ownerPf (s : State) (w : Who) (p : Packet) : Bool := (s.target p).elim false (fun sf => w.ownerOrPf sf.owner)

/-- Its owner, an instance that holds WRITE, or the PF. -/
def mayWrite (s : State) (w : Who) (p : Packet) : Bool := !w.secure && (s.target p).elim false (fun sf => sf.mayUse w true)

/-- A command on a surface, with what the surface commands share. -/
def surfCmd (op : Nat) (form : State → Who → Packet → Bool) (may : State → Who → Packet → Bool) (check : State → Who → Packet → Option Rsp) (run : State → Who → Packet → Verdict) : Cmd :=
  { opcode := op, forms := .setOnly, secure := false, always := false, form := form, qform := bufForm, unitOk := atSurface, may := may, active := ownActive, check := check, run := run, ask := noAsk }

/-- Refused while the surface is in RELEASE_PENDING (R210). -/
def notReleasing (s : State) (_ : Who) (p : Packet) : Option Rsp :=
  (s.target p).bind (fun sf => if sf.releasing then some (Rsp.plain .refusedLocked) else none)

/-! ## Pools and allocation -/

/-- The pool of an instance in a group. -/
def Srf.pool (r : Srf) (inst g : Nat) : Option Pool := Tbl.find r.pools (inst * 2 + g)

/-- The runs allocated in a group: first unit, size, surface. -/
def Srf.runs (r : Srf) (g : Nat) : List (Nat × Nat × Nat) :=
  r.surfs.flatMap (fun e => (if e.2.home = g then [(e.2.first, e.2.size, e.1)] else []) ++ (match e.2.mirror with | some m => if e.2.home ≠ g then [(m, e.2.size, e.1)] else [] | none => []))

/-- Two runs overlap. -/
def overlaps (a n b m : Nat) : Bool := decide (a < b + m) && decide (b < a + n) && decide (0 < n) && decide (0 < m)

/-- First fit in a pool (R186): the lowest start of a free run. -/
def Srf.firstFit (r : Srf) (inst g size : Nat) : Option Nat :=
  match r.pool inst g with
  | none => none
  | some p =>
    let runs := r.runs g
    let fits (a : Nat) : Bool := decide (p.first ≤ a) && decide (a + size ≤ p.first + p.size) && !runs.any (fun x => overlaps a size x.1 x.2.1)
    (p.first :: runs.map (fun x => x.1 + x.2.1)).foldl (fun b a => if fits a then (match b with | some c => some (min a c) | none => some a) else b) none

/-- Surfaces of an instance that lie in its pool of a group and do not fit a new pool, lowest first. -/
def Srf.stranded (r : Srf) (inst g first size : Nat) : List Nat :=
  ((r.runs g).filter (fun x => (Tbl.find r.surfs x.2.2).elim false (fun sf => sf.owner == inst) && !(decide (first ≤ x.1) && decide (x.1 + x.2.1 ≤ first + size)))).map (fun x => x.2.2)

/-- POOL_SET (R185). -/
def cmdPoolSet : Cmd :=
  { opcode := 0x0207, forms := .setOnly, secure := false, always := false,
    form := fun s _ p => pkLen p 3 && fld (pkW p 0) 63 9 == 0 && pkF p 0 7 6 == 0 && fld (pkW p 1) 63 19 == 0 && fld (pkW p 2) 63 19 == 0 &&
      decide (pkW p 1 + pkW p 2 ≤ s.usable (pkF p 0 8 8) / 65536),
    qform := bufForm, unitOk := atDevice, may := pfOnly, active := ownActive,
    check := fun s _ p =>
      let inst := pkF p 0 5 0
      let g := pkF p 0 8 8
      if s.srf.pools.any (fun e => e.1 % 2 == g && e.1 / 2 != inst && overlaps e.2.first e.2.size (pkW p 1) (pkW p 2)) then some (Rsp.plain .refusedLocked)
      else (s.srf.stranded inst g (pkW p 1) (pkW p 2)).head?.map (fun n => Rsp.code .refusedLocked (s.core.here (surfUnit n))),
    run := fun s _ p =>
      let key := pkF p 0 5 0 * 2 + pkF p 0 8 8
      .done { s with srf := { s.srf with pools := (if pkW p 2 = 0 then Tbl.del s.srf.pools key else Tbl.put s.srf.pools key { first := pkW p 1, size := pkW p 2 }) } } (Rsp.plain .served),
    ask := noAsk }

/-- POOL_SET. -/
def execPoolSet (port : Port) (s : State) : Host.Outcome State Fault Refusal := s.ends (cmdPoolSet.exec port s)

/-- The shape that SURFACE_REGISTER's words give (Table 5.1). -/
def regShape (p : Packet) : Shape :=
  { format := pkF p 0 15 8, width := pkF p 0 47 32, height := pkF p 0 63 48, layout := pkF p 0 17 16, stride := pkF p 1 31 0 }

/-- The 64 KiB units a shape takes. -/
def Shape.units (sh : Shape) : Nat := ceilDiv sh.bytes 65536

/-- The well-formedness of R186 and R187. -/
def shapeOk (sh : Shape) : Bool :=
  !(planesOf sh.format).isEmpty && decide (1 ≤ sh.width) && decide (sh.width ≤ 16384) && decide (1 ≤ sh.height) && decide (sh.height ≤ 16384) && sh.layout != 3 &&
  !(sh.layout == 2 && sh.format == 0x04) && !(chromaH sh.format && sh.width % 2 == 1) && !(chromaV sh.format && sh.height % 2 == 1) &&
  (if sh.layout = 0 then sh.stride == 0 || (sh.stride % 256 == 0 && decide (sh.minStride 0 ≤ sh.stride)) else sh.stride == 0)

/-- The refusals of R187, in order. -/
def regCheck (s : State) (owner : Nat) (sh : Shape) (home : Nat) (mirror : Bool) : Option Rsp :=
  if !(s.group home).st.serves || (mirror && !(s.group (1 - home)).st.serves) then some (Rsp.plain .refusedUnitReset)
  else if 262144 ≤ s.srf.surfs.length then some (Rsp.code .refusedShare 3)
  else if (s.srf.firstFit owner home sh.units).isNone then some (Rsp.code .refusedShare 1)
  else if mirror && (s.srf.firstFit owner (1 - home) sh.units).isNone then some (Rsp.code .refusedShare 2)
  else none

/-- Registers a surface and answers its index (R186). -/
def State.register (s : State) (owner : Nat) (sh : Shape) (home : Nat) (mirror clear : Bool) : State × Verdict :=
  match s.srf.firstFit owner home sh.units, Tbl.lowestFree s.srf.surfs (2 ^ 20) 0 with
  | some a, some n =>
    let sf : Surf :=
      { owner := owner, format := sh.format, width := sh.width, height := sh.height, layout := sh.layout, stride := sh.stride, home := home, first := a, size := sh.units,
        mirror := (if mirror then s.srf.firstFit owner (1 - home) sh.units else none), mirrorStale := false, homeStale := false,
        palette := [], grants := [], refs := [], releasing := false }
    let s1 := { s with srf := { s.srf with surfs := Tbl.put s.srf.surfs n sf } }
    let s2 := if clear then s1.clearSurf n else s1
    (s2, .done s2 (Rsp.ok (s.core.here (surfUnit n)) (home * 2 ^ 19 + a) sh.units))
  | _, _ => (s, .done s (Rsp.code .refusedShare 1))

/-- SURFACE_REGISTER (R186). -/
def cmdSurfaceRegister : Cmd :=
  { opcode := 0x0200, forms := .setOnly, secure := false, always := false,
    form := fun _ _ p => pkLen p 2 && pkF p 0 7 6 == 0 && pkF p 0 31 21 == 0 && pkF p 1 63 32 == 0 && shapeOk (regShape p),
    qform := bufForm, unitOk := atDevice, may := fun _ w p => w.ownerOrPf (pkF p 0 5 0), active := ownActive,
    check := fun s _ p => regCheck s (pkF p 0 5 0) (regShape p) (pkF p 0 18 18) (bitOf (pkW p 0) 19),
    run := fun s _ p => (s.register (pkF p 0 5 0) (regShape p) (pkF p 0 18 18) (bitOf (pkW p 0) 19) (bitOf (pkW p 0) 20)).2,
    ask := noAsk }

/-- SURFACE_REGISTER. -/
def execSurfaceRegister (port : Port) (s : State) : Host.Outcome State Fault Refusal := s.ends (cmdSurfaceRegister.exec port s)

/-! ## Free -/

/-- Frees a surface (R209, R210). -/
def freeRun (s : State) (_ : Who) (p : Packet) : Verdict :=
  let n := uNum (pkUnit p)
  match Tbl.find s.srf.surfs n with
  | none => .done s (Rsp.plain .rejectedUnit)
  | some sf =>
    let s1 := { s.updSurf n (fun x => { x with releasing := true }) with srf := { (s.updSurf n (fun x => { x with releasing := true })).srf with maps := s.srf.maps.filter (fun m => m.surf != n) } }
    let busy : Rsp := { st := .delayedUnitBusy, r0 := 0, r1 := 0, r2 := sf.refs.length }
    if sf.locked ∨ (sf.releasing ∧ sf.locked) then .delayed s1 busy (.unit (surfUnit n)) true
    else if s.srf.copies.any (fun c => c.surf == n) then .silent s1 (.unit (surfUnit n))
    else .done (s.dropSurf n) (Rsp.ok 0 0x200 0)

/-- SURFACE_FREE (R209). -/
def cmdSurfaceFree : Cmd := surfCmd 0x0201 (fun _ _ p => pkLen p 0) ownerPf noCheck freeRun

/-- SURFACE_FREE. -/
def execSurfaceFree (port : Port) (s : State) : Host.Outcome State Fault Refusal := s.ends (cmdSurfaceFree.exec port s)

/-! ## Copy -/

/-- A rectangle word of R201: x, y, width, height. -/
def rectOf (w : Nat) : Nat × Nat × Nat × Nat := (fld w 15 0, fld w 31 16, fld w 47 32, fld w 63 48)

/-- A rectangle within a plane, aligned for TBC (R201). -/
def copyRectOk (sh : Shape) (p r : Nat) : Bool :=
  let (x, y, w, h) := rectOf r
  decide (p < (planesOf sh.format).length) && decide (0 < w) && decide (0 < h) && decide (x + w ≤ sh.pw p) && decide (y + h ≤ sh.ph p)

/-- The alignment of a rectangle written to a TBC plane. -/
def tbcRectOk (sh : Shape) (p r : Nat) : Bool :=
  let (x, y, w, h) := rectOf r
  x % 8 == 0 && y % 8 == 0 && (w % 8 == 0 || x + w == sh.pw p) && (h % 8 == 0 || y + h == sh.ph p)

/-- The form of SURFACE_COPY. -/
def copyForm (s : State) (_ : Who) (p : Packet) : Bool :=
  pkLen p 4 && pkF p 0 31 0 == pkUnit p && pkF p 0 39 34 == 0 && pkF p 0 63 41 == 0 && pkF p 2 63 32 == 0 &&
  (s.target p).elim true (fun sf => copyRectOk sf.shape (pkF p 0 33 32) (pkW p 3) && (bitOf (pkW p 0) 40 || sf.layout != 2 || tbcRectOk sf.shape (pkF p 0 33 32) (pkW p 3)))

/-- SURFACE_COPY's refusals (R206, R210). -/
def copyCheck (s : State) (_ : Who) (p : Packet) : Option Rsp :=
  (s.target p).bind (fun sf => if sf.releasing || (!bitOf (pkW p 0) 40 && sf.locked) then some (Rsp.plain .refusedLocked) else none)

/-- Starts a copy: its bursts run until SURFACE_COPY_DONE. -/
def copyRun (s : State) (w : Who) (p : Packet) : Verdict :=
  match s.target p with
  | none => .done s (Rsp.plain .rejectedUnit)
  | some sf =>
    if (s.readBase sf).isNone then .done s (Rsp.code .failedMemory sf.home)
    else
      let (s1, n) := s.newWork
      let (x, y, cw, ch) := rectOf (pkW p 3)
      let c : CopyRun := { work := n, who := w, surf := uNum (pkUnit p), plane := pkF p 0 33 32, toSurface := !bitOf (pkW p 0) 40, iova := pkW p 1, stride := pkF p 2 31 0, x := x, y := y, w := cw, h := ch }
      .silent { s1 with srf := { s1.srf with copies := s1.srf.copies ++ [c] } } (.work n)

/-- SURFACE_COPY (R201). -/
def cmdSurfaceCopy : Cmd := surfCmd 0x0202 copyForm mayWrite copyCheck copyRun

/-- SURFACE_COPY. -/
def execSurfaceCopy (port : Port) (s : State) : Host.Outcome State Fault Refusal := s.ends (cmdSurfaceCopy.exec port s)

/-- Reads the host rows of a copy: row by row, linear in the surface's format. -/
def State.readRows (s : State) (w : Who) (iova stride len : Nat) : Nat → State × Except (Nat × Nat) (List Byte)
  | 0 => (s, .ok [])
  | h + 1 =>
    match State.readRows s w iova stride len h with
    | (s1, .error e) => (s1, .error e)
    | (s1, .ok bs) =>
      match s1.hostRead w (iova + h * stride) len with
      | (s2, .error e) => (s2, .error e)
      | (s2, .ok r) => (s2, .ok (bs ++ r))

/-- Writes the host rows of a copy. -/
def State.writeRows (s : State) (w : Who) (iova stride : Nat) : List (List Byte) → Nat → State × Option (Nat × Nat)
  | [], _ => (s, none)
  | r :: rs, i =>
    match s.hostWrite w (iova + i * stride) r with
    | (s1, none) => State.writeRows s1 w iova stride rs (i + 1)
    | (s1, some e) => (s1, some e)

/-- The offset in the allocation of element i of a copy's rectangle (R190 to R192): in TBC that of its block's header. -/
def Surf.copyOffset (sf : Surf) (c : CopyRun) (i : Nat) : Nat :=
  let sh := sf.shape
  let x := c.x + i % c.w
  let y := c.y + i / c.w
  sh.planeStart c.plane + (if sh.layout = 2 then headerAt (sh.blockOf c.plane x y) else sh.elemAt c.plane x y)

/-- Ends a copy (R201, R206): before is the number of bytes already written when the surface became locked, if it is locked now. -/
def State.copyDone (s : State) (c : CopyRun) (before : Nat) : State × Rsp :=
  match Tbl.find s.srf.surfs c.surf with
  | none => (s, Rsp.plain .failedUnitReset)
  | some sf =>
    let eb := sf.shape.eb c.plane
    let total := c.w * c.h * eb
    if c.toSurface then
      match s.readRows c.who c.iova c.stride (c.w * eb) c.h with
      | (s1, .error e) => s1.dataFault c.who e false
      | (s1, .ok bs) =>
        let done := if sf.locked then min before total else total
        let f (x y : Nat) : Nat :=
          let i := ((y - c.y) * c.w + (x - c.x)) * eb
          if i + eb ≤ done then ofLe ((bs.drop i).take eb) else s.elem sf c.plane x y
        let s2 := s1.putRect c.surf 15 (some c.who.inst) c.who.slice c.plane c.x c.y c.w c.h f
        if done = total then (s2, Rsp.plain .served)
        else (s2.lockDrop c.who.inst c.who.slice c.surf (sf.copyOffset c (done / eb)) 1, Rsp.ok done (total - done) 0 |> fun r => { r with st := .servedPartial })
    else
      let rows := (List.range c.h).map (fun j => (List.range c.w).flatMap (fun i => le eb (s.elem sf c.plane (c.x + i) (c.y + j))))
      match s.writeRows c.who c.iova c.stride rows 0 with
      | (s1, none) => (s1, Rsp.plain .served)
      | (s1, some e) => s1.dataFault c.who e true

/-- SURFACE_COPY_DONE (R206): completes the copy; a free that waited for it ends (R209). -/
def execSurfaceCopyDone (work before : Nat) (s : State) : Host.Outcome State Fault Refusal :=
  s.ends (match s.srf.copies.find? (fun c => c.work == work) with
    | none => s
    | some c =>
      let r := s.copyDone c before
      let s1 := { r.1 with srf := { r.1.srf with copies := r.1.srf.copies.filter (fun x => x.work != work) } }
      let s2 := s1.finishWork work r.2
      match Tbl.find s2.srf.surfs c.surf with
      | some sf =>
        if sf.releasing && !sf.locked && !s2.srf.copies.any (fun x => x.surf == c.surf) then
          (s2.dropSurf c.surf).finishWhere (fun o => asOp o.op == 0x0201 && o.wait == .unit (surfUnit c.surf)) (fun _ => Rsp.ok 0 0x200 0)
        else s2
      | none => s2)

/-! ## Aperture -/

/-- Aperture bytes of a function (R202). -/
def apertureBytes (inst : Nat) : Nat := if inst = 0 then 2 ^ 30 else 64 * 2 ^ 20

/-- SURFACE_MAP (R202). -/
def cmdSurfaceMap : Cmd :=
  surfCmd 0x0203
    (fun s w p => pkLen p 3 && pkW p 0 == pkUnit p && multOf 65536 (pkF p 1 31 0) && multOf 65536 (pkF p 1 63 32) && multOf 65536 (pkW p 2) && pkW p 2 != 0 &&
      decide (pkF p 1 31 0 + pkW p 2 ≤ apertureBytes w.inst) && (s.target p).elim true (fun sf => decide (pkF p 1 63 32 + pkW p 2 ≤ sf.size * 65536)))
    mayWrite
    (fun s w p => (notReleasing s w p).or
      (if s.srf.maps.any (fun m => m.inst == w.inst && overlaps m.offset m.len (pkF p 1 31 0) (pkW p 2)) then some (Rsp.plain .refusedLocked) else none))
    (fun s w p =>
      let m : Mapping := { inst := w.inst, slice := w.slice, offset := pkF p 1 31 0, surf := uNum (pkUnit p), surfOff := pkF p 1 63 32, len := pkW p 2 }
      .done { s with srf := { s.srf with maps := s.srf.maps ++ [m] } } (Rsp.plain .served))

/-- SURFACE_MAP. -/
def execSurfaceMap (port : Port) (s : State) : Host.Outcome State Fault Refusal := s.ends (cmdSurfaceMap.exec port s)

/-- SURFACE_UNMAP (R202, R635): the function whose aperture holds the mapping. -/
def cmdSurfaceUnmap : Cmd :=
  { opcode := 0x0204, forms := .setOnly, secure := false, always := false, form := fun _ _ p => pkLen p 1 && pkF p 0 63 32 == 0, qform := bufForm, unitOk := atDevice,
    may := fun s w p => !w.secure && s.srf.maps.any (fun m => m.inst == w.inst && m.offset == pkF p 0 31 0), active := ownActive, check := noCheck,
    run := fun s w p => .done { s with srf := { s.srf with maps := s.srf.maps.filter (fun m => !(m.inst == w.inst && m.offset == pkF p 0 31 0)) } } (Rsp.plain .served),
    ask := noAsk }

/-- SURFACE_UNMAP. -/
def execSurfaceUnmap (port : Port) (s : State) : Host.Outcome State Fault Refusal := s.ends (cmdSurfaceUnmap.exec port s)

/-- The mapping that holds an aperture range. -/
def State.mapOf (s : State) (inst off len : Nat) : Option Mapping :=
  s.srf.maps.find? (fun m => m.inst == inst && decide (m.offset ≤ off) && decide (off + len ≤ m.offset + m.len))

/-- Counts an aperture miss (R202). -/
def State.apertureMiss (s : State) : State := { s with srf := { s.srf with apertureMiss := satInc s.srf.apertureMiss } }

/-- APERTURE_WRITE (R202, R205, R207): reaches the mapped bytes, or is dropped. -/
def execApertureWrite (inst off : Nat) (bytes : List Byte) (s : State) : Host.Outcome State Fault Refusal :=
  s.ends (match s.mapOf inst off bytes.length with
    | none => s.apertureMiss
    | some m =>
      match Tbl.find s.srf.surfs m.surf with
      | none => s.apertureMiss
      | some sf =>
        let o := m.surfOff + (off - m.offset)
        if sf.locked then s.lockDrop m.inst m.slice m.surf o 0 else s.putPieces m.surf 15 (some inst) m.slice [(o, bytes)])

/-- APERTURE_READ (R202): the stored bytes, or zero and a count. -/
def execApertureRead (inst off size : Nat) (s : State) : Host.Outcome State Fault Refusal :=
  s.ends (match (s.mapOf inst off size).bind (fun m => (Tbl.find s.srf.surfs m.surf).map (fun sf => (m, sf))) with
    | none => s.apertureMiss.mapCore (fun k => { k with rdData := List.replicate size 0 })
    | some (m, sf) =>
      let o := m.surfOff + (off - m.offset)
      if s.permits 15 false (sf.homeBase + o) then s.mapCore (fun k => { k with rdData := s.surfRead sf o size })
      else (s.deny 15 (some inst) m.slice false (sf.homeBase + o)).mapCore (fun k => { k with rdData := List.replicate size 0 }))

/-! ## Mirrors, palettes, grants -/

/-- The refusals of SURFACE_MIRROR (R200). -/
def mirrorCheck (s : State) (w : Who) (p : Packet) : Option Rsp :=
  match s.target p with
  | none => none
  | some sf =>
    (notReleasing s w p).or
      (if pkW p 0 = 0 then (if sf.mirror.isSome && sf.locked then some (Rsp.plain .refusedLocked) else none)
       else if sf.mirror.isSome then none
       else if !(s.group (1 - sf.home)).st.serves then some (Rsp.plain .refusedUnitReset)
       else if (s.srf.firstFit sf.owner (1 - sf.home) sf.size).isNone then some (Rsp.code .refusedShare 2)
       else none)

/-- SURFACE_MIRROR (R200): removal is immediate; an added mirror is served once it is copied. -/
def cmdSurfaceMirror : Cmd :=
  surfCmd 0x0205 (fun _ _ p => pkLen p 1 && decide (pkW p 0 ≤ 1)) ownerPf mirrorCheck
    (fun s _ p =>
      let n := uNum (pkUnit p)
      match s.target p with
      | none => .done s (Rsp.plain .rejectedUnit)
      | some sf =>
        if pkW p 0 = 0 then .done (s.updSurf n (fun x => { x with mirror := none, mirrorStale := false })) (Rsp.plain .served)
        else if sf.mirror.isSome then .done s (Rsp.plain .served)
        else
          let (s1, k) := s.newWork
          let s2 := s1.updSurf n (fun x => { x with mirror := s.srf.firstFit sf.owner (1 - sf.home) sf.size, mirrorStale := true })
          .silent { s2 with srf := { s2.srf with mirrorCopies := s2.srf.mirrorCopies ++ [(k, n)] } } (.work k))

/-- SURFACE_MIRROR. -/
def execSurfaceMirror (port : Port) (s : State) : Host.Outcome State Fault Refusal := s.ends (cmdSurfaceMirror.exec port s)

/-- MIRROR_COPY_DONE (R200): the home content is in the new mirror, and SURFACE_MIRROR is served. -/
def execMirrorCopyDone (work : Nat) (s : State) : Host.Outcome State Fault Refusal :=
  s.ends (match s.srf.mirrorCopies.find? (fun e => e.1 == work) with
    | none => s
    | some (_, n) =>
      let s1 := match Tbl.find s.srf.surfs n with
        | some sf => (s.copyAcross sf true).updSurf n (fun x => { x with mirrorStale := false })
        | none => s
      { s1 with srf := { s1.srf with mirrorCopies := s1.srf.mirrorCopies.filter (fun e => e.1 != work) } }.finishWork work (Rsp.plain .served))

/-- MIRROR_COPYBACK_DONE (R174): a stale copy is copied back and its flag cleared; not while a group of the surface is out of service. -/
def execMirrorCopybackDone (n : Nat) (s : State) : Host.Outcome State Fault Refusal :=
  s.ends (match Tbl.find s.srf.surfs n with
    | none => s
    | some sf =>
      if (s.group 0).st.serves && (s.group 1).st.serves && (sf.homeStale || sf.mirrorStale) then
        (s.copyAcross sf (!sf.homeStale)).updSurf n (fun x => { x with homeStale := false, mirrorStale := false })
      else s)

/-- SURFACE_PALETTE (R189). -/
def cmdSurfacePalette : Cmd :=
  surfCmd 0x0206 (fun s _ p => pkLen p 1 && (s.target p).elim true (fun sf => sf.format == 0x09)) ownerPf noCheck
    (fun s w p =>
      match s.hostRead w (pkW p 0) 1024 with
      | (s1, .error e) => let r := s1.dataFault w e false; .done r.1 r.2
      | (s1, .ok bs) => .done (s1.updSurf (uNum (pkUnit p)) (fun x => { x with palette := elemsOf 4 256 bs })) (Rsp.plain .served))

/-- SURFACE_PALETTE. -/
def execSurfacePalette (port : Port) (s : State) : Host.Outcome State Fault Refusal := s.ends (cmdSurfacePalette.exec port s)

/-- SURFACE_GRANT (R199). -/
def cmdSurfaceGrant : Cmd :=
  surfCmd 0x0208 (fun _ _ p => pkLen p 1 && pkF p 0 7 6 == 0 && pkF p 0 63 10 == 0) ownerPf notReleasing
    (fun s _ p =>
      let inst := pkF p 0 5 0
      let n := uNum (pkUnit p)
      .done (s.updSurf n (fun x =>
        if inst = 0 ∨ inst = x.owner then x
        else if pkF p 0 9 8 = 0 then { x with grants := Tbl.del x.grants inst } else { x with grants := Tbl.put x.grants inst (pkF p 0 9 8) })) (Rsp.plain .served))

/-- SURFACE_GRANT. -/
def execSurfaceGrant (port : Port) (s : State) : Host.Outcome State Fault Refusal := s.ends (cmdSurfaceGrant.exec port s)

/-- LOCK_STATUS_READ (Table 5.4): the read sets PEAK to IN_USE. -/
def execLockStatusRead (s : State) : Host.Outcome State Fault Refusal :=
  let s1 := s.mapCore (fun k => { k with rdData := le 4 (s.srf.inUse * 0x10000 + s.srf.peak) })
  s.ends { s1 with srf := { s1.srf with peak := s.srf.inUse } }

end Sys2Proof.Machine
end

