-- ==== Sys2Proof/Machine/Fronds.lean ====
section
/-! DEFINITION. The layer, frond, tone and group layer commands of chapter 6 (R211 to R258). -/

namespace Sys2Proof.Machine

/-- The unit of a layer. -/
def layerUnit (f k : Nat) : Nat := uid 0x21 f k

/-- A frond slot that holds no layer and is not borrowed. -/
def State.slotFree (s : State) (f k : Nat) : Bool :=
  !Tbl.has s.frd.layers (f * 256 + k) && !(s.layersOf f).any (fun e => e.2.borrowed == some k)

/-- The slot R212 gives a new layer. -/
def State.pickSlot (s : State) (f : Nat) (scalable : Bool) : Option Nat :=
  let low := (List.range 4).find? (s.slotFree f)
  let high := ((List.range 12).map (· + 4)).find? (s.slotFree f)
  if scalable then low else high.or low

/-- A layer with no pictures yet. -/
def newLayer (owner slice : Nat) (gen : Gen) (d : Desc) : Layer :=
  { owner := owner, slice := slice, gen := gen, latched := false, desc := d, posts := [], buffer := 0, bufferAt := 0, held := 0, removing := none,
    coef := { now := defaultCoef, pending := none }, tone := { now := [], pending := none }, borrowed := none, dropped := 0, missed := 0, lastRect := none }

/-- The descriptor of a LAYER_COMMIT packet. -/
def pkDesc (p : Packet) : Desc := { w0 := pkW p 0, w1 := pkW p 1, w2 := pkW p 2, w3 := pkW p 3, w4 := pkW p 4 }

/-- Sizes within the scaler's range (R238). -/
def Desc.scaleOk (d : Desc) : Bool :=
  decide (ceilDiv d.ws 4 ≤ d.dstW) && decide (d.dstW ≤ 64 * d.ws) && decide (ceilDiv d.srcH 4 ≤ d.dstH) && decide (d.dstH ≤ 64 * d.srcH)

/-- The field ranges of Table 6.2. -/
def Desc.fieldsOk (d : Desc) : Bool :=
  let sz (v : Nat) : Bool := decide (1 ≤ v) && decide (v ≤ 16384)
  fld d.w0 47 42 == 0 && fld d.w0 34 32 == 0 && sz d.srcW && sz d.srcH && sz d.dstW && sz d.dstH && fld d.w3 63 16 == 0 && fld d.w3 14 12 == 0 && fld d.w3 11 10 != 3 &&
  fld d.w4 63 36 == 0 && !(d.mustUpdate && d.band != 0)

/-- The source rules of R214. -/
def State.sourceOk (s : State) (d : Desc) : Bool :=
  if d.source = 0 then true
  else if uCls d.source = 0xF2 then
    (s.glayer d.source).elim false (fun g => decide (d.srcX + d.srcW ≤ g.width) && decide (d.srcY + d.srcH ≤ g.height) && d.premult)
  else
    (s.surf d.source).elim false (fun sf =>
      decide (d.srcX + d.srcW ≤ sf.width) && decide (d.srcY + d.srcH ≤ sf.height) &&
      !(chromaH sf.format && (d.srcX % 2 == 1 || d.srcW % 2 == 1)) && !(chromaV sf.format && (d.srcY % 2 == 1 || d.srcH % 2 == 1)))

/-- The well-formedness of a descriptor for a slot, if the slot is known (R214, R238). -/
def State.descOk (s : State) (d : Desc) (slot : Option Nat) : Bool :=
  d.fieldsOk && s.sourceOk d &&
  (if d.dstW == d.srcW && d.dstH == d.srcH && !d.scaleBit then d.decimN == 1 else d.scaleOk) &&
  (match slot with
    | some k => decide (k < 4) || (d.dstW == d.srcW && d.dstH == d.srcH && d.decimN == 1)
    | none => true)

/-- The key of a slice of the device at a position (R566). -/
def remoteKey (pos : Nat) (w : Who) : Nat := pos * 2 ^ 16 + sliceKey w.inst w.slice

/-- An instance's session is authenticated on this slice (R125). -/
def State.authed (s : State) (w : Who) : Bool :=
  w.secure || (match w.remote with
    | some pos => Tbl.has s.rhz.auths (remoteKey pos w)
    | none => (s.core.slice w.inst w.slice).elim false (fun sl => sl.auth.isSome))

/-- A band is in an instance's BANDS. -/
def State.bandIn (s : State) (inst band : Nat) : Bool := (s.core.share inst).elim false (fun sh => bitOf sh.bands band)

/-- Regulated mode (R521). -/
def State.regulated (s : State) : Bool := s.core.jrn.regulated

/-- A source of which every surface has a mirror. -/
def State.mirrored (s : State) (src : Nat) : Bool :=
  if src = 0 then true
  else if uCls src = 0xF2 then (s.glayer src).elim true (fun g => g.inter.all (fun u => (s.surf u).elim true (fun sf => sf.mirror.isSome)))
  else (s.surf src).elim true (fun sf => sf.mirror.isSome)

/-- Step 1 of R215, with R173, R175, R213 and R340. -/
def State.bandOk (s : State) (w : Who) (owner f : Nat) (d : Desc) : Bool :=
  match s.frond f with
  | none => false
  | some fr =>
    s.bandIn owner d.band && bitOf fr.bands d.band && (d.band != 0 || s.authed w) && (!fr.fullMirror || s.mirrored d.source) &&
    !(s.regulated && d.band == 0 && (!s.mirrored d.source || !s.led.veilLock))

/-- Step 2 of R215: the source may be committed. -/
def State.sourceFree (s : State) (f : Nat) (d : Desc) : Bool :=
  match s.surf d.source with
  | none => true
  | some sf => !sf.releasing && !(sf.written && (s.layersOf f).any (fun e => uKey e.2.buffer == uKey d.source))

/-- Layers an instance has on a frond. -/
def State.quotaUsed (s : State) (f inst : Nat) : Nat := ((s.layersOf f).filter (fun e => e.2.owner == inst)).length

/-- Step 5 of R215: a line buffer, or a stripe split (R244, R245). -/
def State.lineBufOk (s : State) (f slot : Nat) (d : Desc) : Bool :=
  !d.scales || decide (d.ws ≤ 4096) || (d.stripe && decide (d.ws ≤ 8192) && ((List.range 4).any (fun k => k != slot && s.slotFree f k) || ((Tbl.find s.frd.layers (f * 256 + slot)).bind Layer.borrowed).isSome))

/-- The checks of R215, in order; slot is the layer's, or none for a new layer. -/
def State.commitCheck (s : State) (w : Who) (owner f : Nat) (slot : Option Nat) (d : Desc) : Option Rsp :=
  let k := slot.or (s.pickSlot f d.scalable)
  let quota := (s.core.share owner).elim 0 (fun sh => fld sh.layerQuota (5 * f + 4) (5 * f))
  if !s.bandOk w owner f d then some (Rsp.plain .refusedBand)
  else if !s.sourceFree f d then some (Rsp.plain .refusedLocked)
  else if slot.isNone && decide (quota ≤ s.quotaUsed f owner) then some (Rsp.code .refusedShare 0x10)
  else match k with
    | none => some (Rsp.code .refusedShare 0x11)
    | some k =>
      if d.scales && decide (4 ≤ k) then some (Rsp.code .refusedShare 0x12)
      else if !s.lineBufOk f k d then some (Rsp.code .refusedLinebufShort (match slot with | some j => s.core.here (layerUnit f j) | none => s.core.here (uid 0x20 f 0)))
      else if decide (d.band ≤ 1) && !(match s.frond f, s.outOf f with
          | some fr, some (_, out) => s.fitsBudget f out fr.entA fr.entB k (some d)
          | _, _ => true) then some (Rsp.code .refusedShare 0x14)
      else none

/-- UNIT is a frond or an existing layer. -/
def atFrondOrLayer (s : State) (_ : Who) (p : Packet) : Bool := pkIs p 0x20 || (pkIs p 0x21 && (s.layer (pkUnit p)).isSome)

/-- UNIT is an existing layer. -/
def atLayer (s : State) (_ : Who) (p : Packet) : Bool := pkIs p 0x21 && (s.layer (pkUnit p)).isSome

/-- The slot of a layer UNIT; none where UNIT is a frond. -/
def pkSlot (p : Packet) : Option Nat := if uCls (pkUnit p) = 0x21 then some (uSub (pkUnit p)) else none

/-- Read use of a source by its committer (R199); a group layer by its owner (R254). -/
def State.mayShow (s : State) (w : Who) (src : Nat) : Bool :=
  if uCls src = 0xF2 then (s.glayer src).elim true (fun g => w.ownerOrPf g.owner) else (s.surf src).elim true (fun sf => sf.mayUse w false)

/-- Who may commit: any instance on a frond, the owner or the PF on a layer; with READ on the source. -/
def mayCommit (s : State) (w : Who) (p : Packet) : Bool :=
  !w.secure && s.mayShow w (pkDesc p).source && (pkQuery p || (s.layer (pkUnit p)).elim true (fun l => w.ownerOrPf l.owner))

/-- The layer's owner, or the PF. -/
def layerOwnerPf (s : State) (w : Who) (p : Packet) : Bool := (s.layer (pkUnit p)).elim false (fun l => w.ownerOrPf l.owner)

/-- The layer's owner. -/
def layerOwner (s : State) (w : Who) (p : Packet) : Bool := (s.layer (pkUnit p)).elim false (fun l => w.is l.owner)

/-- Commits a descriptor to a slot: it waits for the latch point, or is staged (R214 to R216). -/
def State.commit (s : State) (w : Who) (f k owner : Nat) (creates : Bool) (d : Desc) : State × Nat :=
  let (s1, n) := s.newWork
  let s2 := if creates then { s1 with frd := { s1.frd with layers := Tbl.put s1.frd.layers (f * 256 + k) (newLayer owner w.slice (s.core.genOf (layerUnit f k)) { d with w0 := d.w0 - d.source }) } } else s1
  let spare := if d.scales && decide (4096 < d.ws) && decide (k < 4) then (((Tbl.find s2.frd.layers (f * 256 + k)).bind Layer.borrowed).or ((List.range 4).find? (fun j => j != k && s2.slotFree f j))) else none
  let s3 := if spare.isSome then s2.updLayer (f * 256 + k) (fun l => { l with borrowed := spare }) else s2
  let s4 := if uCls d.source = 0x11 then s3.takeRef (uNum d.source) false (.layer f k n) else s3
  let c : Commit := { layer := layerUnit f k, desc := d, work := n, inst := w.inst, slice := w.slice, applied := !d.arm, creates := creates }
  (s4.updFrond f (fun fr => if d.arm then { fr with staged := fr.staged ++ [c] } else { fr with commits := fr.commits ++ [c] }), n)

/-- LAYER_COMMIT's effect: it completes at the latch point at which its descriptor takes effect (R223). -/
def commitRun (s : State) (w : Who) (p : Packet) : Verdict :=
  let d := pkDesc p
  let f := uIdx (pkUnit p)
  if uCls d.source = 0x11 && s.lockFull (uNum d.source) then .delayed s.countLockWait (Rsp.plain .delayedUnitBusy) (.unit (uKey d.source)) false
  else
    match (pkSlot p).or (s.pickSlot f d.scalable) with
    | none => .done s (Rsp.code .refusedShare 0x11)
    | some k =>
      let r := s.commit w f k ((s.layer (pkUnit p)).elim w.inst Layer.owner) (pkSlot p).isNone d
      .silent r.1 (.work r.2)

/-- The words in force of a layer (R640): ARM reads 0. -/
def commitAsk (s : State) (w : Who) (p : Packet) : State × Rsp :=
  match s.layer (pkUnit p) with
  | none => (s, Rsp.plain .rejectedUnit)
  | some l =>
    let w0 := if l.desc.arm then l.desc.w0 - 2 ^ 37 else l.desc.w0
    s.answerWords w p ([w0, l.desc.w1, l.desc.w2, l.desc.w3, l.desc.w4].map (BitVec.ofNat 64))

/-- LAYER_COMMIT (R214). -/
def cmdLayerCommit : Cmd :=
  { opcode := 0x0300, forms := .both, secure := false, always := false,
    form := fun s _ p => pkLen p 5 && s.descOk (pkDesc p) (pkSlot p), qform := bufForm,
    unitOk := fun s w p => if pkQuery p then atLayer s w p else atFrondOrLayer s w p,
    may := fun s w p => if pkQuery p then layerOwnerPf s w p else mayCommit s w p, active := ownActive,
    check := fun s w p => s.commitCheck w ((s.layer (pkUnit p)).elim w.inst Layer.owner) (uIdx (pkUnit p)) (pkSlot p) (pkDesc p),
    run := commitRun, ask := commitAsk }

/-- LAYER_COMMIT. -/
def execLayerCommit (port : Port) (s : State) : Host.Outcome State Fault Refusal := s.ends (cmdLayerCommit.exec port s)

/-- The newest descriptor of a layer: staged, committed or in force (R217). -/
def State.newestDesc (s : State) (f : Nat) (u : Nat) (l : Layer) : Desc :=
  match s.frond f with
  | none => l.desc
  | some fr => (((fr.commits ++ fr.staged).filter (fun c => c.layer == u)).getLast?.map Commit.desc).getD l.desc

/-- A surface fits a descriptor: format and layout of its SOURCE, and it covers the source rectangle (R217). A layer with no source yet takes any surface that covers (log entry 20). -/
def State.fitsDesc (s : State) (d : Desc) (sf : Surf) : Bool :=
  decide (d.srcX + d.srcW ≤ sf.width) && decide (d.srcY + d.srcH ≤ sf.height) &&
  (if d.source = 0 then true else (s.surf d.source).elim true (fun o => o.format == sf.format && o.layout == sf.layout))

/-- The form of LAYER_POST. -/
def postForm (s : State) (_ : Who) (p : Packet) : Bool :=
  pkLen p 1 && fld (pkW p 0) 63 32 == 0 && (s.surf (pkW p 0)).isSome &&
  (s.layer (pkUnit p)).elim true (fun l =>
    let d := s.newestDesc (uIdx (pkUnit p)) (uKey (pkUnit p)) l
    uCls d.source != 0xF2 && (s.surf (pkW p 0)).elim false (s.fitsDesc d))

/-- Queues a post on a layer (R217). -/
def State.addPost (s : State) (key : Nat) (u inst slice : Nat) (device : Bool) (recv : Option Nat) : State × Nat :=
  let (s1, n) := s.newWork
  let s2 := s1.takeRef (uNum u) false (.layer (key / 256) (key % 256) n)
  (s2.updLayer key (fun l => { l with posts := l.posts ++ [{ surf := u, work := if device then 0 else n, ref := n, ready := 0, inst := inst, slice := slice, recv := recv }] }), n)

/-- LAYER_POST (R217). -/
def cmdLayerPost : Cmd :=
  { opcode := 0x0301, forms := .setOnly, secure := false, always := false, form := postForm, qform := bufForm, unitOk := atLayer,
    may := fun s w p => layerOwner s w p && s.mayShow w (pkW p 0), active := ownActive,
    check := fun s _ p => if (s.surf (pkW p 0)).elim false Surf.releasing then some (Rsp.plain .refusedLocked) else none,
    run := fun s w p =>
      match s.layer (pkUnit p) with
      | none => .done s (Rsp.plain .rejectedUnit)
      | some l =>
        if l.removing.isSome then .done s (Rsp.plain .refusedUnitReset)
        else if 4 ≤ l.posts.length then .delayed s (Rsp.plain .delayedUnitBusy) (.unit (uKey (pkUnit p))) false
        else if s.lockFull (uNum (pkW p 0)) then .delayed s.countLockWait (Rsp.plain .delayedUnitBusy) (.unit (uKey (pkW p 0))) false
        else
          let r := s.addPost (subKey (pkUnit p)) (pkW p 0) w.inst w.slice false none
          .silent r.1 (.work r.2),
    ask := noAsk }

/-- LAYER_POST. -/
def execLayerPost (port : Port) (s : State) : Host.Outcome State Fault Refusal := s.ends (cmdLayerPost.exec port s)

/-- Aborts the queued posts of a layer (R218): REFUSED_UNIT_RESET to each. -/
def State.abortPosts (s : State) (key : Nat) : State :=
  match Tbl.find s.frd.layers key with
  | none => s
  | some l =>
    let s1 := s.updLayer key (fun l => { l with posts := [] })
    l.posts.foldl (fun t q => if q.work = 0 then t else t.finishWork q.work (Rsp.plain .refusedUnitReset)) s1

/-- LAYER_REMOVE (R218): takes effect at the next latch point. -/
def cmdLayerRemove : Cmd :=
  { opcode := 0x0302, forms := .setOnly, secure := false, always := false, form := fun _ _ p => pkLen p 0, qform := bufForm, unitOk := atLayer, may := layerOwnerPf, active := ownActive, check := noCheck,
    run := fun s _ p =>
      match s.layer (pkUnit p) with
      | none => .done s (Rsp.plain .rejectedUnit)
      | some l =>
        match l.removing with
        | some (n, _) => if n = 0 then .done s (Rsp.plain .refusedUnitReset) else .silent s (.work n)
        | none =>
          let (s1, n) := s.newWork
          .silent ((s1.updLayer (subKey (pkUnit p)) (fun l => { l with removing := some (n, false) })).abortPosts (subKey (pkUnit p))) (.work n),
    ask := noAsk }

/-- LAYER_REMOVE. -/
def execLayerRemove (port : Port) (s : State) : Host.Outcome State Fault Refusal := s.ends (cmdLayerRemove.exec port s)

/-- Drops a layer that was created by a commit that never took effect. -/
def State.dropUncreated (s : State) (c : Commit) : State :=
  if c.creates && (s.layer c.layer).elim false (fun l => !l.latched) then { s with core := s.core.unmap c.layer, frd := { s.frd with layers := Tbl.del s.frd.layers (subKey c.layer) } } else s

/-- Releases the reference a commit took. -/
def State.dropCommitRef (s : State) (c : Commit) : State :=
  if uCls c.desc.source = 0x11 then s.dropRef (uNum c.desc.source) (.layer (uIdx c.layer) (uSub c.layer) c.work) 0 0 false else s

/-- The commits a slice has staged on a frond. -/
def Frond.stagedBy (fr : Frond) (w : Who) : List Commit := fr.staged.filter (fun c => c.inst == w.inst && c.slice == w.slice)

/-- The first refusal among staged commits, checked again as a set (R216). -/
def State.stagedRefusal (s : State) (w : Who) (cs : List Commit) : Option Rsp :=
  cs.findSome? (fun c =>
    match s.layer c.layer with
    | none => some (Rsp.plain .refusedUnitReset)
    | some l => s.commitCheck w l.owner (uIdx c.layer) (some (uSub c.layer)) c.desc)

/-- FROND_APPLY (R216). -/
def cmdFrondApply : Cmd :=
  { opcode := 0x0303, forms := .setOnly, secure := false, always := false, form := fun _ _ p => pkLen p 0, qform := bufForm, unitOk := fun _ _ p => pkIs p 0x20,
    may := fun _ w _ => !w.secure, active := ownActive, check := noCheck,
    run := fun s w p =>
      let f := uIdx (pkUnit p)
      let cs := (s.frond f).elim [] (fun fr => fr.stagedBy w)
      if cs.isEmpty then .done s (Rsp.plain .served)
      else
        let rest (fr : Frond) : List Commit := fr.staged.filter (fun c => !(c.inst == w.inst && c.slice == w.slice))
        match s.stagedRefusal w cs with
        | some r =>
          let s1 := s.updFrond f (fun fr => { fr with staged := rest fr })
          .done (cs.foldl (fun t c => ((t.dropUncreated c).dropCommitRef c).finishWork c.work r) s1) r
        | none =>
          let (s1, n) := s.newWork
          let mark : Commit := { layer := 0, desc := { w0 := 0, w1 := 0, w2 := 0, w3 := 0, w4 := 0 }, work := n, inst := w.inst, slice := w.slice, applied := true, creates := false }
          .silent (s1.updFrond f (fun fr => { fr with staged := rest fr, commits := fr.commits ++ cs ++ [mark] })) (.work n),
    ask := noAsk }

/-- FROND_APPLY. -/
def execFrondApply (port : Port) (s : State) : Host.Outcome State Fault Refusal := s.ends (cmdFrondApply.exec port s)

/-! ## Coefficients and tone -/

/-- Host bytes a command's form looks at. -/
def State.peek (s : State) (w : Who) (addr n : Nat) : List Byte :=
  match (s.hostRead w addr n).2 with
  | .ok bs => bs
  | .error _ => []

/-- A coefficient set whose entries are sign-extended (R242). -/
def coefOk (bs : List Byte) : Bool :=
  (List.range 896).all (fun i => let e := tone16 bs (2 * i); fld e 15 12 == (if bitOf e 11 then 15 else 0))

/-- Loads a pending bank; an earlier load of it completes as replaced (R243). -/
def State.load (s : State) (old : Option (List Byte × Nat × Nat)) (put : Option (List Byte × Nat × Nat) → State → State) (bs : List Byte) : Verdict :=
  let s0 := match old with
    | some (_, n, _) => s.finishWork n (Rsp.ok 0 1 0)
    | none => s
  let (s1, n) := s0.newWork
  .silent (put (some (bs, n, s.core.now)) s1) (.work n)

/-- UNIT is a layer in slot 0 to 3. -/
def atScaler (s : State) (w : Who) (p : Packet) : Bool := atLayer s w p && decide (uSub (pkUnit p) < 4)

/-- SCALER_COEF_LOAD (R242). -/
def cmdScalerCoefLoad : Cmd :=
  { opcode := 0x0304, forms := .both, secure := false, always := false,
    form := fun s w p => pkLen p 2 && decide (pkW p 1 ≤ 1) && (bitOf (pkW p 1) 0 || (multOf 64 (pkW p 0) && coefOk (s.peek w (pkW p 0) 1792))), qform := bufForm,
    unitOk := atScaler, may := layerOwner, active := ownActive, check := noCheck,
    run := fun s w p =>
      let key := subKey (pkUnit p)
      let old := (Tbl.find s.frd.layers key).bind (fun l => l.coef.pending)
      let put (b : Option (List Byte × Nat × Nat)) (t : State) : State := t.updLayer key (fun l => { l with coef := { l.coef with pending := b } })
      if bitOf (pkW p 1) 0 then s.load old put defaultCoef
      else
        match s.hostRead w (pkW p 0) 1792 with
        | (s1, .error e) => let r := s1.dataFault w e false; .done r.1 r.2
        | (s1, .ok bs) => s1.load old put bs,
    ask := fun s w p =>
      let bs := (s.layer (pkUnit p)).elim [] (fun l => l.coef.now)
      let n := min bs.length (pkW p 1)
      s.answer w (pkW p 0) (bs.take n) (Rsp.ok n bs.length 0) }

/-- SCALER_COEF_LOAD. -/
def execScalerCoefLoad (port : Port) (s : State) : Host.Outcome State Fault Refusal := s.ends (cmdScalerCoefLoad.exec port s)

/-- Bytes of a tone set (Table 6.5). -/
def toneBytes : Nat := 0x3100 + 39304

/-- A tone set is well-formed (R251, R252, Table 6.5). -/
def toneOk (bs : List Byte) (headerOnly : Bool) : Bool :=
  let hd := tone32 bs 0
  let zero (o n : Nat) : Bool := ((bs.drop o).take n).all (· == 0)
  fld hd 7 5 == 0 && fld hd 31 16 == 0 && decide (fld hd 11 8 ≤ 5) && decide (fld hd 15 12 ≤ 5) && zero 0x08 56 && zero 0x70 144 &&
  (if headerOnly then (!bitOf hd 1 || fld hd 11 8 != 0) && (!bitOf hd 3 || fld hd 15 12 != 0) && !bitOf hd 2
   else (List.range 3072).all (fun i => decide (tone16 bs (0x1900 + 2 * i) < 4096)) && (List.range 4913).all (fun i => tone16 bs (0x3100 + 8 * i + 6) == 0))

/-- T_EN of a tone set. -/
def toneUsesT (bs : List Byte) : Bool := bitOf (tone32 bs 0) 2

/-- Curves of a preset as the query form reads them back (R252). -/
def presetCurves (out : Bool) (pre : Nat) (own : List Byte) : List Byte :=
  if pre = 0 then own
  else (List.range 3).flatMap (fun ch => (List.range 1024).flatMap (fun i => le 2 (Config.toneRom out pre ch i)))

/-- The set in force as the query form returns it, presets included. -/
def toneReadback (bs : List Byte) : List Byte :=
  let t := fit toneBytes bs
  let hd := tone32 t 0
  t.take 0x100 ++ presetCurves false (fld hd 11 8) ((t.drop 0x100).take 6144) ++ presetCurves true (fld hd 15 12) ((t.drop 0x1900).take 6144) ++ t.drop 0x3100

/-- The tone bank of a layer or output. -/
def State.toneBank (s : State) (u : Nat) : Option Bank :=
  if uCls u = 0x22 then (s.out (uIdx u)).map Outp.tone else (s.layer u).map Layer.tone

/-- Writes the pending tone bank of a layer or output. -/
def State.putTone (u : Nat) (b : Option (List Byte × Nat × Nat)) (s : State) : State :=
  if uCls u = 0x22 then s.updOut (uIdx u) (fun o => { o with tone := { o.tone with pending := b } })
  else s.updLayer (subKey u) (fun l => { l with tone := { l.tone with pending := b } })

/-- Layers of a frond other than one slot that use the 3D table (R253). -/
def State.tableLayers (s : State) (f slot : Nat) : Nat :=
  ((s.layersOf f).filter (fun e => e.1 != slot && (toneUsesT e.2.tone.now || (e.2.tone.pending.elim false (fun b => toneUsesT b.1))))).length

/-- A lease the SEC holds on a unit (R505). -/
def State.leased (s : State) (u : Nat) : Bool := Tbl.at s.sec.leases false (uKey u)

/-- The bytes TONE_LOAD reads. -/
def toneLen (p : Packet) : Nat := if bitOf (pkW p 1) 0 then 256 else toneBytes

/-- TONE_LOAD (R251). -/
def cmdToneLoad : Cmd :=
  { opcode := 0x0305, forms := .both, secure := false, always := false,
    form := fun s w p => pkLen p 2 && decide (pkW p 1 ≤ 1) && multOf 256 (pkW p 0) && toneOk (s.peek w (pkW p 0) (toneLen p)) (bitOf (pkW p 1) 0), qform := bufForm,
    unitOk := fun s w p => pkIs p 0x22 || atLayer s w p, may := fun s w p => if uCls (pkUnit p) = 0x22 then pfOnly s w p else layerOwner s w p, active := ownActive,
    check := fun s w p =>
      if uCls (pkUnit p) = 0x21 && toneUsesT (s.peek w (pkW p 0) (toneLen p)) && decide (4 ≤ s.tableLayers (uIdx (pkUnit p)) (uSub (pkUnit p))) then some (Rsp.code .refusedShare 0x13) else none,
    run := fun s w p =>
      let u := pkUnit p
      if uCls u = 0x22 && s.regulated && s.leased u && (s.out (uIdx u)).elim false (fun o => (s.layersOf o.frond).any (fun e => e.2.desc.band == 0)) then
        .delayed s (Rsp.plain .deferredSecureLease) (.lease (uKey u)) false
      else
        match s.hostRead w (pkW p 0) (toneLen p) with
        | (s1, .error e) => let r := s1.dataFault w e false; .done r.1 r.2
        | (s1, .ok bs) => s1.load ((s.toneBank u).bind Bank.pending) (State.putTone u) bs,
    ask := fun s w p =>
      let bs := toneReadback ((s.toneBank (pkUnit p)).elim [] Bank.now)
      let n := min bs.length (pkW p 1)
      s.answer w (pkW p 0) (bs.take n) (Rsp.ok n bs.length 0) }

/-- TONE_LOAD. -/
def execToneLoad (port : Port) (s : State) : Host.Outcome State Fault Refusal := s.ends (cmdToneLoad.exec port s)

/-! ## FROND_SET -/

/-- The words of FROND_SET in force. -/
def Frond.words (fr : Frond) : List Word64 :=
  [BitVec.ofNat 64 (fr.entA + fr.entB * 2 ^ 16 + fr.bands * 2 ^ 32 + b2n fr.fullMirror * 2 ^ 36 + b2n fr.enable * 2 ^ 37), BitVec.ofNat 64 (fr.offset + fr.bg * 2 ^ 32)]

/-- FROND_SET (R228, R213). -/
def cmdFrondSet : Cmd :=
  { opcode := 0x0306, forms := .both, secure := false, always := false,
    form := fun _ _ p => pkLen p 2 && pkF p 0 15 11 == 0 && pkF p 0 31 27 == 0 && pkF p 0 63 38 == 0 && decide (pkF p 0 10 0 ≤ 1024) && decide (pkF p 0 26 16 ≤ 1024) &&
      pkF p 1 31 13 == 0 && pkF p 1 63 62 == 0 && decide (100 ≤ pkF p 1 12 0) && decide (pkF p 1 12 0 ≤ 8000),
    qform := bufForm, unitOk := fun _ _ p => pkIs p 0x20, may := pfOnly, active := ownActive,
    check := fun s _ p =>
      let f := uIdx (pkUnit p)
      let old (g : Nat) : Nat := (s.frond f).elim 0 (fun fr => if g = 0 then fr.entA else fr.entB)
      match slotRows (s.frondEntries 0 - old 0 + pkF p 0 10 0) (s.frondEntries 1 - old 1 + pkF p 0 26 16) s.core.shares with
      | some row => some (Rsp.code .refusedShare row)
      | none =>
        match s.outOf f with
        | some (_, out) => if s.fitsBudget f out (pkF p 0 10 0) (pkF p 0 26 16) 255 none then none else some (Rsp.code .refusedShare 0x14)
        | none => none,
    run := fun s _ p =>
      let s1 := s.updFrond (uIdx (pkUnit p)) (fun fr =>
        { fr with entA := pkF p 0 10 0, entB := pkF p 0 26 16, bands := pkF p 0 35 32, fullMirror := bitOf (pkW p 0) 36, enable := bitOf (pkW p 0) 37, offset := pkF p 1 12 0, bg := pkF p 1 61 32 })
      .done s1.rebuildSlots (Rsp.plain .served),
    ask := fun s w p => s.answerWords w p ((s.frond (uIdx (pkUnit p))).elim [] Frond.words) }

/-- FROND_SET. -/
def execFrondSet (port : Port) (s : State) : Host.Outcome State Fault Refusal := s.ends (cmdFrondSet.exec port s)

/-! ## Group layers -/

/-- UNIT is an existing group layer. -/
def atGlayer (s : State) (_ : Who) (p : Packet) : Bool := pkIs p 0xF2 && (s.glayer (pkUnit p)).isSome

/-- Owner of the group layer. -/
def glayerOwner (s : State) (w : Who) (p : Packet) : Bool := (s.glayer (pkUnit p)).elim false (fun g => w.is g.owner)

/-- The intermediates GROUP_LAYER_SET names. -/
def glInter (p : Packet) : List Nat := [pkF p 1 31 0, pkF p 2 31 0, pkF p 3 31 0].filter (· != 0)

/-- Formats an intermediate may have (R254). -/
def interFormat (f : Nat) : Bool := f == 0x01 || f == 0x02 || f == 0x04

/-- GROUP_LAYER_SET (R254). -/
def cmdGroupLayerSet : Cmd :=
  { opcode := 0x0307, forms := .both, secure := false, always := false,
    form := fun s w p => pkLen p 4 && fld (pkW p 0) 63 32 == 0 && (let wd := pkF p 0 15 0; let h := pkF p 0 31 16; decide (1 ≤ wd) && decide (wd ≤ 4096) && decide (1 ≤ h) && decide (h ≤ 4096) &&
      fld (pkW p 1) 63 32 == 0 && fld (pkW p 2) 63 32 == 0 && fld (pkW p 3) 63 32 == 0 && decide (2 ≤ (glInter p).length) && (glInter p).Nodup &&
      (glInter p).all (fun u => (s.surf u).elim false (fun sf => sf.owner == w.inst && interFormat sf.format && decide (wd ≤ sf.width) && decide (h ≤ sf.height)))),
    qform := bufForm, unitOk := fun s w p => if pkQuery p then atGlayer s w p else pkIs p 0xF2,
    may := fun s w p => !w.secure && (s.glayer (pkUnit p)).elim true (fun g => w.is g.owner), active := fun _ _ => true, check := noCheck,
    run := fun s w p =>
      let i := uIdx (pkUnit p)
      let old := Tbl.find s.frd.glayers i
      let g : GLayer := { owner := w.inst, width := pkF p 0 15 0, height := pkF p 0 31 16, inter := glInter p, members := old.elim [] GLayer.members,
                          done := (old.elim 0 GLayer.done), doneSize := 0 }
      .done { s with frd := { s.frd with glayers := Tbl.put s.frd.glayers i { g with done := (if g.inter.contains g.done then g.done else 0) } } } (Rsp.plain .served),
    ask := fun s w p => s.answerWords w p ((s.glayer (pkUnit p)).elim [] (fun g => [g.width + g.height * 65536, g.inter.getD 0 0, g.inter.getD 1 0, g.inter.getD 2 0].map (BitVec.ofNat 64))) }

/-- GROUP_LAYER_SET. -/
def execGroupLayerSet (port : Port) (s : State) : Host.Outcome State Fault Refusal := s.ends (cmdGroupLayerSet.exec port s)

/-- The member of an entry. -/
def memberUnit (ws : List Nat) : Nat := fld (ws.getD 0 0) 31 0

/-- True where a group layer contains another, through members, within a depth. -/
def State.glContains (s : State) : Nat → Nat → Nat → Bool
  | 0, _, _ => false
  | f + 1, i, j => i == j || ((Tbl.find s.frd.glayers i).elim false (fun g => g.members.any (fun e => uCls (memberUnit e.2) == 0xF2 && State.glContains s f (uIdx (memberUnit e.2)) j)))

/-- The form of GROUP_LAYER_MEMBER's set form (R255). -/
def memberForm (s : State) (_ : Who) (p : Packet) : Bool :=
  let u := pkF p 0 31 0
  let (x, y, w, h) := rectOf (pkW p 1)
  pkLen p 4 && pkF p 0 63 43 == 0 && pkF p 2 63 48 == 0 && fld (pkW p 3) 63 10 == 0 &&
  (u == 0 || (uCls u == 0x11 && (s.surf u).elim false (fun sf => !isYcc sf.format && decide (1 ≤ w) && decide (1 ≤ h) && decide (x + w ≤ sf.width) && decide (y + h ≤ sf.height))) ||
    (uCls u == 0xF2 && (s.glayer u).elim false (fun g => decide (1 ≤ w) && decide (1 ≤ h) && decide (x + w ≤ g.width) && decide (y + h ≤ g.height))))

/-- GROUP_LAYER_MEMBER (R255). -/
def cmdGroupLayerMember : Cmd :=
  { opcode := 0x0308, forms := .both, secure := false, always := false, form := memberForm, qform := bufForm, unitOk := atGlayer,
    may := fun s w p => glayerOwner s w p && (pkQuery p || s.mayShow w (pkF p 0 31 0)), active := fun _ _ => true,
    check := fun s _ p =>
      let u := pkF p 0 31 0
      if uCls u = 0xF2 && s.glContains (s.frd.glayers.length + 1) (uIdx u) (uIdx (pkUnit p)) then some (Rsp.plain .rejectedCycle) else none,
    run := fun s _ p =>
      let k := pkF p 0 41 32
      let put (g : GLayer) : GLayer := { g with members := (if pkF p 0 31 0 = 0 then Tbl.del g.members k else Tbl.put g.members k [pkW p 0, pkW p 1, pkW p 2, pkW p 3]) }
      .done { s with frd := { s.frd with glayers := Tbl.upd s.frd.glayers (uIdx (pkUnit p)) put } } (Rsp.plain .served),
    ask := fun s w p => s.answerWords w p ((s.glayer (pkUnit p)).elim [] (fun g => (g.members.flatMap Prod.snd).map (BitVec.ofNat 64))) }

/-- GROUP_LAYER_MEMBER. -/
def execGroupLayerMember (port : Port) (s : State) : Host.Outcome State Fault Refusal := s.ends (cmdGroupLayerMember.exec port s)

/-- Member pixels inside the intermediate (R258). -/
def memberArea (g : GLayer) (ws : List Nat) : Nat :=
  let (_, _, w, h) := rectOf (ws.getD 1 0)
  let x := sxt 16 (ws.getD 2 0)
  let y := sxt 16 (ws.getD 2 0 >>> 16)
  let r := clip (x, y, x + w, y + h) (0, 0, g.width, g.height)
  if rectEmpty r then 0 else ((r.2.2.1 - r.1) * (r.2.2.2 - r.2.1)).toNat

/-- The cost of a pass in floor-µs (R258). -/
def GLayer.cost (g : GLayer) : Nat :=
  let px := (g.members.map (fun e => memberArea g e.2)).foldl (· + ·) 0
  ceilDiv (7 * (g.width * g.height + px)) 10000 + 2 * g.members.length

/-- Layers that show a group layer: keys. -/
def State.showing (s : State) (u : Nat) : List Nat := Tbl.keys (Tbl.keep s.frd.layers (fun _ l => uKey l.desc.source == uKey u))

/-- The band a pass is admitted by: the highest of the showing layers; C where none shows it (log entry 21). -/
def State.glBand (s : State) (u : Nat) : Nat :=
  let bs := (s.showing u).filterMap (fun k => (Tbl.find s.frd.layers k).map (fun l => l.desc.band))
  if bs.isEmpty then 2 else bs.foldl min 3

/-- An intermediate that holds no reference (R256). -/
def State.freeInter (s : State) (g : GLayer) : Option Nat := g.inter.find? (fun u => (s.surf u).elim false (fun sf => !sf.locked && !sf.releasing))

/-- A member surface is under a write reference of other work (R204). -/
def State.memberBusy (s : State) (g : GLayer) : Bool := g.members.any (fun e => (s.surf (memberUnit e.2)).elim false Surf.written)

/-- Takes the references of a pass. -/
def State.passRefs (s : State) (g : GLayer) (inter n : Nat) : State :=
  let s1 := s.takeRef (uNum inter) true (.work n)
  g.members.foldl (fun t e =>
    let u := memberUnit e.2
    let v := if uCls u = 0xF2 then (t.glayer u).elim 0 GLayer.done else u
    if (t.surf v).isSome then t.takeRef (uNum v) false (.work n) else t) s1

/-- The member group layers of a cascade, depth first, inner ones before outer ones (R257). -/
def State.nestedOf (s : State) : Nat → Nat → List Nat
  | 0, _ => []
  | f + 1, i =>
    (Tbl.find s.frd.glayers i).elim [] (fun g => (g.members.flatMap (fun e =>
      if uCls (memberUnit e.2) = 0xF2 then State.nestedOf s f (uIdx (memberUnit e.2)) ++ [uIdx (memberUnit e.2)] else [])).eraseDups)

/-- GROUP_LAYER_COMPOSE (R256 to R258). -/
def cmdGroupLayerCompose : Cmd :=
  { opcode := 0x0309, forms := .setOnly, secure := false, always := false, form := fun _ _ p => pkLen p 1 && decide (pkW p 0 ≤ 1), qform := bufForm, unitOk := atGlayer, may := glayerOwner, active := fun s p => s.isActive (uid 0x24 0 0) && s.isActive (pkUnit p),
    check := fun s _ p =>
      (s.glayer (pkUnit p)).bind (fun g => if (s.core.share g.owner).elim 0 Share.pcmUs < g.cost then some (Rsp.code .refusedShare 0x15) else none),
    run := fun s w p =>
      let u := uKey (pkUnit p)
      match s.glayer u with
      | none => .done s (Rsp.plain .rejectedUnit)
      | some g =>
        if s.memberBusy g then .delayed s (Rsp.plain .delayedUnitBusy) (.unit u) false
        else
          match s.freeInter g with
          | none => .delayed s (Rsp.plain .delayedUnitBusy) (.unit u) false
          | some inter =>
            if s.lockFull (uNum inter) then .delayed s.countLockWait (Rsp.plain .delayedUnitBusy) (.unit inter) false
            else
              let band := s.glBand u
              if !s.engineFits 1 g.owner band g.cost then s.shareWait 1 band
              else
                let (s1, n) := (s.charge 1 g.owner band g.cost).newWork
                let all := if bitOf (pkW p 0) 0 then s.nestedOf (s.frd.glayers.length + 1) (uIdx u) else []
                let ok := all.foldl (fun (acc : State × List Nat) i =>
                  match Tbl.find acc.1.frd.glayers i with
                  | some h => if acc.1.engineFits 1 h.owner band h.cost && !acc.1.memberBusy h && (acc.1.freeInter h).isSome then (acc.1.charge 1 h.owner band h.cost, acc.2 ++ [i]) else acc
                  | none => acc) (s1, [])
                let pass : Pass := { work := n, gl := uIdx u, inter := inter, who := w, skipped := all.length - ok.2.length, nested := ok.2, outer := 0 }
                let s2 := ok.1.passRefs g inter n
                .silent { s2 with frd := { s2.frd with passes := s2.frd.passes ++ [pass] } } (.work n),
    ask := noAsk }

/-- GROUP_LAYER_COMPOSE. -/
def execGroupLayerCompose (port : Port) (s : State) : Host.Outcome State Fault Refusal := s.ends (cmdGroupLayerCompose.exec port s)

/-- A member's pixel in the intermediate, premultiplied (R255, R256). -/
def State.memberPx (s : State) (ws : List Nat) (x y : Nat) : Option Px :=
  let u := memberUnit ws
  let v := if uCls u = 0xF2 then (s.glayer u).elim 0 GLayer.done else u
  let (sx, sy, w, h) := rectOf (ws.getD 1 0)
  let ox := sxt 16 (ws.getD 2 0)
  let oy := sxt 16 (ws.getD 2 0 >>> 16)
  if inRect (ox, oy, ox + w, oy + h) x y then
    (s.surf v).map (fun sf =>
      let src : Src := { shape := sf.shape, palette := sf.palette, const := 2 ^ 36 - 1, x := sx, y := sy, w := w, h := h }
      let p := srcPx src (s.elem sf) (sx + ((x : Int) - ox).toNat) (sy + ((y : Int) - oy).toNat)
      if (bitOf (ws.getD 0 0) 42 || uCls u == 0xF2) && sf.format != 0x08 then p else premul p)
  else none

/-- A pixel of a compose pass (R256 steps 2 and 3). -/
def State.passPx (s : State) (g : GLayer) (x y : Nat) : Px :=
  (g.members.mergeSort (fun a b => decide (fld (a.2.getD 2 0) 47 32 * 1024 + a.1 ≤ fld (b.2.getD 2 0) 47 32 * 1024 + b.1))).foldl
    (fun d e => match s.memberPx e.2 x y with | some p => blend d p (fld (e.2.getD 3 0) 9 0) | none => d) ⟨0, 0, 0, 0⟩

/-- Places an intermediate in the queue of every showing layer (R256 step 5). -/
def State.postInter (s : State) (u inter : Nat) (w : Who) : State :=
  (s.showing u).foldl (fun t key =>
    match Tbl.find t.frd.layers key with
    | none => t
    | some l =>
      let t1 := if 4 ≤ l.posts.length then
          (match l.posts with
            | q :: qs => (t.updLayer key (fun l => { l with posts := qs })).finishWork q.work (Rsp.ok 0 1 0)
            | [] => t)
        else t
      (t1.addPost key inter w.inst w.slice true none).1) s

/-- Stores one group layer's pass into an intermediate and posts it. -/
def State.storePass (s : State) (i inter : Nat) (w : Who) : State :=
  match Tbl.find s.frd.glayers i, s.surf inter with
  | some g, some sf =>
    let s1 := s.putRect (uNum inter) 9 (some w.inst) w.slice 0 0 0 g.width g.height (fun x y => storePx sf.format (s.passPx g x y))
    let s2 := { s1 with frd := { s1.frd with glayers := Tbl.upd s1.frd.glayers i (fun x => { x with done := inter }), pcmPasses := satInc s1.frd.pcmPasses } }
    s2.postInter (uid 0xF2 i 0) inter w
  | _, _ => s

/-- TBC errors that a pass meets in its members: counted in PCM_TBC_ERR and recorded (R198). -/
def State.passErrors (s : State) (g : GLayer) : State :=
  g.members.foldl (fun t e =>
    match t.surf (memberUnit e.2) with
    | some sf =>
      let (x, y, w, h) := rectOf (e.2.getD 1 0)
      let offs := t.tbcErrors sf 0 x y w h
      let t1 := t.tbcRecords (uNum (memberUnit e.2)) 0 offs
      { t1 with frd := { t1.frd with pcmTbcErr := satAdd t1.frd.pcmTbcErr offs.length } }
    | none => t) s

/-- GROUP_LAYER_PASS_DONE (R256, R257): the next nested pass of a cascade, or the outer pass, is stored. -/
def execGroupLayerPassDone (work : Nat) (s : State) : Host.Outcome State Fault Refusal :=
  s.ends (match s.frd.passes.find? (fun p => p.work == work) with
    | none => s
    | some ps =>
      match ps.nested with
      | i :: is =>
        let s1 := { s with frd := { s.frd with passes := s.frd.passes.map (fun q => if q.work = work then { q with nested := is } else q) } }
        (match (Tbl.find s1.frd.glayers i).bind (fun g => (s1.freeInter g).map (fun u => (g, u))) with
          | some (g, u) => (s1.passErrors g).storePass i u ps.who
          | none => s1)
      | [] =>
        let s1 := { s with frd := { s.frd with passes := s.frd.passes.filter (fun q => q.work != work) } }
        let bad := (Tbl.find s1.frd.glayers ps.gl).bind (fun g => g.members.findSome? (fun e => (s1.surf (memberUnit e.2)).bind (fun sf => if (s1.readBase sf).isNone then some sf.home else none)))
        match bad, Tbl.find s1.frd.glayers ps.gl with
        | some g, _ => (s1.dropWork work).finishWork work (Rsp.code .failedMemory g)
        | none, some g => (((s1.passErrors g).storePass ps.gl ps.inter ps.who).dropWork work).finishLate work (s.glBand (uid 0xF2 ps.gl 0)) (Rsp.ok 0 ps.skipped 0)
        | none, none => (s1.dropWork work).finishWork work (Rsp.plain .failedUnitReset))

end Sys2Proof.Machine
end

