-- ==== Sys2Proof/Machine/Journal.lean ====
section
/-! DEFINITION. The journal commands and events of chapter 2: tail, sync, export, status, flush, durability, seals, recovery (R81 to R104, R637, R642). -/

namespace Sys2Proof.Machine

/-- UNIT is the journal (Table 2.12). -/
def atJournal (_ : State) (_ : Who) (p : Packet) : Bool := pkIs p 0x81

/-- The instance may issue the export commands (Table 2.12). -/
def mayExport (s : State) (w : Who) (_ : Packet) : Bool := !w.secure && (w.inst == 0 || (Tbl.find s.core.shares w.inst).elim false Share.exportOk)

/-- FLAGS of a JOURNAL_TAIL entry (Table 2.13). -/
def tailFlags (sl : Slice) : Nat := b2n (sl.st == .halted) + b2n (sl.ver != 0) * 2 + b2n sl.cmpStall * 4

/-- A JOURNAL_TAIL entry (Table 2.13). -/
def tailEntry (c : Core) (key : Nat) (sl : Slice) : List Byte :=
  le 1 (key / 256) ++ le 1 key ++ le 2 (c.genOf (sliceUnit (key / 256) (key % 256))).toNat ++ le 4 sl.lastAccepted ++ le 4 sl.lastCompleted ++ le 4 sl.outstanding
    ++ le 8 sl.lastJseq ++ le 1 (tailFlags sl) ++ List.replicate 7 0

/-- JOURNAL_TAIL (R103): entries of the slices that exist of the named instance, or of all, as many as fit. -/
def askTail (s : State) (w : Who) (p : Packet) : State × Rsp :=
  let es := (Tbl.keep s.core.slices (fun k _ => bitOf (pkW p 0) 8 || k / 256 == pkF p 0 5 0)).map (fun e => tailEntry s.core e.1 e.2)
  let n := min es.length (pkW p 2 / 32)
  s.answer w (pkW p 1) (es.take n).flatten (Rsp.ok n es.length 0)

/-- The query part shared by the journal's queries. -/
def journalQuery (op : Nat) (form : State → Who → Packet → Bool) (may : State → Who → Packet → Bool) (ask : State → Who → Packet → State × Rsp) : Cmd :=
  { opcode := op, forms := .queryOnly, secure := false, always := false, form := form, qform := form, unitOk := atJournal, may := may, active := ownActive, check := noCheck, run := noRun, ask := ask }

/-- JOURNAL_TAIL (R103). -/
def cmdJournalTail : Cmd :=
  journalQuery 0x0D00 (fun _ _ p => pkLen p 3 && fld (pkW p 0) 63 9 == 0 && pkF p 0 7 6 == 0)
    (fun _ w p => w.is 0 || (!w.secure && !bitOf (pkW p 0) 8 && pkF p 0 5 0 == w.inst)) askTail

/-- JOURNAL_STATUS (R101). -/
def cmdJournalStatus : Cmd :=
  journalQuery 0x0D06 (fun _ _ p => pkLen p 0) anyone
    (fun s _ _ => (s, Rsp.ok (s.core.jrn.st.code + b2n s.core.jrn.regulated * 16) s.core.jrn.fill s.core.jrn.durable))

/-- JOURNAL_SYNC (R100): served once its own record is durable; the results are taken then. -/
def cmdJournalSync : Cmd :=
  { opcode := 0x0D01, forms := .setOnly, secure := false, always := true, form := fun _ _ p => pkLen p 0, qform := bufForm, unitOk := atJournal, may := anyone,
    active := ownActive, check := noCheck, run := noRun, ask := noAsk }

/-- The seals of the journal that are durable. -/
def Jrn.seals (j : Jrn) : List Seal := j.part.filterMap (fun i => match i with | .seal s => some s | .record _ => none)

/-- The oldest record still held in the partition. -/
def Jrn.oldest (j : Jrn) : Nat := (j.part.head?.map JItem.jseq).getD j.nextJseq

/-- The newest durable sealed record still held. -/
def Jrn.newestSealed (j : Jrn) : Nat := (j.seals.getLast?.map Seal.jseq).getD 0

/-- The partition still holds a record. -/
def Jrn.holds (j : Jrn) (jseq : Nat) : Bool := j.part.any (fun i => match i with | .record r => r.jseq == jseq | .seal _ => false)

/-- The first and last sequences an export takes: none where R101 rejects. -/
def Jrn.exportRange (j : Jrn) (w0 w1 : Nat) : Option (Nat × Nat) :=
  let last := if w1 = 0 then j.newestSealed else w1
  if j.seals.any (fun s => s.jseq == last) && j.holds last && decide (w0 ≤ last) then
    some (max (if w0 = 0 then j.exported + 1 else w0) j.oldest, last)
  else none

/-- JOURNAL_EXPORT_BEGIN (R101). -/
def cmdJournalExportBegin : Cmd :=
  { opcode := 0x0D02, forms := .setOnly, secure := false, always := false, form := fun s _ p => pkLen p 2 && (s.core.jrn.exportRange (pkW p 0) (pkW p 1)).isSome, qform := bufForm,
    unitOk := atJournal, may := mayExport, active := ownActive, check := noCheck,
    run := fun s _ p =>
      match s.core.jrn.exportRange (pkW p 0) (pkW p 1) with
      | none => .done s (Rsp.plain .rejectedMalformed)
      | some (a, b) =>
        let id := s.core.jrn.exports + 1
        .done (s.mapCore (fun k => { k with jrn := { k.jrn with exports := id, openExport := some { id := id, first := a, last := b } } })) (Rsp.ok id (a % 2 ^ 32) (a / 2 ^ 32)),
    ask := noAsk }

/-- The export stream (R101): records and seal blocks in journal order. -/
def Jrn.stream (j : Jrn) (e : Export) : List Byte :=
  (j.part.filter (fun i => decide (e.first ≤ i.jseq) && decide (i.jseq ≤ e.last))).flatMap JItem.toBytes

/-- JOURNAL_EXPORT_READ (R101). -/
def cmdJournalExportRead : Cmd :=
  journalQuery 0x0D03 (fun s _ p => pkLen p 4 && s.core.jrn.openExport.elim false (fun e => e.id == pkF p 0 31 0)) mayExport
    (fun s w p =>
      match s.core.jrn.openExport with
      | none => (s, Rsp.plain .rejectedMalformed)
      | some e =>
        let bs := ((s.core.jrn.stream e).drop (pkW p 1)).take (pkF p 3 31 0)
        s.answer w (pkW p 2) bs (Rsp.ok bs.length 0 0))

/-- The seal of a record that is durable. -/
def Jrn.sealOf (j : Jrn) (jseq : Nat) : Option Seal := j.seals.find? (fun s => s.jseq == jseq)

/-- The bytes an export acknowledgement signs (R102). -/
def ackBytes (serial id last : Nat) (h : List Byte) : List Byte := le 16 serial ++ le 4 id ++ le 8 last ++ fit 48 h

/-- True where the operator's signature verifies (R102). -/
def ackVerifies (s : State) (p : Packet) : Bool :=
  match s.core.jrn.openExport, s.core.jrn.sealOf (pkW p 1), Tbl.find s.sec.operatorKeys (pkF p 0 33 32) with
  | some e, some sl, some key => ecdsaVerify key (sha384 (ackBytes s.fix.serial e.id (pkW p 1) sl.h)) (pkSpan p 2 12)
  | _, _, _ => false

/-- JOURNAL_EXPORT_ACK (R102): records up to the sequence count as exported; an acknowledged export is closed (log entry 12). -/
def cmdJournalExportAck : Cmd :=
  { opcode := 0x0D04, forms := .setOnly, secure := false, always := false,
    form := fun s _ p => pkLen p 14 && fld (pkW p 0) 63 34 == 0 &&
      s.core.jrn.openExport.elim false (fun e => e.id == pkF p 0 31 0 && decide (e.first ≤ pkW p 1) && decide (pkW p 1 ≤ e.last)) && (s.core.jrn.sealOf (pkW p 1)).isSome,
    qform := bufForm, unitOk := atJournal, may := fun s w p => mayExport s w p && ackVerifies s p, active := ownActive, check := noCheck,
    run := fun s _ p =>
      let id := pkF p 0 31 0
      .done (s.mapCore (fun k =>
        let k1 : Core := { k with jrn := { k.jrn with exported := max k.jrn.exported (pkW p 1), openExport := none } }
        let k2 := k1.event 0xFE04 0 (uid 0x81 0 0) id (le 8 (pkW p 1) ++ le 1 (pkF p 0 33 32))
        k2.journalState true)) (Rsp.plain .served),
    ask := noAsk }

/-- JOURNAL_TAIL. -/
def execJournalTail (port : Port) (s : State) : Host.Outcome State Fault Refusal := s.ends (cmdJournalTail.exec port s)
/-- JOURNAL_SYNC. -/
def execJournalSync (port : Port) (s : State) : Host.Outcome State Fault Refusal := s.ends (cmdJournalSync.exec port s)
/-- JOURNAL_EXPORT_BEGIN. -/
def execJournalExportBegin (port : Port) (s : State) : Host.Outcome State Fault Refusal := s.ends (cmdJournalExportBegin.exec port s)
/-- JOURNAL_EXPORT_READ. -/
def execJournalExportRead (port : Port) (s : State) : Host.Outcome State Fault Refusal := s.ends (cmdJournalExportRead.exec port s)
/-- JOURNAL_EXPORT_ACK. -/
def execJournalExportAck (port : Port) (s : State) : Host.Outcome State Fault Refusal := s.ends (cmdJournalExportAck.exec port s)
/-- JOURNAL_STATUS. -/
def execJournalStatus (port : Port) (s : State) : Host.Outcome State Fault Refusal := s.ends (cmdJournalStatus.exec port s)

/-! ## Flush, durability, seals, recovery -/

/-- The unexported items of a list. -/
def Jrn.isUnexported (j : Jrn) (i : JItem) : Bool := decide (j.exported < i.jseq)

/-- An item of the open export (R101). -/
def Jrn.isOpen (j : Jrn) (i : JItem) : Bool := j.openExport.elim false (fun e => decide (e.first ≤ i.jseq) && decide (i.jseq ≤ e.last))

/-- Frees the oldest erase block's worth of items until a number of bytes fits, at most f times; a block that held unexported records journals JOURNAL_WRAP (R99, R642). The records of the open export stay (R101). -/
def Core.makeSpace : Nat → Core → Nat → Core
  | 0, c, _ => c
  | f + 1, c, need =>
    let j := c.jrn
    if itemsBytes j.part + need ≤ j.capacity then c
    else
      let n := max 1 (j.blockBytes / 64)
      let old := j.part.take n
      let lost := (old.filter (fun i => j.isUnexported i && (match i with | .record _ => true | .seal _ => false))).length
      if old.isEmpty || (j.regulated && decide (0 < lost)) || old.any j.isOpen then c
      else
        let c1 : Core := { c with jrn := { j with part := j.part.drop n } }
        Core.makeSpace f (if lost = 0 then c1 else c1.event 0xFE06 0 (uid 0x81 0 0) lost (le 8 c1.jrn.oldest)) need

/-- PEAT_PART_ATTR of a partition permits a port class to read or write (R534, Table 16.3). -/
def State.partPermits (s : State) (part cls : Nat) (write : Bool) : Bool :=
  let a := Tbl.cnt s.peat.attrs part
  !bitOf a 29 || bitOf a (cls + (if write then 8 else 0))

/-- A denied access is counted (R534). -/
def State.partDenied (s : State) : State := { s with peat := { s.peat with rgnViol := satInc s.peat.rgnViol } }

/-- JOURNAL_FLUSH (R93): MGMT starts writing what the buffer holds, unless it is being restarted (R95), the store is not formatted, a power-fail flush runs, or no space can be freed (R101, R642). -/
def flush (s : State) : State :=
  if s.pwr.mgmtRestarting || !s.peat.formatted || s.peat.flushing || s.core.jrn.noSpace then s
  else if !s.partPermits 4 2 true then s.partDenied
  else
    s.mapCore (fun c =>
      let need := itemsBytes c.jrn.buffer + itemsBytes c.jrn.flushing
      let c1 := c.makeSpace (c.jrn.part.length + 1) need
      if c1.jrn.capacity < itemsBytes c1.jrn.part + need then c
      else { c1 with jrn := { c1.jrn with flushing := c1.jrn.flushing ++ c1.jrn.buffer, buffer := [] } })

/-- The completion of a command whose record is durable: JOURNAL_SYNC, 0x0051 in a compatibility session, reports the newest durable sequence (R61, R100). -/
def Core.durableRsp (c : Core) (o : Owed) : Rsp :=
  match o.wait with
  | .durable _ st r0 r1 r2 => if o.op = 0x0D01 ∨ o.op = 0x51 then Rsp.ok (c.jrn.durable % 2 ^ 32) (c.jrn.durable / 2 ^ 32) 0 else { st := st, r0 := r0, r1 := r1, r2 := r2 }
  | _ => Rsp.plain .served

/-- True where a command waits for a record that is durable. -/
def Core.durableDue (c : Core) (o : Owed) : Bool :=
  match o.wait with
  | .durable j _ _ _ _ => c.jrn.isDurable j
  | _ => false

/-- Writes the completions of SYNC packets whose records are durable (R61). -/
def Core.syncDone (c : Core) : Core :=
  (c.owed.filter c.durableDue).foldl (fun k o => k.complete o.who o.pk (c.durableRsp o) true true o.jseq)
    { c with owed := c.owed.filter (fun o => !c.durableDue o) }

/-- Takes what is being programmed into the partition as durable (R93): the completions of R61, and the fill's state (R96). -/
def programmed (s : State) : State :=
  s.mapCore (fun c =>
    let j := c.jrn
    let c1 : Core := { c with jrn := { j with part := j.part ++ j.flushing, flushing := [], durable := (j.flushing.foldl (fun m i => max m i.jseq) j.durable) } }
    c1.syncDone.journalState false)

/-- JOURNAL_FLUSH. -/
def execJournalFlush (s : State) : Host.Outcome State Fault Refusal := s.ends (flush s)

/-- JOURNAL_RECORD_DURABLE. -/
def execJournalRecordDurable (s : State) : Host.Outcome State Fault Refusal := s.ends (programmed s)

/-- The KEY_ID of the journal sealing key (R499). -/
def keyId (d : Nat) : List Byte := (sha384 (ecPublic d)).take 16

/-- Seals the chain after the newest record (R90, R91); the first seal after a SEC restart journals SEAL_RESUMED (R92). -/
def Core.sealNow (c : Core) (key : Nat) : Core :=
  let j := c.jrn
  let covered := j.sinceSeal
  let b : Seal := { jseq := j.nextJseq - 1, dt := c.now, h := j.chain, keyId := keyId key, sig := [] }
  let b1 := { b with sig := deviceSign key (sha384 b.body) }
  let c1 : Core := { c with jrn := { j with buffer := j.buffer ++ [.seal b1], sealed := j.nextJseq - 1, sinceSeal := 0, sealTimer := c.now, resumed := false } }
  if j.resumed then c1.event 0xFE02 0 (uid 0x81 0 0) covered [] else c1

/-- True where the SEC can seal: it runs, and the journal's chain is rebuilt. -/
def State.canSeal (s : State) : Bool := s.sec.run == .running && s.core.jrn.st != .recovering

/-- JOURNAL_SEAL (R90): due once 1,024 records followed the last seal. -/
def execJournalSeal (s : State) : Host.Outcome State Fault Refusal :=
  s.ends (if s.canSeal && decide (1024 ≤ s.core.jrn.sinceSeal) then s.mapCore (fun c => c.sealNow s.sec.sealKey) else s)

/-- SEAL_TIMER (R90): at 1 s the SEC seals if a record was added, and the timer restarts. -/
def execSealTimer (s : State) : Host.Outcome State Fault Refusal :=
  s.ends (if s.canSeal && decide (s.core.jrn.sealTimer + 10 ^ 9 ≤ s.core.now) then
      (if s.core.jrn.sinceSeal = 0 then s.mapCore (fun c => { c with jrn := { c.jrn with sealTimer := c.now } })
       else s.mapCore (fun c => c.sealNow s.sec.sealKey))
    else s)

/-- The records of a reserve area in journal order, without those already in the partition (R540). -/
def restoreItems (have' : List JItem) (items : List JItem) : List JItem := items.filter (fun i => !have'.contains i)

/-- Items put into a list in journal order (R540). -/
def mergeItems (part items : List JItem) : List JItem :=
  match items with
  | [] => part
  | i :: _ => part.takeWhile (fun x => decide (x.jseq < i.jseq)) ++ items ++ part.dropWhile (fun x => decide (x.jseq < i.jseq))

/-- The chain state over a list of records: recomputed from the last seal (R91, Table 2.11). -/
def chainFrom (start : List Byte) (items : List JItem) : List Byte :=
  items.foldl (fun h i => match i with | .record r => sha384 (h ++ r.head) | .seal s => s.h) start

/-- The next sequence after a list of items. -/
def nextAfter (items : List JItem) : Nat := items.foldl (fun m i => max m (i.jseq + 1)) 1

/-- Records since the last seal of a list. -/
def sinceLastSeal (items : List JItem) : Nat :=
  items.foldl (fun n i => match i with | .record _ => n + 1 | .seal _ => 0) 0

/-- The records among journal items. -/
def recordsIn (l : List JItem) : Nat := (l.filter (fun i => match i with | .record _ => true | .seal _ => false)).length

/-- JOURNAL_RECOVER (R540, R637): restores the reserves, rebuilds the chain, appends BOOT, POWER_FAIL, EVENTS_LOST, the waiting events and JOURNAL_STATE. -/
def recover (s : State) : State :=
  if s.core.jrn.st ≠ .recovering ∨ Tbl.at s.pwr.dom .off 11 ≠ .on ∨ s.sec.bootHalted then s
  else
    let j := s.core.jrn
    let r0 := restoreItems j.part (Tbl.at s.peat.reserve [] 0)
    let r1 := restoreItems (j.part ++ r0) (Tbl.at s.peat.reserve [] 1)
    let part := mergeItems (mergeItems j.part r0) r1
    let j1 := { j with part := part, chain := chainFrom (chainStart s.fix.serial j.formats) part, nextJseq := nextAfter part, sinceSeal := sinceLastSeal part,
                       sealed := (j.seals.getLast?.map Seal.jseq).getD 0, durable := nextAfter part - 1, reserves := [true, true], st := .active, waiting := [], resumed := false }
    let ev (k : Core) (e : JEvent) : Core := { k with jrn := k.jrn.push (eventRec k.now e) }
    let k0 : Core := { s.core with jrn := j1 }
    let k1 := ev k0 { code := 0xFE00, inst := 0, gen := 0, unit := 0, arg := s.sec.bootCount, data := (Tbl.at s.sec.meas [] 0).take 16 }
    let k2 := if (r0 ++ r1).isEmpty then k1 else ev k1 { code := 0xFEA0, inst := 0, gen := 0, unit := 0, arg := recordsIn (r0 ++ r1), data := le 8 s.peat.failTime ++ le 1 (b2n (r0.isEmpty)) ++ le 1 1 }
    let k3 : Core := { k2 with jrn := k2.jrn.pushLost k2.now }
    let k4 := j.waiting.foldl ev k3
    let st := k4.jrn.byFill
    let k5 := ev { k4 with jrn := { k4.jrn with st := st, sealTimer := k4.now, warned := k4.jrn.fill / 100 } } { code := 0xFE01, inst := 0, gen := 0, unit := uid 0x81 0 0, arg := st.code, data := le 4 k4.jrn.fill }
    let k6 := k5.notify 0x0012 0 0 (jStateData st false k5.jrn.fill)
    { s with core := k6, peat := { s.peat with reserve := [] } }

/-- JOURNAL_RECOVER. -/
def execJournalRecover (s : State) : Host.Outcome State Fault Refusal := s.ends (recover s)

end Sys2Proof.Machine
end

