-- ==== Sys2Proof/Machine/Ledger.lean ====
section
/-! DEFINITION. The freshness ledger of chapter 8: tags, refreshes, live regions, veil causes and decisions (R304 to R344), and requests for evidence captures (R541). -/

namespace Sys2Proof.Machine

/-! ## Time and expiry -/

/-- Ledger time (R305): µs of device time, 48 bits. -/
def State.ledgerNow (s : State) : Nat := s.core.now / 1000 % 2 ^ 48

/-- True where ledger time a is at or after b, modulo 2^48 (R305). -/
def atOrAfter (a b : Nat) : Bool := decide ((a + 2 ^ 48 - b % 2 ^ 48) % 2 ^ 48 < 2 ^ 47)

/-- The expiry instant of a tag (R305). -/
def Tag.expiry (t : Tag) : Nat := (t.last + 1000 * t.maxAge) % 2 ^ 48

/-- The code of a tag state (Table 8.2). -/
def TagSt.code : TagSt → Nat
  | .unbound => 0
  | .live => 1
  | .stale => 2
  | .frozen => 3
  | .retired => 4

/-- The key of a tag in the ledger: its number, or for a tag of another device its position and number (R570). -/
def State.tagKey (s : State) (u : Nat) : Nat := if uPos u = s.core.pos then uNum u else (uPos u + 1) * 2 ^ 20 + uNum u

/-- The tags a region is bound to, members of its tag group included (R320). -/
def State.boundTags (s : State) (slots : List Nat) : List Nat :=
  (slots.filter (· != 0)).flatMap (fun u =>
    if uCls u = 0x50 then [s.tagKey u] else (Tbl.find s.core.groups (uKey u)).elim [] (fun g => g.members.map s.tagKey))

/-- Live regions bound to a tag. -/
def State.regionsOf (s : State) (n : Nat) : List Nat := Tbl.keys (Tbl.keep s.led.regions (fun _ r => (s.boundTags r.slots).contains n))

/-- A region's E_r, whether it has passed because a tag is not LIVE or a bound group is empty (log entry 49), and whether a bound tag is FROZEN (R321, R172). -/
def State.calcEr (s : State) (r : LRegion) : Nat × Bool × Bool :=
  let ts := (s.boundTags r.slots).map (fun n => Tbl.find s.led.tags n)
  let passed := ts.isEmpty || ts.any (fun t => t.elim true (fun t => t.st != .live))
  let exp (t : Tag) : Nat := match r.safetyAt with
    | some l => (l + 1000 * t.maxAge) % 2 ^ 48
    | none => t.expiry
  let es := ts.filterMap (fun t => t.map exp)
  let er := es.foldl (fun b e => if atOrAfter b e then e else b) (es.headD 0)
  (er, passed, ts.any (fun t => t.elim false (fun t => t.st == .frozen)))

/-- Changes a live region. -/
def State.updRegion (s : State) (n : Nat) (f : LRegion → LRegion) : State := { s with led := { s.led with regions := Tbl.upd s.led.regions n f } }

/-- Changes a signed region. -/
def State.updSreg (s : State) (n : Nat) (f : SRegion → SRegion) : State := { s with led := { s.led with sregs := Tbl.upd s.led.sregs n f } }

/-- Changes a tag; in a wall a tag of this device sends its update (R570). -/
def State.updTag (s : State) (n : Nat) (f : Tag → Tag) : State :=
  let out := match Tbl.find s.led.tags n with
    | some t => if s.core.inWall && !t.remote then s.rhz.tagOut ++ [(n, (f t).last, (f t).maxAge, (f t).st.code)] else s.rhz.tagOut
    | none => s.rhz.tagOut
  { s with led := { s.led with tags := Tbl.upd s.led.tags n f }, rhz := { s.rhz with tagOut := out } }

/-- Sends a region's E_r to the inserters (R321): for a TIED region refreshes do not move it, but a tag that is no longer LIVE makes it pass (R322). -/
def State.sendEr (s : State) (n : Nat) : State :=
  match Tbl.find s.led.regions n with
  | none => s
  | some r =>
    let (er, passed, frozen) := s.calcEr r
    let onLayer := uCls r.place == 0x21
    let new := if r.tied && onLayer && r.safetyAt.isNone then (r.er, r.erNow || passed, if passed then frozen else r.frozenBadge) else (er, passed, frozen)
    if new = (r.er, r.erNow, r.frozenBadge) then s
    else s.updRegion n (fun r => { r with er := new.1, erNow := new.2.1, frozenBadge := new.2.2, erAt := s.core.now })

/-- A change of a region's bindings takes effect on E_r at once (R319, R326). -/
def State.bindEr (s : State) (n : Nat) : State :=
  match Tbl.find s.led.regions n with
  | none => s
  | some r =>
    let (er, passed, frozen) := s.calcEr r
    s.updRegion n (fun r => { r with er := er, erNow := passed, frozenBadge := frozen, erAt := s.core.now })

/-- E_r as a query or an event gives it: a free value where a tag that is not LIVE makes it a time that has passed and no rule says which (R321). -/
def State.shownEr (s : State) (r : LRegion) : Nat := if r.erNow && !atOrAfter s.ledgerNow r.er then s.core.free % 2 ^ 48 else r.er

/-- The E_r that a latch point gives a TIED region, for that latch point's own frame (R322). -/
def State.tieEr (s : State) (n frame : Nat) : State :=
  match Tbl.find s.led.regions n with
  | none => s
  | some r =>
    let (er, passed, frozen) := s.calcEr r
    s.updRegion n (fun r => { r with er := er, erNow := passed, frozenBadge := frozen, erAt := s.core.now, erFrame := frame + 1 })

/-- ER_UPDATE (R321): a region's new E_r reaches its inserters. -/
def execErUpdate (region : Nat) (s : State) : Host.Outcome State Fault Refusal := s.ends (s.sendEr region)

/-! ## Refreshes -/

/-- Applies one refresh to a tag (R311): what became of it. -/
def State.applyRefresh (s : State) (n stamp : Nat) (moving : Bool) : State × Bool :=
  match Tbl.find s.led.tags n with
  | none => (s, false)
  | some t =>
    let newer := t.st == .unbound || !atOrAfter t.last stamp
    let lateAt (l : Nat) : Bool := atOrAfter s.ledgerNow ((l + 1000 * t.maxAge) % 2 ^ 48 + 1)
    let last := if newer then stamp else t.last
    let s1 :=
      if t.st = .frozen ∧ !moving then s.updTag n (fun t => { t with last := last })
      else if !newer && t.st != .frozen then s
      else s.updTag n (fun t => { t with last := last, st := (if lateAt last then .stale else .live) })
    (if lateAt stamp then { s1 with led := { s1.led with refreshExpired := satInc s1.led.refreshExpired } } else s1, !lateAt stamp)

/-- A refresh by path 1 or 2 (R310): dropped and counted unless the tag takes that path from that source. -/
def State.pathRefresh (s : State) (n path source stamp : Nat) (moving : Bool) : State :=
  match Tbl.find s.led.tags n with
  | none => { s with led := { s.led with refreshDrop := satInc s.led.refreshDrop } }
  | some t =>
    if t.path = path ∧ uKey t.source = uKey source ∧ t.st ≠ .retired then (s.applyRefresh n stamp moving).1
    else { s with led := { s.led with refreshDrop := satInc s.led.refreshDrop } }

/-- Tags of a path and source. -/
def State.tagsFrom (s : State) (path source : Nat) : List Nat := Tbl.keys (Tbl.keep s.led.tags (fun _ t => t.path == path && uKey t.source == uKey source && !t.remote))

/-- STREAM_REFRESH (R310): a receiver's refresh of one tag, stamped with a ledger time. -/
def execStreamRefresh (tag receiver stamp : Nat) (moving : Bool) (s : State) : Host.Outcome State Fault Refusal :=
  s.ends (s.pathRefresh tag 1 receiver (stamp % 2 ^ 48) moving)

/-- SEQ_REFRESH (R310): the expected-value sequencer's refresh of one tag. -/
def execSeqRefresh (tag region stamp : Nat) (s : State) : Host.Outcome State Fault Refusal :=
  s.ends (s.pathRefresh tag 2 region (stamp % 2 ^ 48) false)

/-- The receiver's freeze report (R367): its tags enter FROZEN, each journaled as TAG_FROZEN. -/
def State.freezeTags (s : State) (receiver count : Nat) : State :=
  (s.tagsFrom 1 receiver).foldl (fun t n =>
    if (Tbl.find t.led.tags n).elim true (fun x => x.st != .live && x.st != .stale) then t
    else (t.updTag n (fun x => { x with st := .frozen })).mapCore (fun k => k.event 0xFE33 0 (uidN 0x50 n) (uidN 0x50 n) (le 1 receiver ++ le 1 count))) s

/-- FREEZE_REPORT (R307): taken only from a receiver that is FROZEN. -/
def execFreezeReport (receiver : Nat) (s : State) : Host.Outcome State Fault Refusal :=
  s.ends (match Tbl.find s.ing.recvs receiver with
    | some r => if r.st = 3 then s.freezeTags receiver r.run else s
    | none => s)

/-- A tag enters STALE: NOTIFY writes TAG_EXPIRED, at most 1,000 a second and instance (R309). -/
def State.expireTag (s : State) (n : Nat) : State :=
  match Tbl.find s.led.tags n with
  | none => s
  | some t =>
    let s1 := s.updTag n (fun t => { t with st := .stale })
    if !t.notify then s1
    else
      let (t0, c) := Tbl.at s1.led.notifyTimes (s.core.now, 0) t.owner
      let (t0, c) := if t0 + 10 ^ 9 ≤ s.core.now then (s.core.now, 0) else (t0, c)
      if 1000 ≤ c then { s1 with led := { s1.led with notifyLost := Tbl.inc s1.led.notifyLost t.owner } }
      else
        let s2 := { s1 with led := { s1.led with notifyTimes := Tbl.put s1.led.notifyTimes t.owner (t0, c + 1) } }
        s2.mapCore (fun k => k.faultRec t.owner 0 0x0010 t.expiry (uidN 0x50 n) (s.regionsOf n).length)

/-- LEDGER_WHEEL_TICK (R308): LIVE tags whose expiry has passed enter STALE. -/
def execLedgerWheelTick (s : State) : Host.Outcome State Fault Refusal :=
  s.ends ((Tbl.keys (Tbl.keep s.led.tags (fun _ t => t.st == .live && atOrAfter s.ledgerNow t.expiry))).foldl State.expireTag s)

/-! ## Tag commands -/

/-- Tags an instance has created and not yet returned, and mirrors it binds (R572). -/
def State.tagsOwned (s : State) (inst : Nat) : Nat := (Tbl.keep s.led.tags (fun _ t => t.owner == inst)).length

/-- The lowest run of free indices of a length (R316). -/
def freeTagRun (t : Tbl Tag) (count : Nat) : Option Nat :=
  let a := (Tbl.keys t).foldl (fun a k => if k < a + count then max a (k + 1) else a) 0
  if a + count ≤ 2 ^ 20 then some a else none

/-- Delays a command that needs the authenticated session while the SEC restarts (R343). -/
def State.secDelay (s : State) (needs : Bool) (go : Verdict) : Verdict :=
  if needs && s.sec.run == .restarting then .delayed s (Rsp.plain .delayedSecureRestart) .secRestart false else go

/-- The assigned instance of a receiver (R414). -/
def State.recvOwner (s : State) (r : Nat) : Option Nat := (Tbl.find s.ing.recvs r).bind Recv.owner

/-- TAG_CREATE (R316). -/
def cmdTagCreate : Cmd :=
  { opcode := 0x0700, forms := .setOnly, secure := false, always := false,
    form := fun s _ p =>
      let c := pkF p 0 16 0
      let path := pkF p 0 33 32
      pkLen p 3 && pkF p 0 31 17 == 0 && pkF p 0 63 35 == 0 && decide (1 ≤ c) && decide (c ≤ 65536) && path != 3 && fld (pkW p 1) 63 24 == 0 && decide (1 ≤ pkW p 1) &&
      (match path with
        | 0 => pkW p 2 == 0
        | 1 => decide (pkW p 2 < 64)
        | _ => fld (pkW p 2) 63 32 == 0 && uCls (pkW p 2) == 0x52 && Tbl.has s.led.sregs (subKey (pkW p 2))),
    qform := bufForm, unitOk := atDevice,
    may := fun s w p => !w.secure && (if pkF p 0 33 32 = 1 then s.recvOwner (pkW p 2) == some w.inst else true), active := ownActive,
    check := fun s w p =>
      if pkF p 0 33 32 = 2 && !s.authed w then some (Rsp.plain .refusedBand)
      else if (s.core.share w.inst).elim 0 Share.tagQuota < s.tagsOwned w.inst + pkF p 0 16 0 then some (Rsp.code .refusedShare 0x30)
      else if (freeTagRun s.led.tags (pkF p 0 16 0)).isNone then some (Rsp.code .refusedShare 0x31)
      else none,
    run := fun s w p => s.secDelay (pkF p 0 33 32 == 2) (
      match freeTagRun s.led.tags (pkF p 0 16 0) with
      | none => .done s (Rsp.code .refusedShare 0x31)
      | some a =>
        let t : Tag := { last := 0, maxAge := pkW p 1, st := .unbound, path := pkF p 0 33 32, source := pkW p 2, remote := false, notify := bitOf (pkW p 0) 34, owner := w.inst }
        .done { s with led := { s.led with tags := (List.range (pkF p 0 16 0)).foldl (fun m i => Tbl.put m (a + i) t) s.led.tags } } (Rsp.ok (s.core.here (uidN 0x50 a)) 0 0)),
    ask := noAsk }

/-- TAG_CREATE. -/
def execTagCreate (port : Port) (s : State) : Host.Outcome State Fault Refusal := s.ends (cmdTagCreate.exec port s)

/-- UNIT is a created tag. -/
def atTag (s : State) (_ : Who) (p : Packet) : Bool := pkIs p 0x50 && Tbl.has s.led.tags (uNum (pkUnit p))

/-- Owner of the tag. -/
def State.tagOwner (s : State) (p : Packet) : Option Nat := (Tbl.find s.led.tags (uNum (pkUnit p))).map Tag.owner

/-- The 16 bytes of a tag's entry (Table 8.1); an index without a tag reads STATE 5. The REGION_HEAD of a bound tag is free (log entry 5). -/
def State.tagEntry (s : State) (n : Nat) : List Byte :=
  match Tbl.find s.led.tags n with
  | none => List.replicate 9 0 ++ [5] ++ List.replicate 6 0
  | some t =>
    let head := if (s.regionsOf n).isEmpty then 0xFFFFF else (Config.freeValue (s.core.freeCtr + n)).toNat % 2 ^ 20
    le 6 t.last ++ le 3 t.maxAge ++ le 1 t.st.code ++ le 4 (head + t.owner * 2 ^ 20 + b2n t.notify * 2 ^ 28 + b2n t.remote * 2 ^ 29 + t.path * 2 ^ 30) ++ [0, 0]

/-- TAG_SET (R317). -/
def cmdTagSet : Cmd :=
  { opcode := 0x0701, forms := .both, secure := false, always := false,
    form := fun _ _ p => pkLen p 2 && pkW p 0 == 0 && fld (pkW p 1) 63 24 == 0 && decide (1 ≤ pkW p 1),
    qform := fun _ _ p => pkLen p 2 && decide (1 ≤ pkW p 1) && decide (pkW p 1 ≤ 4096),
    unitOk := fun s w p => if pkQuery p then pkIs p 0x50 else atTag s w p,
    may := fun s w p => if pkQuery p then w.is 0 || (!w.secure && (List.range (pkW p 1)).all (fun i => (Tbl.find s.led.tags (uNum (pkUnit p) + i)).elim true (fun t => t.owner == w.inst))) else !w.secure && s.tagOwner p == some w.inst,
    active := ownActive, check := noCheck,
    run := fun s _ p => .done (s.updTag (uNum (pkUnit p)) (fun t => { t with maxAge := pkW p 1 })) (Rsp.plain .served),
    ask := fun s w p => (s.mapCore (fun k => k.useFree 1)).answer w (pkW p 0) ((List.range (pkW p 1)).flatMap (fun i => s.tagEntry (uNum (pkUnit p) + i))) (Rsp.ok (16 * pkW p 1) (16 * pkW p 1) 0) }

/-- TAG_SET. -/
def execTagSet (port : Port) (s : State) : Host.Outcome State Fault Refusal := s.ends (cmdTagSet.exec port s)

/-- A RETIRED tag without bindings goes to NONE, and its generation moves on (R318). -/
def State.reapTag (s : State) (n : Nat) : State :=
  match Tbl.find s.led.tags n with
  | none => s
  | some t =>
    if t.remote ∧ (s.regionsOf n).isEmpty then { s with led := { s.led with tags := Tbl.del s.led.tags n } }
    else if t.st = .retired ∧ (s.regionsOf n).isEmpty then
      { s with led := { s.led with tags := Tbl.del s.led.tags n } }.mapCore (fun k => k.bump (uidN 0x50 n))
    else s

/-- TAG_RETIRE (R318). -/
def cmdTagRetire : Cmd :=
  { opcode := 0x0702, forms := .setOnly, secure := false, always := false, form := fun _ _ p => pkLen p 0, qform := bufForm, unitOk := atTag,
    may := fun s w p => !w.secure && (w.inst == 0 || s.tagOwner p == some w.inst), active := ownActive, check := noCheck,
    run := fun s _ p => .done ((s.updTag (uNum (pkUnit p)) (fun t => { t with st := .retired })).reapTag (uNum (pkUnit p))) (Rsp.plain .served), ask := noAsk }

/-- TAG_RETIRE. -/
def execTagRetire (port : Port) (s : State) : Host.Outcome State Fault Refusal := s.ends (cmdTagRetire.exec port s)

/-- An entry of REFRESH. -/
def refreshEntry (p : Packet) (i : Nat) : Nat := if i % 2 = 0 then pkF p (1 + i / 2) 31 0 else pkF p (1 + i / 2) 63 32

/-- The stamped time of a REFRESH (R313). -/
def refreshStamp (s : State) (p : Packet) : Nat :=
  let obs := pkF p 0 47 0
  if obs ≠ 0 ∧ !atOrAfter obs s.ledgerNow then obs else s.ledgerNow

/-- Applies an entry of REFRESH: the reason of Table 8.3, or 0. -/
def State.refreshOne (s : State) (w : Who) (n stamp : Nat) : State × Nat :=
  match Tbl.find s.led.tags n with
  | none => (s, 1)
  | some t =>
    if t.st = .retired then (s, 1)
    else if t.owner ≠ w.inst then (s, 2)
    else if t.path ≠ 0 then ({ s with led := { s.led with refreshDrop := satInc s.led.refreshDrop } }, 3)
    else let r := s.applyRefresh n stamp false; (r.1, if r.2 then 0 else 4)

/-- Applies the entries of REFRESH in turn: the state, how many were applied, the first that was not with its reason (Table 8.3). -/
def State.refreshEntries (s : State) (w : Who) (p : Packet) : State × Nat × Nat :=
  (List.range (pkF p 0 63 56)).foldl (fun (a : State × Nat × Nat) i =>
    let x := a.1.refreshOne w (refreshEntry p i) (refreshStamp s p)
    if x.2 = 0 then (x.1, a.2.1 + 1, a.2.2) else (x.1, a.2.1, if a.2.2 = 0 then refreshEntry p i + x.2 * 2 ^ 20 else a.2.2)) (s, 0, 0)

/-- REFRESH (R312 to R315). -/
def cmdRefresh : Cmd :=
  { opcode := 0x0703, forms := .setOnly, secure := false, always := false,
    form := fun _ _ p =>
      let c := pkF p 0 63 56
      decide (1 ≤ c) && decide (c ≤ 64) && pkF p 0 55 48 == 0 && decide (ceilDiv c 2 + 1 ≤ pkN p) && decide (pkN p ≤ 33) &&
      (List.range (2 * (pkN p - 1))).all (fun i => if i < c then fld (refreshEntry p i) 31 20 == 0 else refreshEntry p i == 0),
    qform := bufForm, unitOk := atDevice, may := fun _ w _ => !w.secure, active := ownActive, check := noCheck,
    run := fun s w p =>
      let r := s.refreshEntries w p
      let bad := pkF p 0 63 56 - r.2.1
      .done r.1 { st := if bad = 0 then .served else .servedPartial, r0 := r.2.1, r1 := bad, r2 := r.2.2 },
    ask := noAsk }

/-- REFRESH. -/
def execRefresh (port : Port) (s : State) : Host.Outcome State Fault Refusal := s.ends (cmdRefresh.exec port s)

/-- The member list of TAG_GROUP_SET as its form sees it. -/
def State.tagList (s : State) (w : Who) (p : Packet) : List Nat := elemsOf 4 (pkF p 0 10 0) (s.peek w (pkW p 1) (4 * pkF p 0 10 0))

/-- Sets the members of a tag group: its generation moves on, the E_r of the regions bound to it follow at once, RETIRED members that lose their last binding go (R318, R319). -/
def State.setTagGroup (s : State) (u owner : Nat) (members : List Nat) : State :=
  let old := ((Tbl.find s.core.groups (uKey u)).elim [] Group.members).map s.tagKey
  let s1 := s.mapCore (fun k => ({ k with groups := Tbl.put k.groups (uKey u) { owner := owner, members := members } }).bump u)
  let s2 := (Tbl.keys (Tbl.keep s1.led.regions (fun _ r => uKey (r.slots.headD 0) == uKey u))).foldl State.bindEr s1
  old.foldl State.reapTag s2

/-- TAG_GROUP_SET (R319). -/
def cmdTagGroupSet : Cmd :=
  { opcode := 0x0704, forms := .both, secure := false, always := false,
    form := fun s w p => pkLen p 2 && fld (pkW p 0) 63 11 == 0 && decide (pkF p 0 10 0 ≤ 1024) && (s.tagList w p).Nodup && (s.tagList w p).all (fun u => uCls u == 0x50 && (uPos u != s.core.pos || Tbl.has s.led.tags (uNum u))),
    qform := bufForm, unitOk := fun s _ p => isGeneral (uCls (pkUnit p)) && unitInRange (pkUnit p) && (!pkQuery p || (Tbl.find s.core.groups (uKey (pkUnit p))).isSome),
    may := fun s w p => !w.secure && (Tbl.find s.core.groups (uKey (pkUnit p))).elim true (fun g => g.owner == w.inst) && (pkQuery p || (s.tagList w p).all (fun u => (Tbl.find s.led.tags (s.tagKey u)).elim true (fun t => t.owner == w.inst))),
    active := fun _ _ => true,
    check := fun s _ p => if (Tbl.find s.core.groups (uKey (pkUnit p))).isNone && decide (16384 ≤ s.core.groups.length) then some (Rsp.code .refusedShare 0x02) else none,
    run := fun s w p =>
      match s.hostRead w (pkW p 1) (4 * pkF p 0 10 0) with
      | (s1, .error e) => let r := s1.dataFault w e false; .done r.1 r.2
      | (s1, .ok bs) =>
        let owner := (Tbl.find s.core.groups (uKey (pkUnit p))).elim w.inst Group.owner
        .done (s1.setTagGroup (pkUnit p) owner (elemsOf 4 (pkF p 0 10 0) bs)) (Rsp.plain .served),
    ask := fun s w p =>
      let ms := (Tbl.find s.core.groups (uKey (pkUnit p))).elim [] Group.members
      let n := min ms.length (pkW p 1 / 4)
      s.answer w (pkW p 0) ((ms.take n).flatMap (le 4)) (Rsp.ok n ms.length 0) }

/-- TAG_GROUP_SET. -/
def execTagGroupSet (port : Port) (s : State) : Host.Outcome State Fault Refusal := s.ends (cmdTagGroupSet.exec port s)

/-! ## Live regions -/

/-- No veil. -/
def noVeil : Veil := { causes := [], veiled := false, badge := 0, frames := 0, since := 0, decided := 0 }

/-- The eight binding slots of words 2 to 5 (R320). -/
def pkSlots (p : Packet) : List Nat := (List.range 8).map (fun i => if i % 2 = 0 then pkF p (2 + i / 2) 31 0 else pkF p (2 + i / 2) 63 32)

/-- The binding slots are well-formed: tags, or one tag group alone. -/
def slotsOk (s : State) (l : List Nat) : Bool :=
  l.any (· != 0) &&
  (if isGeneral (uCls (l.headD 0)) then (l.drop 1).all (· == 0) && (Tbl.find s.core.groups (uKey (l.headD 0))).elim false (fun g => g.members.all (fun u => uCls u == 0x50))
   else l.all (fun u => u == 0 || (uCls u == 0x50 && (uPos u != s.core.pos || Tbl.has s.led.tags (uNum u)))))

/-- A rectangle of R320: sides of 8 to 16,384. -/
def liveRectOk (w : Nat) : Bool := let (_, _, a, b) := rectOf w; decide (8 ≤ a) && decide (a ≤ 16384) && decide (8 ≤ b) && decide (b ≤ 16384)

/-- The frond that draws a place. -/
def State.frondOfPlace (s : State) (u : Nat) : Nat := if uCls u = 0x21 then uIdx u else (s.out (uIdx u)).elim (uIdx u) Outp.frond

/-- A place is a band A layer. -/
def State.placeBandA (s : State) (u : Nat) : Bool := uCls u == 0x21 && (s.layer u).elim false (fun l => l.desc.band == 0)

/-- A binding to a SEQ tag. -/
def State.seqBound (s : State) (slots : List Nat) : Bool := (s.boundTags slots).any (fun n => (Tbl.find s.led.tags n).elim false (fun t => t.path == 2))

/-- Live regions a frond draws. -/
def State.regionsOn (s : State) (f : Nat) : List Nat := Tbl.keys (Tbl.keep s.led.regions (fun _ r => s.frondOfPlace r.place == f))

/-- A region's rectangle on the output, from the descriptor now in force (R323). -/
def State.placeRect (s : State) (place rect : Nat) : Rect :=
  if uCls place = 0x21 then (s.layer place).elim (0, 0, 0, 0) (fun l => l.desc.mapRect (wordRect rect)) else wordRect rect

/-- The most regions on one line of a frond's output, with one more and without another (R325): counted at the top line of each. -/
def State.lineCrowd (s : State) (f : Nat) (r : Rect) (self : Option Nat) : Nat :=
  let rs := r :: (s.regionsOn f).filterMap (fun n => if some n = self then none else (Tbl.find s.led.regions n).bind (fun x => if x.orphan then none else some (s.placeRect x.place x.rect)))
  rs.foldl (fun m a => max m (rs.filter (fun b => decide (b.2.1 ≤ a.2.1) && decide (a.2.1 < b.2.2.2))).length) 0

/-- The refusals of R325 with RESULT0, for a place, rectangle and bindings; self is a region left out of the counts. -/
def State.regionShare (s : State) (place rect : Nat) (slots : List Nat) (self : Option Nat) : Option Rsp :=
  let f := s.frondOfPlace place
  if self.isNone && decide (65536 ≤ s.led.regions.length) then some (Rsp.code .refusedShare 0x32)
  else if decide (8192 ≤ ((s.regionsOn f).filter (fun n => some n != self)).length) then some (Rsp.code .refusedShare 0x33)
  else if decide (256 < s.lineCrowd f (s.placeRect place rect) self) then some (Rsp.code .refusedShare 0x34)
  else if (s.boundTags slots).any (fun n => decide (1024 ≤ ((s.regionsOf n).filter (fun m => some m != self)).length)) then some (Rsp.code .refusedShare 0x35)
  else none

/-- Keys of bound tags of other devices that have no mirror yet (R570). -/
def State.newMirrors (s : State) (slots : List Nat) : List Nat := ((s.boundTags slots).filter (fun n => decide (2 ^ 20 ≤ n) && !Tbl.has s.led.tags n)).dedup

/-- Makes the mirrors of a binding: UNBOUND until their first update (R570). -/
def State.addMirrors (s : State) (inst : Nat) (slots : List Nat) : State :=
  (s.newMirrors slots).foldl (fun t n =>
    { t with led := { t.led with tags := Tbl.put t.led.tags n { last := 0, maxAge := 1, st := .unbound, path := 1, source := 0, remote := true, notify := false, owner := inst } } }) s

/-- The checks of R570 and R572 on bindings: a position outside the wall, the binder's TAG_QUOTA. -/
def State.mirrorCheck (s : State) (w : Who) (slots : List Nat) : Option Rsp :=
  if (s.boundTags slots).any (fun n => decide (2 ^ 20 ≤ n) && decide (s.rhz.members ≤ n / 2 ^ 20 - 1)) then some (Rsp.plain .rejectedUnit)
  else if !w.secure && decide ((s.core.share w.inst).elim 0 Share.tagQuota < s.tagsOwned w.inst + (s.newMirrors slots).length) && !(s.newMirrors slots).isEmpty then some (Rsp.code .refusedShare 0x30)
  else none

/-- Every bound tag is the instance's own. -/
def State.ownTags (s : State) (inst : Nat) (slots : List Nat) : Bool := (s.boundTags slots).all (fun n => (Tbl.find s.led.tags n).elim true (fun t => t.remote || t.owner == inst))

/-- UNIT of REGION_CREATE: a layer or an output. -/
def atPlace (s : State) (w : Who) (p : Packet) : Bool := atLayer s w p || pkIs p 0x22

/-- Who may put a region on a place: the owner of the layer; the PF or the secure firmware on an output. -/
def State.mayPlace (s : State) (w : Who) (u : Nat) : Bool :=
  if uCls u = 0x22 then w.secure || w.inst == 0 else !w.secure && (s.layer u).elim false (fun l => l.owner == w.inst)

/-- REGION_CREATE (R320, R325). An output region that the secure firmware creates is marked band A (log entry 22). -/
def cmdRegionCreate : Cmd :=
  { opcode := 0x0710, forms := .setOnly, secure := false, always := false,
    form := fun s _ p => pkLen p 6 && fld (pkW p 0) 63 3 == 0 && liveRectOk (pkW p 1) && slotsOk s (pkSlots p), qform := bufForm, unitOk := atPlace,
    may := fun s w p => s.mayPlace w (pkUnit p) && (w.secure || s.ownTags w.inst (pkSlots p)), active := ownActive,
    check := fun s w p =>
      (s.mirrorCheck w (pkSlots p)).or (if (s.placeBandA (pkUnit p) || s.seqBound (pkSlots p)) && !s.authed w then some (Rsp.plain .refusedBand) else s.regionShare (pkUnit p) (pkW p 1) (pkSlots p) none),
    run := fun s w p => s.secDelay (s.placeBandA (pkUnit p) || s.seqBound (pkSlots p) || (w.secure && uCls (pkUnit p) == 0x22)) (
      match Tbl.lowestFree s.led.regions 65536 0 with
      | none => .done s (Rsp.code .refusedShare 0x32)
      | some n =>
        let r : LRegion :=
          { place := uKey (pkUnit p), rect := pkW p 1, size := pkF p 0 1 0, tied := bitOf (pkW p 0) 2, slots := pkSlots p, inst := w.inst, slice := w.slice, secure := w.secure,
            bandA := w.secure && uCls (pkUnit p) == 0x22, er := 0, erNow := true, erAt := s.core.now, erFrame := 0, frozenBadge := false, safetyAt := none, newPlace := none, removing := false, orphan := false,
            drawn := none, repeatedPx := 0, veil := noVeil }
        let s0 := s.addMirrors w.inst (pkSlots p)
        let s1 := { s0 with led := { s0.led with regions := Tbl.put s0.led.regions n r } }
        let (er, passed, frozen) := s1.calcEr r
        .done (s1.updRegion n (fun r => { r with er := er, erNow := passed, frozenBadge := frozen })) (Rsp.ok (s.core.here (uidN 0x51 n)) 0 0)),
    ask := noAsk }

/-- REGION_CREATE. -/
def execRegionCreate (port : Port) (s : State) : Host.Outcome State Fault Refusal := s.ends (cmdRegionCreate.exec port s)

/-- UNIT is a live region. -/
def atRegion (s : State) (_ : Who) (p : Packet) : Bool := pkIs p 0x51 && Tbl.has s.led.regions (uNum (pkUnit p))

/-- The region UNIT names. -/
def State.region (s : State) (p : Packet) : Option LRegion := Tbl.find s.led.regions (uNum (pkUnit p))

/-- Creator of the region. -/
def regionCreator (s : State) (w : Who) (p : Packet) : Bool := (s.region p).elim false (fun r => if r.secure then w.secure else w.is r.inst)

/-- Releases a region's bindings: RETIRED tags without a binding go (R318). -/
def State.unbind (s : State) (tags : List Nat) : State := tags.foldl State.reapTag s

/-- The badge code of R328. -/
def Veil.code (v : Veil) : Nat := if v.veiled then v.badge else 0

/-- REGION_BIND (R326, R328). -/
def cmdRegionBind : Cmd :=
  { opcode := 0x0711, forms := .both, secure := false, always := false,
    form := fun s _ p => pkLen p 6 && fld (pkW p 0) 63 32 == 0 && slotsOk s (pkSlots p) && (if pkW p 0 = 0 then pkW p 1 == 0 else liveRectOk (pkW p 1) && (uCls (pkW p 0) == 0x22 || (s.layer (pkW p 0)).isSome)),
    qform := fun _ _ p => pkLen p 0, unitOk := atRegion,
    may := fun s w p => regionCreator s w p && (pkQuery p || ((w.secure || s.ownTags w.inst (pkSlots p)) && (pkW p 0 == 0 || s.mayPlace w (pkW p 0)))), active := ownActive,
    check := fun s w p =>
      let place := if pkW p 0 = 0 then (s.region p).elim 0 LRegion.place else pkW p 0
      (s.mirrorCheck w (pkSlots p)).or (if (s.placeBandA place || s.seqBound (pkSlots p)) && !s.authed w then some (Rsp.plain .refusedBand)
      else s.regionShare place (if pkW p 0 = 0 then (s.region p).elim 0 LRegion.rect else pkW p 1) (pkSlots p) (some (uNum (pkUnit p)))),
    run := fun s _ p =>
      let n := uNum (pkUnit p)
      let old := (s.region p).elim [] LRegion.slots
      s.secDelay ((s.region p).elim false (fun r => s.placeBandA r.place || r.bandA || s.seqBound r.slots) || s.seqBound (pkSlots p) || s.placeBandA (pkW p 0)) (
        let s1 := (s.addMirrors ((s.region p).elim 0 LRegion.inst) (pkSlots p)).updRegion n (fun r => { r with slots := pkSlots p, newPlace := (if pkW p 0 = 0 then r.newPlace else some (uKey (pkW p 0), pkW p 1)), removing := false })
        let s2 := s1.updRegion n (fun r => { r with veil := { r.veil with causes := r.veil.causes.map (fun c => if c.kind = .instanceReset ∧ c.ended.isNone then { c with ended := some s.core.now } else c) } })
        .done ((s2.bindEr n).unbind (s.boundTags old)) (Rsp.plain .served)),
    ask := fun s _ p =>
      match s.region p with
      | none => (s, Rsp.plain .rejectedUnit)
      | some r => (s.mapCore (fun k => k.useFree 1), Rsp.ok (b2n r.veil.veiled + r.veil.code * 2 + min r.veil.frames 0xFFFF * 0x10000) (s.shownEr r % 2 ^ 32) (r.veil.since % 2 ^ 32)) }

/-- REGION_BIND. -/
def execRegionBind (port : Port) (s : State) : Host.Outcome State Fault Refusal := s.ends (cmdRegionBind.exec port s)

/-- Removes a region: its bindings go (R318, R326). -/
def State.dropRegion (s : State) (n : Nat) : State :=
  match Tbl.find s.led.regions n with
  | none => s
  | some r =>
    let tags := s.boundTags r.slots
    ({ s with led := { s.led with regions := Tbl.del s.led.regions n } }.mapCore (fun k => k.bump (uidN 0x51 n))).unbind tags

/-- REGION_REMOVE (R326): the bindings go at once, the region at the next latch point. -/
def cmdRegionRemove : Cmd :=
  { opcode := 0x0712, forms := .setOnly, secure := false, always := false, form := fun _ _ p => pkLen p 0, qform := bufForm, unitOk := atRegion,
    may := fun s w p => regionCreator s w p || w.is 0, active := ownActive, check := noCheck,
    run := fun s _ p => .done (s.updRegion (uNum (pkUnit p)) (fun r => { r with removing := true })) (Rsp.plain .served), ask := noAsk }

/-- REGION_REMOVE. -/
def execRegionRemove (port : Port) (s : State) : Host.Outcome State Fault Refusal := s.ends (cmdRegionRemove.exec port s)

/-- LED_STATUS (Table 8.10). -/
def State.ledStatus (s : State) : Nat := s.led.regions.length + b2n s.led.hostLink * 2 ^ 30 + b2n s.led.veilLock * 2 ^ 31

/-- LEDGER_STATUS (Table 8.10). -/
def cmdLedgerStatus : Cmd :=
  { opcode := 0x0720, forms := .queryOnly, secure := false, always := false, form := fun _ _ p => pkLen p 0, qform := fun _ _ p => pkLen p 0, unitOk := atDevice, may := fun _ w _ => !w.secure,
    active := ownActive, check := noCheck, run := noRun,
    ask := fun s w _ =>
      let mine := Tbl.keep s.led.tags (fun _ t => w.inst == 0 || t.owner == w.inst)
      let notLive := (Tbl.keep mine (fun _ t => t.st != .live)).length
      (s, if w.inst = 0 then Rsp.ok s.led.tags.length s.ledStatus notLive
          else Rsp.ok mine.length (Tbl.keep s.led.regions (fun _ r => !r.secure && r.inst == w.inst)).length notLive) }

/-- LEDGER_STATUS. -/
def execLedgerStatus (port : Port) (s : State) : Host.Outcome State Fault Refusal := s.ends (cmdLedgerStatus.exec port s)

/-! ## Veil causes -/

/-- A cause reaches a veil now. -/
def Veil.begin (v : Veil) (k : CauseKind) (now : Nat) : Veil :=
  if v.causes.any (fun c => c.kind == k && c.ended.isNone) then v else { v with causes := v.causes ++ [{ kind := k, since := now, ended := none }] }

/-- A cause ends now. -/
def Veil.finish (v : Veil) (k : CauseKind) (now : Nat) : Veil :=
  { v with causes := v.causes.map (fun c => if c.kind = k ∧ c.ended.isNone then { c with ended := some now } else c) }

/-- Starts or ends a cause on the live and signed regions that tests pick. -/
def State.setCause (s : State) (k : CauseKind) (on : Bool) (live : Nat → LRegion → Bool) (signed : Nat → SRegion → Bool) : State :=
  let f (v : Veil) : Veil := if on then v.begin k s.core.now else v.finish k s.core.now
  { s with led := { s.led with
      regions := Tbl.mapVals s.led.regions (fun n r => if live n r then { r with veil := f r.veil } else r),
      sregs := Tbl.mapVals s.led.sregs (fun n r => if signed n r then { r with veil := f r.veil } else r) } }

/-- Every live and signed region a frond carries. -/
def State.causeOnFrond (s : State) (k : CauseKind) (on : Bool) (f : Nat) : State :=
  s.setCause k on (fun _ r => s.frondOfPlace r.place == f) (fun n _ => n / 256 == f)

/-- A band A region: on a band A layer, or marked; one of a removed layer is marked when the layer goes. -/
def State.isBandA (s : State) (r : LRegion) : Bool := r.bandA || (!r.orphan && s.placeBandA r.place)

/-- The SERVICE causes of the journal's FULL state and of debug on every band A region and signed region (R97, Table 8.5). -/
def State.causeBandA (s : State) (k : CauseKind) (on : Bool) : State := s.setCause k on (fun _ r => s.isBandA r) (fun _ _ => true)

/-- A tamper input with SERVICE holds its veil: asserted, or latched (Table 15.11, R526). -/
def State.tamperService (s : State) : Bool := (s.sec.tamperOn ++ s.sec.tamperLatched).any (fun n => bitOf (Tbl.cnt s.sec.tamperCfg n) 5)

/-- The SERVICE causes that stand by themselves, as they are at a latch point (R331): journal FULL (R97), secure invasive debug (R512), a broken lease (R508), a tamper input (R526). -/
def State.syncVeils (s : State) : State :=
  let s1 := s.causeBandA .journalFull (s.core.jrn.st == .full)
  let s2 := s1.causeBandA .debug (bitOf s.sec.dbgEnables 3)
  let s3 := s2.causeBandA .leaseBroken (s.sec.leases.any (fun e => !e.2))
  s3.causeBandA .tamper s.tamperService

/-- A cause of FAULT, as against SERVICE (Table 8.5). -/
def CauseKind.isFault : CauseKind → Bool
  | .signature => true
  | .underrun => true
  | .heartbeat => true
  | .bothFrozen => true
  | .bothFlagged => true
  | .journalFull => false
  | .bandRemoved => false
  | .instanceReset => false
  | .debug => false
  | .leaseBroken => false
  | .tamper => false

/-- A cause is in force for the frame of a latch point (R331). -/
def Cause.inForce (c : Cause) (latch : Nat) : Bool := decide (c.since ≤ latch) && c.ended.elim true (fun e => decide (latch < e))

/-- Causes that still matter after a decision for a latch point. -/
def Veil.prune (v : Veil) (latch : Nat) : List Cause := v.causes.filter (fun c => c.ended.elim true (fun e => decide (latch < e)))

/-- The result of a signed region for a frame: flags, ALIVE, CRC and the expected CRC; 0 for another region or frame (Table 16.6). -/
def State.resultOf (s : State) (u frame : Nat) : Nat × Nat × Nat × Nat :=
  if uCls u = 0x52 then
    (Tbl.find s.led.sregs (subKey u)).elim (0, 0, 0, 0) (fun r => if r.lastFrame = frame then (r.lastFlags, r.lastAlive, if r.crcFrame = frame then r.crc else 0, r.lastExpected) else (0, 0, if r.crcFrame = frame then r.crc else 0, 0))
  else (0, 0, 0, 0)

/-- What the copier holds of a frame for a region (R542). -/
def State.holdOf (s : State) (u : Nat) (e : Nat × Nat × Nat) : CapHeld :=
  let r := s.resultOf u e.1
  let v := if uCls u = 0x52 then (Tbl.find s.led.sregs (subKey u)).map (fun g => (g.veil, g.drawn)) else (Tbl.find s.led.regions (uNum u)).map (fun g => (g.veil, g.drawn))
  { frame := e.1, dt := e.2.2, surf := e.2.1, veiled := v.elim false (fun g => g.1.veiled), badge := v.elim 0 (fun g => g.1.badge), rect := v.bind Prod.snd, flags := r.1, alive := r.2.1, crc := r.2.2.1, expected := r.2.2.2 }

/-- The newest complete frame part of a frond, where it is of a frame or a later one. -/
def State.framePart (s : State) (f frame : Nat) : Option (Nat × Nat × Nat) := (s.frond f).bind (fun fr => (Tbl.find fr.wbLast 1).bind (fun e => if frame ≤ e.1 then some e else none))

/-- Captures of a frond take hold of a frame part that has become complete (R542). -/
def State.holdCaptures (s : State) (f : Nat) : State :=
  { s with peat := { s.peat with requests := s.peat.requests.map (fun q => if q.frond = f ∧ q.held.isNone then { q with held := (s.framePart f q.frame).map (s.holdOf (uKey q.region)) } else q) } }

/-- A result joins the captures that hold its frame. -/
def State.noteCaptures (s : State) (u frame : Nat) : State :=
  let r := s.resultOf u frame
  { s with peat := { s.peat with requests := s.peat.requests.map (fun q =>
      if uKey q.region = u then { q with held := q.held.map (fun h => if h.frame = frame then { h with flags := r.1, alive := r.2.1, crc := r.2.2.1, expected := r.2.2.2 } else h) } else q) } }

/-- Requests an evidence capture (R541): the next capture ID, and CAPTURE_REQUESTED in the journal. -/
def State.requestCapture (s : State) (cause region frond frame outcome creator work : Nat) : State :=
  let id := s.peat.nextCapture
  let j := s.core.jrn.nextJseq
  let s1 := s.mapCore (fun k => k.event 0xFEA1 0 0 id (le 4 (k.here region) ++ le 8 frame ++ le 1 cause))
  let r : CapReq := { id := id, cause := cause, region := s.core.here region, frond := frond, frame := frame, outcome := outcome, jseq := j, late := false, creator := creator,
                      held := (s.framePart frond frame).map (s.holdOf (uKey region)), work := work }
  { s1 with peat := { s1.peat with nextCapture := (id + 1) % 2 ^ 32, requests := s1.peat.requests ++ [r] } }

/-! ## Veil decisions -/

/-- The scene a decision is for: the one on its way out, or the next. -/
def Frond.sceneFor (fr : Frond) (decided : Nat) : Option (Scene × Bool) :=
  match fr.scan with
  | some sc => if decided ≤ sc.frame then some (sc, true) else fr.next.map (fun n => (n, false))
  | none => fr.next.map (fun n => (n, false))

/-- The veil a region takes for a frame (R324, R329 to R331): held says that E_r veils it. -/
def Veil.fixFrame (v : Veil) (latch frame : Nat) (held frozen : Bool) : Veil :=
  let on := v.causes.filter (fun c => c.inForce latch)
  let badge := if on.any (fun c => c.kind.isFault) then 3 else if !on.isEmpty then 4 else if held then (if frozen then 2 else 1) else 0
  let veiled := badge != 0
  { causes := v.prune latch, veiled := veiled, badge := badge, frames := (if veiled then (if v.veiled then v.frames + 1 else 1) else 0),
    since := (if veiled == v.veiled then v.since else frame), decided := frame + 1 }

/-- Counts, journals and captures that follow a decision (R334, R341, R541). -/
def State.noteVeil (s : State) (unit f frame er : Nat) (old new : Veil) (journaled bandA : Bool) (creator : Nat) : State :=
  let s1 := if new.veiled then { s with led := { s.led with veilFrames := Tbl.inc s.led.veilFrames f } } else s
  if new.veiled && !old.veiled && journaled then
    let s2 := s1.mapCore (fun k => (k.event 0xFE30 0 unit unit (le 8 frame ++ le 1 new.badge ++ le 6 er)).useFree 1)
    if bandA then s2.requestCapture 2 unit f frame 0 creator 0 else s2
  else if !new.veiled && old.veiled && journaled then s1.mapCore (fun k => k.event 0xFE31 0 unit unit (le 8 frame ++ le 4 old.frames))
  else s1

/-- VEIL_DECISION (R329, R330): at a region's decision point the inserter fixes it veiled or clear for the frame. -/
def execVeilDecision (region : Nat) (s : State) : Host.Outcome State Fault Refusal :=
  s.ends (if uCls region = 0x51 then
      match Tbl.find s.led.regions (uNum region) with
      | none => s
      | some r =>
        let f := s.frondOfPlace r.place
        match (s.frond f).bind (fun fr => fr.sceneFor r.veil.decided), s.outOf f with
        | some (sc, scanning), some (_, out) =>
          (match sc.rectOf (uKey region) with
            | none => s
            | some rc =>
              let scan := (if scanning then out.sav else out.nextSav) + out.linesNs rc.2.1.toNat
              let timed := r.erNow || atOrAfter (scan / 1000 % 2 ^ 48) ((r.er + 50) % 2 ^ 48)
              let kept := r.veil.veiled && !(decide (r.erAt ≤ sc.latchDt) || (r.tied && r.erFrame == sc.frame + 1)) && decide (r.veil.badge ≤ 2)
              let v := r.veil.fixFrame sc.latchDt sc.frame (timed || kept) r.frozenBadge
              let s1 := s.updRegion (uNum region) (fun r => { r with veil := v })
              s1.noteVeil (uKey region) f sc.frame (s.shownEr r) r.veil v (s.isBandA r || uCls r.place == 0x22) (s.isBandA r) r.inst)
        | _, _ => s
    else
      match Tbl.find s.led.sregs (subKey region) with
      | none => s
      | some r =>
        let f := uIdx region
        match (s.frond f).bind (fun fr => fr.sceneFor r.veil.decided) with
        | some (sc, _) =>
          let v := r.veil.fixFrame sc.latchDt sc.frame false false
          (s.updSreg (subKey region) (fun r => { r with veil := v })).noteVeil (uKey region) f sc.frame 0 r.veil v true false r.inst
        | none => s)

/-- LED_VEIL_LOCK (Table 8.9, R340): set by a secure-class write; the measurement of the palette follows (R522). -/
def State.lockVeil (s : State) : State := { s with led := { s.led with veilLock := true } }

/-- HOST_LINK (R342): the PCIe link goes up or down; the ledger is not changed. -/
def execHostLink (up : Bool) (s : State) : Host.Outcome State Fault Refusal :=
  s.ends (if s.led.hostLink = up then s
    else
      let s1 := { s with led := { s.led with hostLink := up }, pwr := { s.pwr with pcieUp := up, pcieTraining := s.pwr.pcieTraining && !up } }
      s1.mapCore (fun k => k.event 0xFE32 0 0 (b2n up) (le 8 k.now)))

end Sys2Proof.Machine
end

