-- ==== Sys2Proof/Machine/Routes.lean ====
section
/-! DEFINITION. Routes from receivers to layers and posts of the device (R428 to R431, R223). -/

namespace Sys2Proof.Machine

/-- Changes a receiver. -/
def State.updRecv (s : State) (r : Nat) (f : Recv → Recv) : State := { s with ing := { s.ing with recvs := Tbl.upd s.ing.recvs r f } }

/-- A receiver. -/
def State.recv (s : State) (r : Nat) : Option Recv := Tbl.find s.ing.recvs r

/-- Skips queued posts of a layer that a test picks: references end, an owed completion has bit 0 of RESULT1 set (R223). -/
def State.skipPosts (s : State) (key : Nat) (pick : Post → Bool) : State :=
  match Tbl.find s.frd.layers key with
  | none => s
  | some l =>
    (l.posts.filter pick).foldl (fun t q =>
      let t1 := t.dropRef (uNum q.surf) (.layer (key / 256) (key % 256) q.ref) 0 0 false
      if q.work = 0 then t1 else t1.finishWork q.work (Rsp.ok 0 1 0)) (s.updLayer key (fun x => { x with posts := x.posts.filter (fun q => !pick q) }))

/-- A post by the device to a layer: one that would be the fifth replaces the oldest (R429). -/
def State.devicePost (s : State) (key u inst slice : Nat) (recv : Option Nat) : State :=
  match Tbl.find s.frd.layers key with
  | none => s
  | some l =>
    if l.removing.isSome then s
    else
      let s1 := if 4 ≤ l.posts.length then
          (match l.posts with
            | q :: _ => s.skipPosts key (fun x => x.ref == q.ref)
            | [] => s)
        else s
      (s1.addPost key u inst slice true recv).1

/-- True where a route names this device's layer. -/
def State.routeHere (s : State) (ro : Route) : Bool := uPos ro.layer == s.core.pos && uCls ro.layer == 0x21

/-- Ends a route at a latch point (R431). -/
def State.endRoute (s : State) (r : Nat) (ro : Route) (frame : Nat) : State :=
  let s1 := s.updRecv r (fun x => { x with routes := x.routes.erase ro })
  if ro.work = 0 then s1 else s1.finishWork ro.work (Rsp.ok (frame % 2 ^ 32) 0 0)

/-- A route takes over its layer at a latch point (R430): other routes to the layer end, their queued posts are skipped. -/
def State.switchRoute (s : State) (r : Nat) (ro : Route) (frame : Nat) : State :=
  let key := subKey ro.layer
  let old := s.ing.recvs.flatMap (fun e => (e.2.routes.filter (fun o => o.layer == ro.layer && !(e.1 == r && o == ro))).map (fun o => (e.1, o)))
  let s1 := old.foldl (fun t o =>
    let t1 := if o.1 = r then t else t.skipPosts key (fun q => q.recv == some o.1)
    t1.endRoute o.1 { o.2 with work := if o.2.removing then o.2.work else 0 } frame |>.updRecv o.1 (fun x => { x with routes := x.routes.erase o.2 })) s
  let s2 := s1.updRecv r (fun x => { x with routes := x.routes.map (fun o => if o = ro then { o with active := true, work := 0 } else o) })
  if ro.work = 0 then s2 else s2.finishWork ro.work (Rsp.ok (frame % 2 ^ 32) 0 0)

/-- The routes' part of a latch point (R430, R431), in order of admission. -/
def State.latchRoutes (s : State) (f frame : Nat) : State :=
  let due := (s.ing.recvs.flatMap (fun e => (e.2.routes.filter (fun o => s.routeHere o && uIdx o.layer == f && (o.removing || !o.active))).map (fun o => (e.1, o)))).mergeSort (fun a b => decide (a.2.work ≤ b.2.work))
  due.foldl (fun t e => if e.2.removing then t.endRoute e.1 e.2 frame else t.switchRoute e.1 e.2 frame) s

end Sys2Proof.Machine
end

