-- ==== Sys2Proof/Machine/Ingest.lean ====
section
/-! DEFINITION. Chapter 11: Ethernet ports, device time from PTP, stream receivers, their frames, lanes, states and routes (R410 to R433), and the frozen-run check of R366 to R368. -/

namespace Sys2Proof.Machine

/-! ## Receivers -/

/-- The unit of a receiver. -/
def recvUnit (r : Nat) : Nat := uid 0x41 r 0

/-- A closed receiver. -/
def Recv.closed : Recv :=
  { owner := none, words := [], st := 0, moving := false, k := 6, declared := none, forceMoving := false, run := 0, lastCrc := none, lastTs := none, lastGood := 0, good := 0, cause := 0,
    badFrames := 0, noBuffer := 0, stampFallback := 0, pathLost := [0, 0], pathUp := [false, false], pathAt := [0, 0], pathSeq := [none, none], seen := [], waitSince := none, nextFirst := none,
    frames := [], lanes := 0, routes := [], closing := none, ringNext := 0, audio := [] }

/-- The internal rate of the audio DSP (R473, R489). -/
def Aud.rate (a : Aud) : Nat := if a.mode = 1 then 44100 else if a.mode = 3 then 96000 else 48000

/-- Field of an open receiver's word n. -/
def Recv.f (r : Recv) (n hi lo : Nat) : Nat := fld (r.words.getD n 0) hi lo

/-- ESSENCE: 0 ST 2110-20, 1 -22, 2 -30, 3 -40. -/
def Recv.essence (r : Recv) : Nat := r.f 0 1 0

/-- Two paths. -/
def Recv.dual (r : Recv) : Bool := r.f 0 25 25 == 1

/-- The Ethernet port of a path. -/
def Recv.portOf (r : Recv) (path : Nat) : Nat := r.f (1 + path) 1 0

/-- Paths that are open. -/
def Recv.paths (r : Recv) : List Nat := if r.dual then [0, 1] else [0]

/-- Target surfaces of video words 6 and 7. -/
def surfsOf (ws : List Nat) : List Nat := let w (n : Nat) : Nat := ws.getD n 0; [fld (w 6) 31 0, fld (w 6) 63 32, fld (w 7) 31 0, fld (w 7) 63 32].filter (· != 0)

/-- Rate of a stream in pixels per second times FPS_DEN. -/
def pixelNum (ws : List Nat) : Nat := fld (ws.getD 4 0) 15 0 * fld (ws.getD 4 0) 31 16 * fld (ws.getD 5 0) 31 0

/-- FPS_DEN. -/
def fpsDen (ws : List Nat) : Nat := fld (ws.getD 5 0) 63 32

/-- The formats of Table 11.4. -/
def streamFormats (sampling depth : Nat) : List Nat :=
  match sampling, depth == 8 with
  | 0, true => [0x12, 0x1A]
  | 0, false => [0x13, 0x1B]
  | 1, true => [0x10, 0x18]
  | 1, false => [0x11, 0x19]
  | 2, true => [0x14, 0x1C]
  | 2, false => [0x15, 0x1D]
  | _, true => [0x01]
  | _, false => [0x02]

/-- The words common to every essence are in range (Table 11.3). -/
def openCommon (ws : List Nat) : Bool :=
  let g (n hi lo : Nat) : Nat := fld (ws.getD n 0) hi lo
  decide (1 ≤ g 0 63 48) && decide (100 ≤ g 0 47 32) && decide (g 0 47 32 ≤ 10000) && g 0 31 26 == 0 && g 0 23 16 != 1 && g 0 15 9 == 0 && g 0 7 6 == 0 && g 0 3 2 == 0 &&
    decide (96 ≤ g 1 15 8) && decide (g 1 15 8 ≤ 127) && g 1 7 2 == 0 &&
    (if g 0 25 25 = 0 then ws.getD 2 0 == 0 else g 2 15 2 == 0 && g 2 1 0 != g 1 1 0) && g 3 63 32 == 0

/-- The words of a video stream are in range: size, sampling, depth, rate, targets (Table 11.3, R410, R416, R424). -/
def openVideo (s : State) (ws : List Nat) : Bool :=
  let g (n hi lo : Nat) : Nat := fld (ws.getD n 0) hi lo
  let w := g 4 15 0
  let h := g 4 31 16
  let su := surfsOf ws
  decide (16 ≤ w) && decide (w ≤ 7680) && decide (16 ≤ h) && decide (h ≤ 4320) && g 4 63 40 == 0 && decide (g 4 35 32 ≤ 3) && (g 4 39 36 == 8 || g 4 39 36 == 10 || g 4 39 36 == 12) &&
    decide (1 ≤ fpsDen ws) && decide (fpsDen ws ≤ 1001) && decide (23976 * fpsDen ws ≤ 1000 * g 5 31 0) && decide (g 5 31 0 ≤ 120 * fpsDen ws) &&
    decide (pixelNum ws ≤ (if g 0 1 0 = 0 then 1000000000 else 1500000000) * fpsDen ws) &&
    decide (2 ≤ su.length) && su.Nodup && [g 6 31 0, g 6 63 32, g 7 31 0, g 7 63 32].take su.length == su &&
    su.all (fun u => (s.surf u).elim false (fun sf => (streamFormats (g 4 35 32) (g 4 39 36)).contains sf.format && sf.width == w && sf.height == h && decide (sf.layout ≤ 1)))

/-- The words of an audio or ANC stream are in range. -/
def openOther (ws : List Nat) : Bool :=
  let g (n hi lo : Nat) : Nat := fld (ws.getD n 0) hi lo
  g 0 8 8 == 0 && ws.getD 5 0 == 0 &&
    (if g 0 1 0 = 2 then decide (1 ≤ g 4 7 0) && decide (g 4 7 0 ≤ 64) && g 4 15 11 == 0 && decide (24 ≤ g 4 21 16) && decide (g 4 21 16 ≤ 39) && g 4 63 22 == 0 && ws.getD 6 0 == 0 && ws.getD 7 0 == 0
     else g 4 63 16 == 0 && g 7 63 5 == 0 && decide (12 ≤ g 7 4 0) && decide (g 7 4 0 ≤ 20))

/-- Step 7 of STREAM_OPEN: the words, and targets that the instance may write (R416). -/
def openForm (s : State) (w : Who) (p : Packet) : Bool :=
  let ws := (List.range 8).map (pkW p)
  pkLen p 8 && openCommon ws && (if pkF p 0 1 0 < 2 then openVideo s ws && (surfsOf ws).all (fun u => (s.surf u).elim false (fun sf => sf.mayUse w true)) else openOther ws)

/-- Lanes that an ST 2110-22 stream takes (R424). -/
def lanesFor (ws : List Nat) : Nat := if pixelNum ws ≤ 375000000 * fpsDen ws then 1 else if pixelNum ws ≤ 750000000 * fpsDen ws then 2 else 4

/-- The share of a lane that a stream takes: pixels per second. -/
def laneLoad (ws : List Nat) : Rat := (pixelNum ws : Rat) / ((fpsDen ws * lanesFor ws : Nat) : Rat)

/-- The guaranteed load of a lane. -/
def Ing.load (i : Ing) (lane : Nat) : Rat := (i.recvs.map (fun e => if bitOf e.2.lanes lane then laneLoad e.2.words else 0)).foldl (· + ·) 0

/-- The lanes R425 places a stream on, as a mask. -/
def Ing.place (i : Ing) (ws : List Nat) : Option Nat :=
  let n := lanesFor ws
  ((List.range (8 / n)).find? (fun g => (List.range n).all (fun k => decide (i.load (g * n + k) + laneLoad ws ≤ 375000000)))).map (fun g => (2 ^ n - 1) * 2 ^ (g * n))

/-- UNIT is a stream receiver. -/
def atRecv (_ : State) (_ : Who) (p : Packet) : Bool := pkIs p 0x41

/-- The receiver that UNIT names. -/
def pkRecv (s : State) (p : Packet) : Recv := (s.recv (uIdx (pkUnit p))).getD Recv.closed

/-- The instance a receiver is assigned to. -/
def recvOwner (s : State) (w : Who) (p : Packet) : Bool := !w.secure && (pkRecv s p).owner == some w.inst

/-- STREAM_OPEN (R125, R415, R416, R425, R489). -/
def cmdStreamOpen : Cmd :=
  { opcode := 0x0602, forms := .both, secure := false, always := false, form := openForm, qform := bufForm, unitOk := atRecv,
    may := recvOwner, active := ownActive,
    check := fun s w p =>
      if !s.bandIn w.inst (pkF p 0 5 4) || (pkF p 0 5 4 == 0 && !s.authed w) then some (Rsp.plain .refusedBand)
      else if (pkRecv s p).st ≠ 0 then some (Rsp.plain .refusedUnitReset)
      else if pkF p 0 1 0 = 2 ∧ s.aud.mode ≠ 0 ∧ (if pkF p 4 8 8 = 1 then 96000 else 48000) ≠ s.aud.rate then some (Rsp.code .refusedShare 0x72)
      else if pkF p 0 1 0 = 1 ∧ (s.ing.place ((List.range 8).map (pkW p))).isNone then some (Rsp.code .refusedShare 0x60)
      else none,
    run := fun s _ p =>
      let ws := (List.range 8).map (pkW p)
      .done (s.updRecv (uIdx (pkUnit p)) (fun r =>
        { Recv.closed with owner := r.owner, routes := r.routes, words := ws, st := 1, moving := pkF p 0 8 8 == 1, k := (if pkF p 0 23 16 = 0 then 6 else pkF p 0 23 16),
                           lanes := (if pkF p 0 1 0 = 1 then (s.ing.place ws).getD 0 else 0), badFrames := r.badFrames, noBuffer := r.noBuffer, stampFallback := r.stampFallback, pathLost := r.pathLost, cause := r.cause })) (Rsp.plain .served),
    ask := fun s w p => s.answerWords w p ((pkRecv s p).words.map (BitVec.ofNat 64)) }

/-- STREAM_OPEN. -/
def execStreamOpen (port : Port) (s : State) : Host.Outcome State Fault Refusal := s.ends (cmdStreamOpen.exec port s)

/-- Drops the targets of a receiver's frames. -/
def State.dropFrames (s : State) (r : Nat) (fs : List RxFrame) : State := fs.foldl (fun t f => f.target.elim t (fun n => t.dropRef n (.receiver r) 0 0 true)) s

/-- A receiver closes: its routes end at the next latch point, its lanes are free, its generation moves on (R433, R42); a withdrawn one loses its owner. -/
def State.closeRecv (s : State) (r : Nat) (withdraw : Bool) : State :=
  match s.recv r with
  | none => s
  | some x =>
    let s1 := s.dropFrames r x.frames
    let s2 := s1.updRecv r (fun x =>
      { Recv.closed with owner := (if withdraw then none else x.owner), routes := (x.routes.filter s.routeHere).map (fun o => { o with removing := true }),
                         badFrames := x.badFrames, noBuffer := x.noBuffer, stampFallback := x.stampFallback, pathLost := x.pathLost, cause := x.cause })
    (s2.mapCore (fun k => k.bump (recvUnit r))).finishWhere (fun o => o.wait == .unit (recvUnit r) && o.op / 256 == 6) (fun _ => Rsp.plain .served)

/-- Stops a receiver: at once with no frame in progress, else at the frame's end or after 2 ms (R433, Table 3.11). -/
def State.stopRecv (s : State) (r : Nat) (withdraw : Bool) : State :=
  match s.recv r with
  | none => s
  | some x =>
    if x.st = 0 then (if withdraw then s.updRecv r (fun y => { y with owner := none }) else s)
    else if x.frames.isEmpty then s.closeRecv r withdraw
    else s.updRecv r (fun y => { y with closing := some ((y.closing.elim s.core.now Prod.fst), withdraw || (y.closing.elim false Prod.snd)) })

/-- STREAM_CLOSE (R433). -/
def cmdStreamClose : Cmd :=
  { opcode := 0x0603, forms := .setOnly, secure := false, always := false, form := fun _ _ p => pkLen p 0, qform := bufForm, unitOk := atRecv,
    may := fun s w p => recvOwner s w p || (!w.secure && w.inst == 0), active := ownActive, check := noCheck,
    run := fun s _ p =>
      let r := uIdx (pkUnit p)
      let s1 := s.stopRecv r false
      if (s1.recv r).elim false (fun x => x.closing.isSome) then .silent s1 (.unit (recvUnit r)) else .done s1 (Rsp.plain .served),
    ask := noAsk }

/-- STREAM_CLOSE. -/
def execStreamClose (port : Port) (s : State) : Host.Outcome State Fault Refusal := s.ends (cmdStreamClose.exec port s)

/-- Receivers assigned to an instance. -/
def Ing.assigned (i : Ing) (inst : Nat) : Nat := (i.recvs.filter (fun e => e.2.owner == some inst)).length

/-- INGEST_ASSIGN (R414). A receiver that another instance holds is withdrawn from it first. -/
def cmdIngestAssign : Cmd :=
  { opcode := 0x0601, forms := .both, secure := false, always := false, form := fun _ _ p => pkLen p 1 && fld (pkW p 0) 63 7 == 0, qform := bufForm, unitOk := atRecv, may := pfOnly, active := ownActive,
    check := fun s _ p =>
      let inst := pkF p 0 5 0
      if pkF p 0 6 6 == 0 && (pkRecv s p).owner != some inst && decide ((s.core.share inst).elim 0 Share.streamRx ≤ s.ing.assigned inst) then some (Rsp.code .refusedShare 0x61) else none,
    run := fun s _ p =>
      let r := uIdx (pkUnit p)
      let inst := pkF p 0 5 0
      if (pkRecv s p).owner == some inst && pkF p 0 6 6 == 0 then .done s (Rsp.plain .served)
      else
        let s1 := s.stopRecv r true
        if (s1.recv r).elim false (fun x => x.closing.isSome) then (if pkF p 0 6 6 = 1 then .silent s1 (.unit (recvUnit r)) else .delayed s1 (Rsp.plain .delayedUnitBusy) (.unit (recvUnit r)) false)
        else if pkF p 0 6 6 = 1 then .done s1 (Rsp.plain .served)
        else .done (s1.updRecv r (fun x => { x with owner := some inst })) (Rsp.plain .served),
    ask := fun s w p => s.answerWords w p [BitVec.ofNat 64 ((pkRecv s p).owner.elim 64 id)] }

/-- INGEST_ASSIGN. -/
def execIngestAssign (port : Port) (s : State) : Host.Outcome State Fault Refusal := s.ends (cmdIngestAssign.exec port s)

/-- STREAM_DECLARE (R427): takes effect from the next good frame. -/
def cmdStreamDeclare : Cmd :=
  { opcode := 0x0604, forms := .both, secure := false, always := false,
    form := fun s _ p => pkLen p 1 && pkF p 0 7 0 == 0 && pkF p 0 15 9 == 0 && fld (pkW p 0) 63 24 == 0 && pkF p 0 23 16 != 1 && (pkF p 0 8 8 == 0 || decide ((pkRecv s p).essence < 2)),
    qform := bufForm, unitOk := atRecv, may := recvOwner, active := ownActive,
    check := fun s _ p => if (pkRecv s p).st = 0 then some (Rsp.plain .refusedUnitReset) else none,
    run := fun s _ p => .done (s.updRecv (uIdx (pkUnit p)) (fun r => { r with declared := some (pkF p 0 8 8 == 1, if pkF p 0 23 16 = 0 then 6 else pkF p 0 23 16) })) (Rsp.plain .served),
    ask := fun s w p => let r := pkRecv s p; let d := r.declared.getD (r.moving, r.k); s.answerWords w p [BitVec.ofNat 64 (b2n d.1 * 256 + d.2 * 65536)] }

/-- STREAM_DECLARE. -/
def execStreamDeclare (port : Port) (s : State) : Host.Outcome State Fault Refusal := s.ends (cmdStreamDeclare.exec port s)

/-- ING_RX_STATUS[s] (Table 11.6). -/
def Recv.status (r : Recv) : Nat :=
  r.st * 2 ^ 29 + b2n r.moving * 2 ^ 28 + b2n r.dual * 2 ^ 27 + b2n (r.pathUp.getD 1 false) * 2 ^ 26 + b2n (r.pathUp.getD 0 false) * 2 ^ 25 + r.lanes * 2 ^ 16 + min r.run 255 * 256 + r.owner.getD 0

/-- STREAM_STATUS. -/
def cmdStreamStatus : Cmd :=
  { opcode := 0x0606, forms := .queryOnly, secure := false, always := false, form := fun _ _ p => pkLen p 0, qform := fun _ _ p => pkLen p 0, unitOk := atRecv,
    may := fun s w p => recvOwner s w p || (!w.secure && w.inst == 0), active := ownActive, check := noCheck, run := noRun,
    ask := fun s _ p => let r := pkRecv s p; (s, Rsp.ok r.status (r.good % 2 ^ 32) r.badFrames) }

/-- STREAM_STATUS. -/
def execStreamStatus (port : Port) (s : State) : Host.Outcome State Fault Refusal := s.ends (cmdStreamStatus.exec port s)

/-! ## Routes -/

/-- Links a frame crosses: from a position, n steps down or up a ring of m, each link named by the position at its lower side; none where one of them is broken. -/
def hops (m pos dest : Nat) (down : Bool) (broken : List Nat) : Option (List Nat) :=
  let n := if down then (dest + m - pos) % m else (pos + m - dest) % m
  let ls := (List.range n).map (fun i => if down then (pos + i) % m else (pos + 2 * m - 1 - i) % m)
  if ls.any broken.contains then none else some ls

/-- The direction a copy takes to a device: the shorter, a tie goes down (R568); the links with their direction. -/
def pathTo (m pos dest : Nat) (broken : List Nat) : List (Nat × Bool) :=
  match hops m pos dest true broken, hops m pos dest false broken with
  | some a, some b => if a.length ≤ b.length then a.map (fun l => (l, true)) else b.map (fun l => (l, false))
  | some a, none => a.map (fun l => (l, true))
  | none, some b => b.map (fun l => (l, false))
  | none, none => []

/-- Bytes of a frame in raw TBC form: its planes and 4 bytes for each block (R569). -/
def rawTbc (sh : Shape) : Nat :=
  ((List.range (planesOf sh.format).length).map (fun p => sh.pw p * sh.ph p * sh.eb p + 4 * (ceilDiv (sh.pw p) 8 * ceilDiv (sh.ph p) 8))).foldl (· + ·) 0

/-- Raw TBC bytes of a receiver's frame, times FPS_NUM. -/
def State.streamNum (s : State) (r : Recv) : Nat := ((surfsOf r.words).head?.bind s.surf).elim 0 (fun sf => rawTbc sf.shape * r.f 5 31 0)

/-- The positions a receiver's routes reach on other devices. -/
def State.routePos (s : State) (r : Recv) : List Nat := ((r.routes.filter (fun o => !o.removing)).map (fun o => uPos o.layer)).filter (· != s.core.pos) |>.dedup

/-- True where the shared streams of this device keep every link direction within 11.0 GB/s, in the ring as it is and with each one further link broken (R569). -/
def State.wallFits (s : State) (streams : List (Nat × Nat × List Nat)) : Bool :=
  let m := s.rhz.members
  (s.rhz.broken :: (List.range m).map (fun l => l :: s.rhz.broken)).all (fun bk =>
    (List.range m).all (fun l => [true, false].all (fun d =>
      decide ((streams.map (fun e => if (e.2.2.any (fun dest => (pathTo m s.core.pos dest bk).contains (l, d))) then ((e.1 : Nat) : Rat) / ((e.2.1 : Nat) : Rat) else 0)).foldl (· + ·) 0 ≤ (11000000000 : Rat)))))

/-- A route of STREAM_ROUTE. -/
def routeOf (w : Who) (p : Packet) (active : Bool) (work : Nat) : Route :=
  { layer := pkF p 0 31 0, inst := w.inst, slice := w.slice, active := active, work := work, removing := false, landing := [pkF p 1 31 0, pkF p 1 63 32, pkF p 2 31 0, pkF p 2 63 32].filter (· != 0) }

/-- The wall's view with one more route. -/
def State.routeFits (s : State) (r : Nat) (dest : Nat) : Bool :=
  s.wallFits (s.ing.recvs.filterMap (fun e =>
    let ps := s.routePos e.2 ++ (if e.1 = r then [dest] else [])
    if ps.isEmpty then none else some (s.streamNum e.2, max 1 (fpsDen e.2.words), ps)))

/-- Step 7 of STREAM_ROUTE (R428, R567): a local layer that the targets fit, or a layer of another device with two to four landing surfaces. -/
def routeForm (s : State) (_ : Who) (p : Packet) : Bool :=
  let u := pkF p 0 31 0
  let r := pkRecv s p
  fld (pkW p 0) 63 33 == 0 && uCls u == 0x21 && unitInRange u &&
  (if uPos u = s.core.pos then
     pkLen p 1 && (pkF p 0 32 32 == 1 ||
       (s.layer u).elim false (fun l =>
         let d := s.newestDesc (uIdx u) (uKey u) l
         uCls d.source == 0x11 && (surfsOf r.words).all (fun t => (s.surf t).elim false (s.fitsDesc d)) && decide (r.essence < 2)))
   else if pkF p 0 32 32 = 1 then pkLen p 1 || pkLen p 3
   else pkLen p 3 && decide (r.essence < 2) &&
     (let ls := [pkF p 1 31 0, pkF p 1 63 32, pkF p 2 31 0, pkF p 2 63 32]
      let n := (ls.filter (· != 0)).length
      decide (2 ≤ n) && (ls.take n).all (· != 0) && (ls.take n).Nodup && (ls.filter (· != 0)).all (fun x => uCls x == 0x11 && uPos x == uPos u)))

/-- STREAM_ROUTE (R428 to R431, R567, R569). -/
def cmdStreamRoute : Cmd :=
  { opcode := 0x0605, forms := .both, secure := false, always := false, form := routeForm, qform := bufForm, unitOk := atRecv,
    may := fun s w p => recvOwner s w p && (pkQuery p || uPos (pkF p 0 31 0) != s.core.pos || (s.layer (pkF p 0 31 0)).elim (pkF p 0 32 32 == 1) (fun l => l.owner == w.inst)),
    active := ownActive,
    check := fun s _ p =>
      let r := pkRecv s p
      let u := pkF p 0 31 0
      if r.st = 0 then some (Rsp.plain .refusedUnitReset)
      else if pkF p 0 32 32 = 1 then none
      else if !r.routes.any (fun o => o.layer == u && !o.removing) && decide (8 ≤ (r.routes.filter (fun o => !o.removing)).length) then some (Rsp.code .refusedShare 0x62)
      else if uPos u ≠ s.core.pos ∧ !s.core.reachable.contains (uPos u) then some (Rsp.plain .failedLink)
      else if uPos u ≠ s.core.pos ∧ !s.routeFits (uIdx (pkUnit p)) (uPos u) then some (Rsp.code .refusedShare 0xA0)
      else none,
    run := fun s w p =>
      let n := uIdx (pkUnit p)
      let u := pkF p 0 31 0
      let r := pkRecv s p
      let mine := r.routes.find? (fun o => o.layer == u && !o.removing)
      if pkF p 0 32 32 = 1 then
        match mine with
        | none => .done s (Rsp.plain .served)
        | some o =>
          if s.routeHere o then
            let (s1, k) := s.newWork
            .silent (s1.updRecv n (fun x => { x with routes := x.routes.map (fun q => if q = o then { q with removing := true, work := k } else q) })) (.work k)
          else .done (s.updRecv n (fun x => { x with routes := x.routes.erase o })) (Rsp.plain .served)
      else if mine.isSome then
        .done (s.updRecv n (fun x => { x with routes := x.routes.map (fun q => if some q = mine then { q with landing := (routeOf w p true 0).landing } else q) })) (Rsp.plain .served)
      else if uPos u = s.core.pos ∧ s.ing.recvs.any (fun e => e.2.routes.any (fun o => o.layer == u)) then
        let (s1, k) := s.newWork
        .silent (s1.updRecv n (fun x => { x with routes := x.routes ++ [routeOf w p false k] })) (.work k)
      else .done (s.updRecv n (fun x => { x with routes := x.routes ++ [routeOf w p true 0] })) (Rsp.plain .served),
    ask := fun s w p => s.answerWords w p ((pkRecv s p).routes.map (fun o => BitVec.ofNat 64 o.layer)) }

/-- STREAM_ROUTE. -/
def execStreamRoute (port : Port) (s : State) : Host.Outcome State Fault Refusal := s.ends (cmdStreamRoute.exec port s)

/-! ## Packets and frames -/

/-- A value of path p of a list of two. -/
def setPath {α : Type} (l : List α) (p : Nat) (v : α) : List α := l.set p v

/-- A change of a path (R423). -/
def State.pathState (s : State) (r path : Nat) (up : Bool) : State :=
  match s.recv r with
  | none => s
  | some x =>
    if x.pathUp.getD path false == up then s
    else
      (s.updRecv r (fun y => { y with pathUp := setPath y.pathUp path up })).mapCore
        (fun k => k.event 0xFE50 0 (recvUnit r) (r + path * 256 + b2n up * 512) (le 8 s.core.now))

/-- Path numbers that a packet shows as missed by one path and supplied by the other (R422): counted in ING_PATH_LOST. -/
def Recv.countLost (x : Recv) (path seq : Nat) (fresh wasUp : Bool) : Recv :=
  let other := 1 - path
  let bump (l : List Nat) (p n : Nat) : List Nat := l.set p (satAdd (l.getD p 0) n)
  if !x.dual then x
  else
    let l1 := if fresh && (!(x.pathUp.getD other false) || (x.pathSeq.getD other none).elim false (fun q => decide (seq < q))) then bump x.pathLost other 1 else x.pathLost
    let missed := match x.pathSeq.getD path none with
      | some q => (x.seen.filter (fun e => decide (q < e.1) && decide (e.1 < seq) && !bitOf e.2 path)).length
      | none => 0
    { x with pathLost := if wasUp then bump l1 path missed else l1 }

/-- The first number that an ST 2110-30 stream lacks below the highest that arrived (R418, R422). -/
def Recv.audioGap (x : Recv) : Option Nat :=
  let qs := x.frames.flatMap RxFrame.seqs
  let top := qs.foldl max 0
  let low := x.nextFirst.getD (qs.foldl min top)
  if x.essence = 2 then ((List.range (top - low)).map (low + ·)).find? (fun q => !qs.contains q) else none

/-- Samples of a packet put in the order of their numbers (R422). -/
def Recv.addAudio (x : Recv) (p : RtpPacket) : Recv :=
  if x.essence = 2 ∧ p.ok then { x with audio := x.audio.takeWhile (fun e => decide (e.1 < p.seq)) ++ [(p.seq, p.samples.map (fun e => e.2.2.2))] ++ x.audio.dropWhile (fun e => decide (e.1 < p.seq)) } else x

/-- Numbers missing from the frames in progress below the highest that arrived. -/
def Recv.missing (x : Recv) : Bool :=
  x.audioGap.isSome ||
  x.frames.any (fun f =>
    let top := f.seqs.foldl max 0
    let low := f.first.getD (f.seqs.foldl min top)
    decide (f.seqs.length < top + 1 - low))

/-- A sample's key: component, row, column. -/
def sampleKey (c x y : Nat) : Nat := (c * 2 ^ 14 + y) * 2 ^ 14 + x

/-- A packet added to its frame. -/
def RxFrame.add (f : RxFrame) (p : RtpPacket) : RxFrame :=
  let dup := p.samples.any (fun e => Tbl.has f.samples (sampleKey e.1 e.2.1 e.2.2.1)) || !(p.samples.map (fun e => sampleKey e.1 e.2.1 e.2.2.1)).Nodup
  { f with seqs := f.seqs ++ [p.seq], badSeqs := (if p.ok then f.badSeqs else f.badSeqs ++ [p.seq]), marker := (if p.marker then some p.seq else f.marker), spoilt := f.spoilt || p.field || dup,
           samples := p.samples.foldl (fun t e => Tbl.put t (sampleKey e.1 e.2.1 e.2.2.1) e.2.2.2) f.samples, pieces := if p.bytes.isEmpty then f.pieces else Tbl.put f.pieces p.seq p.bytes }

/-- A new frame: the lowest target that holds no reference (R417). -/
def State.newFrame (s : State) (r : Nat) (x : Recv) (ts : Nat) : State × RxFrame :=
  let video := decide (x.essence < 2)
  let t := if video then (surfsOf x.words).find? (fun u => (s.surf u).elim false (fun sf => !sf.locked && !sf.releasing && !s.lockFull (uNum u))) else none
  let f : RxFrame := { ts := ts, began := s.core.now, first := (if x.essence = 2 then none else x.nextFirst), seqs := [], badSeqs := [], marker := none, spoilt := false, samples := [], pieces := [], target := t.map uNum, lost := false }
  match t with
  | some u => (s.takeRef (uNum u) true (.receiver r), f)
  | none => (if video then s.updRecv r (fun y => { y with noBuffer := satInc y.noBuffer }) else s, f)

/-- INGEST_PACKET (R417, R418, R422, R423): a packet that matched a path of an open receiver. The first copy of a number counts; a good copy replaces one that failed a check. -/
def State.packet (s : State) (r path : Nat) (p : RtpPacket) : State :=
  match s.recv r with
  | none => s
  | some x0 =>
    if x0.st = 0 ∨ !x0.paths.contains path ∨ !(Tbl.find s.ing.ports (x0.portOf path)).elim false EthPort.link then s
    else
      let s1 := s.pathState r path true
      let had := (x0.seen.find? (fun e => e.1 == p.seq)).map Prod.snd
      let mended := p.ok && x0.frames.any (fun f => f.badSeqs.contains p.seq)
      let s2 := s1.updRecv r (fun x =>
        let y := x.countLost path p.seq had.isNone (x0.pathUp.getD path false)
        { y with pathAt := setPath y.pathAt path s.core.now, pathSeq := setPath y.pathSeq path (some (max p.seq ((y.pathSeq.getD path none).getD 0))),
                 seen := ((y.seen.filter (fun e => e.1 != p.seq)) ++ [(p.seq, had.getD 0 ||| 2 ^ path)]).drop (y.seen.length + 1 - 8192) })
      match s2.recv r with
      | none => s2
      | some x =>
        if x.closing.isSome && !x.frames.any (fun f => f.ts == p.ts) then s2
        else if had.isSome && !mended then s2
        else if mended then
          s2.updRecv r (fun y => { y.addAudio p with frames := y.frames.map (fun f => if f.badSeqs.contains p.seq then { f with badSeqs := f.badSeqs.filter (· != p.seq) } else f) })
        else
          let (s3, f0) := if x.frames.any (fun f => f.ts == p.ts) then (s2, none) else (fun q => (q.1, some q.2)) (s2.newFrame r x p.ts)
          let s4 := s3.updRecv r (fun y =>
            let fs := y.frames ++ f0.toList
            let fs1 := fs.map (fun f => if f.ts = p.ts then f.add p else f)
            { y.addAudio p with frames := fs1, nextFirst := if p.marker && x.essence != 2 then some (p.seq + 1) else y.nextFirst })
          s4.updRecv r (fun y => { y with waitSince := if y.missing then some (y.waitSince.getD s.core.now) else none })

/-- INGEST_PACKET. -/
def execIngestPacket (recv path : Nat) (p : RtpPacket) (s : State) : Host.Outcome State Fault Refusal := s.ends (s.packet recv path p)

/-- MERGE_TIMEOUT (R422): MERGE_US after a higher number arrived, a missing number is lost. -/
def execMergeTimeout (recv : Nat) (s : State) : Host.Outcome State Fault Refusal :=
  s.ends (match s.recv recv with
    | none => s
    | some x =>
      match x.waitSince with
      | none => s
      | some t => if s.core.now < t + x.f 0 47 32 * 1000 then s
          else s.updRecv recv (fun y => { y with waitSince := none, nextFirst := (y.audioGap.elim y.nextFirst (fun g => let later := (y.frames.flatMap RxFrame.seqs).filter (fun q => decide (g < q)); later.head?.map (fun q => later.foldl min q))), frames := y.frames.map (fun f =>
            let top := f.seqs.foldl max 0
            let low := f.first.getD (f.seqs.foldl min top)
            if decide (f.seqs.length < top + 1 - low) || y.audioGap.elim false (fun g => f.seqs.all (fun q => decide (q < g))) then { f with lost := true } else f) }))

/-- The numbers from the first packet to the marker all arrived (R418, 1). -/
def RxFrame.whole (f : RxFrame) : Bool :=
  match f.marker with
  | none => false
  | some m => let low := f.first.getD (f.seqs.foldl min m); f.seqs.all (fun q => decide (low ≤ q) && decide (q ≤ m)) && f.seqs.length == m + 1 - low

/-- Samples that a frame of a size and sampling has. -/
def samplesOf (w h sampling : Nat) : Nat :=
  match sampling with
  | 0 => w * h + 2 * (w / 2 * h)
  | 2 => w * h + 2 * (w / 2 * (h / 2))
  | _ => 3 * w * h

/-- The columns and rows of a component. -/
def compSize (w h sampling c : Nat) : Nat × Nat := if c = 0 then (w, h) else match sampling with | 0 => (w / 2, h) | 2 => (w / 2, h / 2) | _ => (w, h)

/-- The payload covers every sample exactly once, no field bit (R418, 3). -/
def RxFrame.covers (f : RxFrame) (x : Recv) : Bool :=
  !f.spoilt && f.samples.length == samplesOf (x.f 4 15 0) (x.f 4 31 16) (x.f 4 35 32) &&
    f.samples.all (fun e =>
      let c := e.1 / 2 ^ 28
      let sz := compSize (x.f 4 15 0) (x.f 4 31 16) (x.f 4 35 32) c
      decide (c < 3) && decide (e.1 % 2 ^ 14 < sz.1) && decide (e.1 / 2 ^ 14 % 2 ^ 14 < sz.2))

/-- The codestream of a frame, pieces in order. -/
def RxFrame.codestream (f : RxFrame) : List Byte := (Tbl.vals f.pieces).flatten

/-- A sample of a frame at the stream's depth: sent as such, or decoded from JPEG XS (R410; a free function of the codestream). -/
def Recv.sample (x : Recv) (f : RxFrame) (c col row : Nat) : Nat :=
  let n := x.f 4 39 36
  if x.essence = 1 then (Config.jpegXs f.codestream (sampleKey c col row)).toNat % 2 ^ n else Tbl.at f.samples 0 (sampleKey c col row) % 2 ^ n

/-- A sample in stored form: 12 bits become 10 (R416). -/
def Recv.stored (x : Recv) (f : RxFrame) (c col row : Nat) : Nat := let v := x.sample f c col row; if x.f 4 39 36 = 12 then min 1023 ((v + 2) / 4) else v

/-- An element of a target's plane from the samples (Table 11.4): RGB with opaque alpha, luma, chroma planes apart or together. -/
def Recv.element (x : Recv) (f : RxFrame) (format plane col row : Nat) : Nat :=
  let st (c : Nat) : Nat := x.stored f c col row
  if format = 0x01 then 255 * 2 ^ 24 + st 0 * 2 ^ 16 + st 1 * 2 ^ 8 + st 2
  else if format = 0x02 then 3 * 2 ^ 30 + st 0 * 2 ^ 20 + st 1 * 2 ^ 10 + st 2
  else
    let pf := (planesOf format).getD plane ⟨8, [(0, 8)], 1, 1⟩
    let lo (i : Nat) : Nat := (pf.chans.getD i (0, 8)).1
    if plane = 0 then st 0 * 2 ^ lo 0
    else if (planesOf format).length = 2 then st 1 * 2 ^ lo 0 + st 2 * 2 ^ lo 1
    else st plane * 2 ^ lo 0

/-- The first condition of R418 that a video frame fails, 0 where it is good. -/
def RxFrame.fails (f : RxFrame) (x : Recv) : Nat :=
  if f.lost || !f.whole then 1
  else if !f.badSeqs.isEmpty then 2
  else if x.essence == 0 && !f.covers x || f.spoilt then 3
  else if x.essence == 1 && !Config.jpegXsOk f.codestream then 4
  else if x.lastTs == some f.ts then 5
  else if f.target.isNone then 6
  else 0

/-- Writes what arrived of a frame into its target (R417). -/
def State.storeFrame (s : State) (x : Recv) (f : RxFrame) : State :=
  match f.target with
  | none => s
  | some n =>
    match Tbl.find s.srf.surfs n with
    | none => s
    | some sf =>
      let had (p col row : Nat) : Bool := x.essence == 1 || Tbl.has f.samples (sampleKey p col row)
      (List.range (planesOf sf.format).length).foldl (fun t p =>
        t.putRect n 14 x.owner 0 p 0 0 (sf.shape.pw p) (sf.shape.ph p) (fun col row => if had p col row then x.element f sf.format p col row else s.elem sf p col row)) s

/-- CRC-64 over a good frame's samples: planes in order, rows, samples in stored form (R366). -/
def State.frameCrc (s : State) (sf : Surf) : Nat :=
  crc64 ((List.range (planesOf sf.format).length).flatMap (fun p =>
    (List.range (sf.shape.ph p)).flatMap (fun y => (List.range (sf.shape.pw p)).flatMap (fun c => le (sf.shape.eb p) (s.elem sf p c y)))))

/-- The media clock rate of an essence (ST 2059-1). -/
def Recv.clock (x : Recv) : Nat := if x.essence = 2 then (if x.f 4 8 8 = 1 then 96000 else 48000) else 90000

/-- The capture instant of an RTP timestamp (R421): the latest device time at or before now whose media clock value it is; none where it does not lie before now or lies more than 1 s back. -/
def captureAt (now rate ts : Nat) : Option Nat :=
  let tick := now * rate / 10 ^ 9
  let d := (tick + 2 ^ 32 - ts % 2 ^ 32) % 2 ^ 32
  if d = 0 ∨ tick < d then none
  else
    let t := ceilDiv ((tick - d + 1) * 10 ^ 9) rate - 1
    if now ≤ t + 10 ^ 9 then some t else none

/-- The refreshes of a completed frame (R419, R368). -/
def State.refreshAll (s : State) (r stamp : Nat) (moving : Bool) : State := (s.tagsFrom 1 r).foldl (fun t n => t.pathRefresh n 1 r stamp moving) s

/-- The declaration that takes effect at a good frame (R427): a change to MOVING starts the count, a change to STATIC forces the moving-frame refresh. -/
def Recv.declare (x : Recv) : Recv :=
  match x.declared with
  | none => x
  | some (m, k) => { x with moving := m, k := k, declared := none, run := (if m && !x.moving then 0 else x.run), lastCrc := (if m && !x.moving then none else x.lastCrc), forceMoving := x.forceMoving || (x.moving && !m) }

/-- The posts of a completed frame to the receiver's local routes (R429); frames that complete after the switch only (R430). -/
def State.postFrame (s : State) (r : Nat) (x : Recv) (n : Nat) : State :=
  (x.routes.filter (fun o => o.active && s.routeHere o)).foldl (fun t o => t.devicePost (subKey o.layer) (surfUnit n) o.inst o.slice (some r)) s

/-- Sends a completed frame once in each direction that reaches a routed device (R568); port 1 is down, port 0 up. -/
def State.sendShared (s : State) (r stamp : Nat) (x : Recv) : State :=
  let dirs := ((s.routePos x).filterMap (fun d => ((pathTo s.rhz.members s.core.pos d s.rhz.broken).head?).map Prod.snd)).dedup
  { s with rhz := { s.rhz with videoOut := s.rhz.videoOut ++ dirs.map (fun d => (b2n d, r, stamp)) } }

/-- A good frame (R419, R367, R426): refreshes, run count, freeze report, posts. -/
def State.goodFrame (s : State) (r : Nat) (x0 : Recv) (f : RxFrame) : State :=
  let x := x0.declare
  let crc := f.target.bind (fun n => (Tbl.find s.srf.surfs n).map s.frameCrc)
  let video := decide (x.essence < 2)
  let checked := x.moving && video
  let run := if checked then (if x.lastCrc.isSome && x.lastCrc == crc then x.run + 1 else 1) else x.run
  let differs := checked && x.lastCrc.isSome && x.lastCrc != crc
  let frozen := checked && decide (x.k ≤ run)
  let cap := if x.f 0 24 24 = 1 then captureAt s.core.now x.clock f.ts else some s.core.now
  let fall := x.f 0 24 24 == 1 && cap.isNone
  let stamp := cap.getD s.core.now / 1000 % 2 ^ 48
  let moving := x.forceMoving || differs
  let s1 := f.target.elim s (fun n => s.dropRef n (.receiver r) 0 0 true)
  let s2 := s1.updRecv r (fun y =>
    { y with moving := x.moving, k := x.k, declared := none, forceMoving := false, run := run, lastCrc := (if checked then crc else none), lastTs := some f.ts, lastGood := s.core.now, good := y.good + 1,
             stampFallback := (if fall then satInc y.stampFallback else y.stampFallback), st := (if frozen then 3 else 2), frames := y.frames.drop 1 })
  let s3 := s2.refreshAll r stamp moving
  let s4 := if frozen && x0.st != 3 then s3.freezeTags r run else s3
  f.target.elim s4 (fun n => (s4.postFrame r x n).sendShared r stamp x)

/-- A frame that is not good (R418). -/
def State.badFrame (s : State) (r : Nat) (f : RxFrame) (cause : Nat) : State :=
  (f.target.elim s (fun n => s.dropRef n (.receiver r) 0 0 true)).updRecv r (fun y => { y with badFrames := satInc y.badFrames, cause := cause, frames := y.frames.drop 1 })

/-- Closes a receiver whose last frame has ended (R433). -/
def State.endClosing (s : State) (r : Nat) : State :=
  match s.recv r with
  | some x => (match x.closing with | some (_, wd) => if x.frames.isEmpty then s.closeRecv r wd else s | none => s)
  | none => s

/-- Appends ANC bytes to the ring of an ST 2110-40 receiver: false where a byte did not reach it. The layout in the ring is the packets as received, one after the other (DESIGN CHOICE, log entry 43). -/
def State.ancRing (s : State) (r : Nat) (x : Recv) (bs : List Byte) : State × Bool :=
  let w : Who := { secure := false, inst := x.owner.getD 0, slice := 0, remote := none }
  let size := 2 ^ x.f 7 4 0
  let res := (bs.zipIdx).foldl (fun (a : State × Bool) b =>
    match a.1.hostWrite w (x.words.getD 6 0 + (x.ringNext + b.2) % size) [b.1] with
    | (t, none) => (t, a.2)
    | (t, some _) => (t, false)) (s, true)
  (res.1.updRecv r (fun y => { y with ringNext := (y.ringNext + bs.length) % size }), res.2)

/-- STREAM_FRAME_COMPLETE (R419): the oldest frame in progress, once its marker is there and no number is waited for. -/
def State.frameComplete (s : State) (r : Nat) : State :=
  match s.recv r with
  | none => s
  | some x =>
    match x.frames with
    | [] => s
    | f :: _ =>
      let pending := x.waitSince.isSome && !f.lost && !f.whole
      if x.essence ≠ 2 ∧ (f.marker.isNone ∨ pending) then s
      else
        let done :=
          if x.essence < 2 then
            let s1 := s.storeFrame x f
            match f.fails x with
            | 0 => s1.goodFrame r x f
            | c => s1.badFrame r f c
          else if x.essence = 2 then
            let rate := x.clock
            let n := (x.frames.map (fun g => (g.samples.filter (fun e => e.1 / 2 ^ 28 == 0)).length)).foldl (· + ·) 0
            let top := (x.frames.flatMap RxFrame.seqs).foldl max 0
            if x.frames.any RxFrame.lost then (s.badFrame r f 1).updRecv r (fun y => { y with frames := x.frames.filter (fun g => !g.lost) })
            else if x.waitSince.isSome || decide (n * 100 < rate) then s
            else if x.frames.any (fun g => !g.badSeqs.isEmpty) then (s.badFrame r f 2).updRecv r (fun y => { y with frames := [], nextFirst := some (top + 1) })
            else (s.goodFrame r x f).updRecv r (fun y => { y with frames := [], nextFirst := some (top + 1) })
          else
            let a := s.ancRing r x f.codestream
            if f.lost || !f.whole then s.badFrame r f 1
            else if !f.badSeqs.isEmpty then s.badFrame r f 2
            else if a.2 then a.1.goodFrame r x f else a.1.badFrame r f 6
        done.endClosing r

/-- STREAM_FRAME_COMPLETE. -/
def execStreamFrameComplete (recv : Nat) (s : State) : Host.Outcome State Fault Refusal := s.ends (s.frameComplete recv)

/-- STREAM_FRAME_ABANDON (R418, R433): two frame periods without a marker, or 2 ms after the receiver was stopped. -/
def execStreamFrameAbandon (recv : Nat) (s : State) : Host.Outcome State Fault Refusal :=
  s.ends (match s.recv recv with
    | none => s
    | some x =>
      match x.frames with
      | [] => s
      | f :: _ =>
        let old := f.marker.isNone && decide (2 * fpsDen x.words * 10 ^ 9 ≤ (s.core.now - f.began) * x.f 5 31 0) && decide (x.essence < 2)
        let cut := x.closing.elim false (fun c => decide (c.1 + 2 * 10 ^ 6 ≤ s.core.now))
        if old || cut then ((s.storeFrame x f).badFrame recv f 1).endClosing recv else s)

/-- PATH_DOWN (R423): no packet for 10 ms. -/
def execPathDown (recv path : Nat) (s : State) : Host.Outcome State Fault Refusal :=
  s.ends (match s.recv recv with
    | none => s
    | some x => if x.st ≠ 0 ∧ x.paths.contains path ∧ x.pathAt.getD path 0 + 10 ^ 7 ≤ s.core.now then s.pathState recv path false else s)

/-- STREAM_LOST (R426): LOSS_MS without a good frame. -/
def execStreamLost (recv : Nat) (s : State) : Host.Outcome State Fault Refusal :=
  s.ends (match s.recv recv with
    | none => s
    | some x =>
      if (x.st = 2 ∨ x.st = 3) ∧ x.lastGood + x.f 0 63 48 * 10 ^ 6 ≤ s.core.now then
        (s.updRecv recv (fun y => { y with st := 4 })).mapCore (fun k => k.event 0xFE52 0 (recvUnit recv) recv (le 8 x.good))
      else s)

/-! ## Ports and PTP -/

/-- Every open path on an Ethernet port goes DOWN (R423). -/
def State.portDown (s : State) (port : Nat) : State :=
  s.ing.recvs.foldl (fun t e => e.2.paths.foldl (fun t p => if e.2.st ≠ 0 ∧ e.2.portOf p = port then t.pathState e.1 p false else t) t) s

/-- ETH_LINK_CHANGE (R411, R423). -/
def execEthLinkChange (index : Nat) (up : Bool) (s : State) : Host.Outcome State Fault Refusal :=
  s.ends (match Tbl.find s.ing.ports index with
    | none => s
    | some q =>
      let s1 := { s with ing := { s.ing with ports := Tbl.put s.ing.ports index { q with link := up && bitOf q.w0 16 } } }
      if up then s1 else s1.portDown index)

/-- An open path lies on a port. -/
def State.portOpen (s : State) (port : Nat) : Bool := s.ing.recvs.any (fun e => e.2.st != 0 && e.2.paths.any (fun p => e.2.portOf p == port))

/-- INGEST_PORT_SET (R411): a change on a port with an open path drops its link. -/
def cmdIngestPortSet : Cmd :=
  { opcode := 0x0600, forms := .both, secure := false, always := false,
    form := fun _ _ p => pkLen p 3 && pkF p 0 3 2 == 0 && fld (pkW p 0) 63 17 == 0 && fld (pkW p 1) 63 38 == 0 && decide (pkF p 1 37 32 ≤ 32) && pkW p 2 == 0,
    qform := bufForm, unitOk := fun _ _ p => pkIs p 0x40, may := pfOnly, active := ownActive, check := noCheck,
    run := fun s _ p =>
      let n := uIdx (pkUnit p)
      let q := Tbl.at s.ing.ports { w0 := 0, w1 := 0, link := false } n
      let changed := q.w0 != pkW p 0 || q.w1 != pkW p 1
      let drop := changed && (s.portOpen n || !bitOf (pkW p 0) 16)
      let s1 := { s with ing := { s.ing with ports := Tbl.put s.ing.ports n { w0 := pkW p 0, w1 := pkW p 1, link := q.link && !drop } } }
      .done (if drop then s1.portDown n else s1) (Rsp.plain .served),
    ask := fun s w p => let q := Tbl.at s.ing.ports { w0 := 0, w1 := 0, link := false } (uIdx (pkUnit p)); s.answerWords w p [BitVec.ofNat 64 q.w0, BitVec.ofNat 64 q.w1, 0] }

/-- INGEST_PORT_SET. -/
def execIngestPortSet (port : Port) (s : State) : Host.Outcome State Fault Refusal := s.ends (cmdIngestPortSet.exec port s)

/-- PTP_SET (R412). -/
def cmdPtpSet : Cmd :=
  { opcode := 0x0607, forms := .both, secure := false, always := false, form := fun _ _ p => pkLen p 1 && fld (pkW p 0) 63 12 == 0, qform := bufForm, unitOk := atDevice, may := pfOnly, active := ownActive, check := noCheck,
    run := fun s _ p => .done { s with ing := { s.ing with ptp := { s.ing.ptp with domain := pkF p 0 7 0, ports := pkF p 0 11 8 } } } (Rsp.plain .served),
    ask := fun s w p => s.answerWords w p [BitVec.ofNat 64 (s.ing.ptp.domain + s.ing.ptp.ports * 256)] }

/-- PTP_SET. -/
def execPtpSet (port : Port) (s : State) : Host.Outcome State Fault Refusal := s.ends (cmdPtpSet.exec port s)

/-- Moves the PTP clock to a state, journaled (R412). -/
def State.ptpState (s : State) (st : Nat) : State :=
  if s.ing.ptp.st = st then s
  else
    { s with ing := { s.ing with ptp := { s.ing.ptp with st := st } } }.mapCore (fun k => k.event 0xFE51 0 0 st (le 8 (enc 64 s.ing.ptp.offset)))

/-- True where device time may step (R413): the first lock, no tag, no output genlocked to device time. -/
def State.mayStep (s : State) : Bool := !s.ing.ptp.everLocked && s.led.tags.isEmpty && !s.frd.outs.any (fun e => fld (e.2.genlock.getD 0 0) 1 0 == 1)

/-- Device time follows the master (R413): a step forward at the first lock where it may, else slewing of at most 100 ppm of the time since the last sync, never backwards. -/
def State.follow (s : State) (first : Bool) (master : Nat) : State :=
  let now := s.core.now
  let diff := dist now master
  if first && s.mayStep && decide (now ≤ master ∧ master < 2 ^ 64) then
    { s.mapCore (fun k => { k with dt := BitVec.ofNat 64 master }) with ing := { s.ing with ptp := { s.ing.ptp with slewing := false } } }
  else if diff ≤ 1000 then { s with ing := { s.ing with ptp := { s.ing.ptp with slewing := false } } }
  else
    let step := if now < master then min diff ((now - s.ing.ptp.lastSync) / 10000) else 0
    { s.mapCore (fun k => { k with dt := BitVec.ofNat 64 (if now + step < 2 ^ 64 then now + step else now) }) with ing := { s.ing with ptp := { s.ing.ptp with slewing := true } } }

/-- PTP_MESSAGE (R412, R413): an announce or a sync of the domain on a port that may carry PTP; offset is the PTP clock's offset from the master in ns, master the master's time. -/
def execPtpMessage (index domain : Nat) (announce : Bool) (offset : Int) (master : Nat) (s : State) : Host.Outcome State Fault Refusal :=
  s.endsTime (
    let p := s.ing.ptp
    if domain ≠ p.domain ∨ !bitOf p.ports index ∨ !(Tbl.find s.ing.ports index).elim false EthPort.link then s
    else if announce then
      let s1 := { s with ing := { s.ing with ptp := { p with lastAnnounce := s.core.now } } }
      if p.st = 0 ∨ p.st = 3 then { s1 with ing := { s1.ing with ptp := { s1.ing.ptp with goodSyncs := 0 } } }.ptpState 1 else s1
    else if p.st = 0 ∨ p.st = 3 then s
    else
      let near := decide (-100 ≤ offset) && decide (offset ≤ 100)
      let n := if near then min 16 (p.goodSyncs + 1) else 0
      let s1 := { s with ing := { s.ing with ptp := { p with offset := offset, goodSyncs := n } } }
      let first := n == 16 && !p.everLocked
      let s2 := (if n = 16 then s1.ptpState 2 else if p.st = 2 then s1.ptpState 1 else s1)
      let s3 := if n == 16 || p.everLocked then s2.follow first master else s2
      { s3 with ing := { s3.ing with ptp := { s3.ing.ptp with everLocked := p.everLocked || n == 16, lastSync := s.core.now } } })

/-- PTP_HOLDOVER (R412): no valid announce within the timeout. -/
def execPtpHoldover (s : State) : Host.Outcome State Fault Refusal :=
  s.ends (if s.ing.ptp.st = 2 ∨ (s.ing.ptp.st = 1 ∧ s.ing.ptp.everLocked) then s.ptpState 3 else if s.ing.ptp.st = 1 then s.ptpState 0 else s)

/-- PTP_STATUS (Table 20.5): OFFSET signed and saturating. -/
def Ptp.status (p : Ptp) : Nat := enc 16 (clampI (-32768) 32767 p.offset) * 65536 + b2n p.slewing * 4 + p.st

end Sys2Proof.Machine
end

