-- ==== Sys2Proof/Machine/Signatures.lean ====
section
/-! DEFINITION. Signed regions, expected-value records, results and check engines (chapter 9: R347 to R368). -/

namespace Sys2Proof.Machine

/-! ## Signed regions -/

/-- A signed region by unit ID. -/
def State.sreg (s : State) (u : Nat) : Option SRegion := if uCls u = 0x52 then Tbl.find s.led.sregs (subKey u) else none

/-- A signed region that is not yet at its first latch point. -/
def newSreg (w : Who) : SRegion :=
  { place := 0, rect := 0, moving := false, latchFault := false, inst := w.inst, slice := w.slice, secure := w.secure, st := .none, newSet := none, removing := none, orphan := false, tapAt := 0, recs := [], sticky := none,
    base := none, lastAlive := 0, lastFlags := 0, lastFrame := 0, lastExpected := 0, faults := 0, crc := 0, crcFrame := 0, drawn := none, waiting := false, captured := false, layerRepeat := false, repeatedPx := 0, veil := noVeil }

/-- The frond of a SIG_REGION_SET: its UNIT's INDEX. -/
def sigFrond (p : Packet) : Nat := uIdx (pkUnit p)

/-- PLACE lies on the frond: a layer of it, or the output its committed mode names (R347). -/
def State.placeOn (s : State) (f u : Nat) : Bool := (uCls u == 0x21 && (s.layer u).isSome && uIdx u == f) || (uCls u == 0x22 && unitInRange u && s.frondOfPlace u == f)

/-- Width and height 1 to 8,192 (R349). -/
def sigRectOk (w : Nat) : Bool := let (_, _, a, b) := rectOf w; decide (1 ≤ a) && decide (a ≤ 8192) && decide (1 ≤ b) && decide (b ≤ 8192)

/-- UNIT of SIG_REGION_SET: a frond, or a signed region. -/
def atFrondOrSreg (s : State) (_ : Who) (p : Packet) : Bool := (pkIs p 0x20 && !pkQuery p) || (pkIs p 0x52 && (s.sreg (pkUnit p)).isSome)

/-- UNIT is a signed region. -/
def atSreg (s : State) (_ : Who) (p : Packet) : Bool := pkIs p 0x52 && (s.sreg (pkUnit p)).isSome

/-- Creator of the signed region. -/
def SRegion.mine (r : SRegion) (w : Who) : Bool := if r.secure then w.secure else w.is r.inst

/-- SIG_REGION_SET (R348, R349). -/
def cmdSigRegionSet : Cmd :=
  { opcode := 0x0800, forms := .both, secure := true, always := false,
    form := fun s _ p => pkLen p 2 && fld (pkW p 0) 63 34 == 0 && sigRectOk (pkW p 1) && s.placeOn (sigFrond p) (pkF p 0 31 0), qform := bufForm, unitOk := atFrondOrSreg,
    may := fun s w p =>
      (s.sreg (pkUnit p)).elim true (fun r => r.mine w || w.secure) &&
      (pkQuery p || w.secure || (s.layer (pkF p 0 31 0)).elim false (fun l => l.owner == w.inst)),
    active := ownActive,
    check := fun s w p =>
      let pl := pkF p 0 31 0
      if (uCls pl == 0x21 && !s.placeBandA pl) || !s.authed w then some (Rsp.plain .refusedBand)
      else if uCls (pkUnit p) == 0x20 && decide (64 ≤ (Tbl.keep s.led.sregs (fun k _ => k / 256 == sigFrond p)).length) then some (Rsp.code .refusedShare 0x40)
      else none,
    run := fun s w p =>
      let f := sigFrond p
      let key := if uCls (pkUnit p) = 0x52 then some (subKey (pkUnit p)) else Tbl.lowestFree s.led.sregs 64 (f * 256)
      match key with
      | none => .done s (Rsp.code .refusedShare 0x40)
      | some k =>
        let r := (Tbl.find s.led.sregs k).getD (newSreg w)
        let r1 := { r with newSet := some (pkF p 0 31 0, pkW p 1, bitOf (pkW p 0) 32, bitOf (pkW p 0) 33, 0), removing := none }
        .done { s with led := { s.led with sregs := Tbl.put s.led.sregs k r1 } } (Rsp.ok (s.core.here (uid 0x52 f (k % 256))) 0 0),
    ask := fun s w p => s.answerWords w p ((s.sreg (pkUnit p)).elim [] (fun r => [s.core.here r.place + b2n r.moving * 2 ^ 32 + b2n r.latchFault * 2 ^ 33, r.rect].map (BitVec.ofNat 64))) }

/-- SIG_REGION_SET. -/
def execSigRegionSet (port : Port) (s : State) : Host.Outcome State Fault Refusal := s.ends (cmdSigRegionSet.exec port s)

/-- SIG_REGION_REMOVE (R349): takes effect at the next latch point. -/
def cmdSigRegionRemove : Cmd :=
  { opcode := 0x0801, forms := .setOnly, secure := true, always := false, form := fun _ _ p => pkLen p 0, qform := bufForm, unitOk := atSreg,
    may := fun s w p => w.secure || (s.sreg (pkUnit p)).elim false (fun r => r.mine w), active := ownActive, check := noCheck,
    run := fun s _ p => .done (s.updSreg (subKey (pkUnit p)) (fun r => { r with removing := some 0 })) (Rsp.plain .served), ask := noAsk }

/-- SIG_REGION_REMOVE. -/
def execSigRegionRemove (port : Port) (s : State) : Host.Outcome State Fault Refusal := s.ends (cmdSigRegionRemove.exec port s)

/-- The frame whose latch point has most recently passed on a frond's output (R352). -/
def State.latchedFrame (s : State) (f : Nat) : Nat :=
  match s.frond f with
  | none => 0
  | some fr => ((fr.next.or fr.scan).map Scene.frame).getD ((s.outOf f).elim 0 (fun o => o.2.frames))

/-- Record i of SIG_EXPECT: region unit and the record (Table 9.3). -/
def expectRec (p : Packet) (i : Nat) : Nat × SigRec :=
  let a := pkW p (1 + 2 * i)
  let b := pkW p (2 + 2 * i)
  (fld a 31 0, { frame := fld a 63 32, expected := fld b 31 0, alive := fld b 39 32, sticky := bitOf b 40 })

/-- Why a record is not accepted (Table 9.4); 0 where it is. -/
def State.expectReason (s : State) (w : Who) (p : Packet) (i : Nat) : Nat :=
  let (u, r) := expectRec p i
  match s.sreg u with
  | none => 1
  | some g =>
    if !g.mine w then 1
    else
      let d := (r.frame + 2 ^ 32 - s.latchedFrame (uIdx u) % 2 ^ 32) % 2 ^ 32
      if d = 0 ∨ 2 ^ 31 ≤ d then 2 else if 255 < d then 3 else if r.sticky && g.moving then 4 else 0

/-- Frames after a base frame, modulo 2^32. -/
def frameAfter (base f : Nat) : Nat := (f + 2 ^ 32 - base % 2 ^ 32) % 2 ^ 32

/-- Queues a record in frame order; one for the same frame is replaced (R352). -/
def SRegion.queueRec (g : SRegion) (base : Nat) (r : SigRec) : SRegion :=
  let rest := g.recs.filter (fun x => x.frame != r.frame)
  { g with recs := rest.takeWhile (fun x => decide (frameAfter base x.frame < frameAfter base r.frame)) ++ [r] ++ rest.dropWhile (fun x => decide (frameAfter base x.frame < frameAfter base r.frame)) }

/-- Takes a packet's records in turn: the state, how many were accepted, and the first that was not. -/
def State.expectAll (s : State) (w : Who) (p : Packet) (n : Nat) : State × Nat × Option (Nat × Nat) :=
  (List.range n).foldl (fun a i =>
    let why := a.1.expectReason w p i
    let (u, r) := expectRec p i
    if why = 0 then (a.1.updSreg (subKey u) (fun g => g.queueRec (a.1.latchedFrame (uIdx u)) r), a.2.1 + 1, a.2.2)
    else ((if why = 2 then { a.1 with led := { a.1.led with sigLate := satInc a.1.led.sigLate } } else a.1), a.2.1, a.2.2.or (some (i, why)))) (s, 0, none)

/-- The first region whose queue a packet's records would overfill: 8 records per region (R352). -/
def State.expectFull (s : State) : Option Nat := (s.led.sregs.find? (fun e => decide (8 < e.2.recs.length))).map (fun e => uid 0x52 (e.1 / 256) (e.1 % 256))

/-- SIG_EXPECT (R351 to R353). -/
def cmdSigExpect : Cmd :=
  { opcode := 0x0802, forms := .setOnly, secure := true, always := false,
    form := fun _ _ p => let c := pkF p 0 7 0
      fld (pkW p 0) 63 8 == 0 && decide (1 ≤ c) && decide (c ≤ 254) && pkLen p (1 + 2 * c) && (List.range c).all (fun i => fld (pkW p (2 + 2 * i)) 63 41 == 0),
    qform := bufForm, unitOk := atDevice, may := anyone, active := ownActive,
    check := fun s w _ => if s.authed w then none else some (Rsp.plain .refusedBand),
    run := fun s w p =>
      let r := s.expectAll w p (pkF p 0 7 0)
      match r.1.expectFull with
      | some u => .delayed s (Rsp.plain .delayedUnitBusy) (.unit u) false
      | none =>
        let bad := pkF p 0 7 0 - r.2.1
        .done r.1 { st := if bad = 0 then .served else .servedPartial, r0 := r.2.1, r1 := bad, r2 := r.2.2.elim 0 (fun e => e.1 + e.2 * 256) },
    ask := noAsk }

/-- SIG_EXPECT. -/
def execSigExpect (port : Port) (s : State) : Host.Outcome State Fault Refusal := s.ends (cmdSigExpect.exec port s)

/-- SIG_CLEAR (R359): a LATCHED region enters PENDING and stays veiled; SIG_CLEARED is journaled. -/
def cmdSigClear : Cmd :=
  { opcode := 0x0803, forms := .setOnly, secure := true, always := false, form := fun _ _ p => pkLen p 0, qform := bufForm, unitOk := atSreg, may := secOnly, active := ownActive, check := noCheck,
    run := fun s _ p =>
      match s.sreg (pkUnit p) with
      | none => .done s (Rsp.plain .rejectedUnit)
      | some r =>
        if r.st = .latched then
          .done ((s.updSreg (subKey (pkUnit p)) (fun g => { g with st := .pending, base := none })).mapCore (fun k => k.event 0xFE41 0 (uKey (pkUnit p)) (uKey (pkUnit p)) (le 8 r.lastFrame))) (Rsp.plain .served)
        else .done s (Rsp.plain .served),
    ask := noAsk }

/-- SIG_CLEAR. -/
def execSigClear (port : Port) (s : State) : Host.Outcome State Fault Refusal := s.ends (cmdSigClear.exec port s)

/-- The code of a state of Table 9.2. -/
def SigSt.code : SigSt → Nat
  | .none => 0
  | .pending => 1
  | .checking => 2
  | .faulted => 3
  | .latched => 4

/-- SIG_STATE (Table 9.6). -/
def SRegion.word (r : SRegion) : Nat :=
  r.st.code * 2 ^ 29 + b2n r.moving * 2 ^ 28 + b2n r.latchFault * 2 ^ 27 + min r.recs.length 7 * 2 ^ 24 + r.lastFlags * 2 ^ 16 + r.lastAlive * 256

/-- SIG_STATUS (R360). -/
def cmdSigStatus : Cmd :=
  { opcode := 0x0804, forms := .queryOnly, secure := false, always := false, form := fun _ _ p => pkLen p 0, qform := fun _ _ p => pkLen p 0, unitOk := atSreg,
    may := fun s w p => (s.sreg (pkUnit p)).elim false (fun r => r.mine w) || w.is 0, active := ownActive, check := noCheck, run := noRun,
    ask := fun s w p =>
      match s.sreg (pkUnit p) with
      | none => (s, Rsp.plain .rejectedUnit)
      | some r => (s, if r.mine w then Rsp.ok r.word (r.lastFrame % 2 ^ 32) r.faults else Rsp.ok r.word 0 0) }

/-- SIG_STATUS. -/
def execSigStatus (port : Port) (s : State) : Host.Outcome State Fault Refusal := s.ends (cmdSigStatus.exec port s)

/-! ## Results -/

/-- What a frame consumes: the record used, the sticky record that stays, the queue left, the number dropped (R354). -/
structure Consumed where
  used : Option SigRec
  sticky : Option SigRec
  recs : List SigRec
  dropped : Nat
  deriving DecidableEq, Repr

/-- The record of a frame (R354). -/
def SRegion.consume (r : SRegion) (f : Nat) : Consumed :=
  let past := r.recs.filter (fun x => decide (2 ^ 31 ≤ frameAfter f x.frame))
  let exact := r.recs.find? (fun x => frameAfter f x.frame == 0)
  let old := if r.moving then none else (past.filter SigRec.sticky).getLast?.or r.sticky
  let used := exact.or old
  { used := used, sticky := (if used.elim false SigRec.sticky then used else if exact.isSome then none else r.sticky),
    recs := r.recs.filter (fun x => decide (0 < frameAfter f x.frame) && decide (frameAfter f x.frame < 2 ^ 31)),
    dropped := (past.filter (fun x => some x != used)).length }

/-- True where FROND[8] composed a line of a rectangle (R299). -/
def Frond.substitutes (fr : Frond) (r : Rect) : Bool := fr.substituted.any (fun y => decide (r.2.1 ≤ y) && decide ((y : Int) < r.2.2.2))

/-- The flags of a frame's result (Table 9.5). -/
def SRegion.flagsOf (r : SRegion) (used : Option SigRec) (subst : Bool) : Nat :=
  let hold := b2n r.layerRepeat * 128
  if r.drawn.isNone ∨ r.st = .pending ∨ r.st = .none then hold + 64
  else if subst then hold + 32
  else
    match used with
    | none => hold + 16
    | some x =>
      let rep := r.moving && r.base == some x.alive
      let jump := r.moving && r.base.elim false (fun b => x.alive != b && x.alive != (b + 1) % 256)
      hold + 1 + b2n (r.crc != x.expected) * 2 + b2n rep * 4 + b2n jump * 8

/-- The fault flags (Table 9.5). -/
def sigFaulty (flags : Nat) : Bool := bitOf flags 1 || bitOf flags 2 || bitOf flags 3 || bitOf flags 4 || bitOf flags 7

/-- The state after a result (Table 9.2, R358, R359). -/
def SRegion.nextSt (r : SRegion) (used : Bool) (flags : Nat) : SigSt :=
  if r.st = .none then .none
  else if sigFaulty flags then (if r.latchFault || r.st == .latched then .latched else .faulted)
  else
    match r.st with
    | .pending => if used then .checking else .pending
    | .faulted => if bitOf flags 0 then .checking else .faulted
    | t => t

/-- SIG_RESULT (R354 to R360): the result of a region whose rectangle has passed the tap. -/
def State.sigResult (s : State) (u : Nat) : State :=
  match s.sreg u with
  | none => s
  | some r =>
    if !r.waiting then s
    else
      let f := r.crcFrame
      let c := r.consume (f % 2 ^ 32)
      let subst := (s.frond (uIdx u)).elim false (fun fr => r.drawn.elim false fr.substitutes)
      let flags := r.flagsOf c.used subst
      let bad := sigFaulty flags
      let passing := bitOf flags 0 && !bad
      let advanced := c.used.elim false (fun x => r.base.elim false (fun b => x.alive == (b + 1) % 256))
      let st := r.nextSt c.used.isSome flags
      let alive := c.used.elim r.lastAlive SigRec.alive
      let veil := if bad then r.veil.begin .signature s.core.now else if passing && st != .latched then r.veil.finish .signature s.core.now else r.veil
      let cap := bad && !r.captured && !(r.veil.veiled && r.veil.badge == 3 && !(bitOf r.lastFlags 0 && !sigFaulty r.lastFlags))
      let entry := le 4 (s.core.here u) ++ le 4 f ++ le 4 r.crc ++ le 4 (c.used.elim 0 SigRec.expected) ++ le 1 alive ++ le 1 flags ++ List.replicate 6 0 ++ le 8 s.core.now
      let s1 := s.updSreg (subKey u) (fun g =>
        { g with waiting := false, st := st, recs := c.recs, sticky := c.sticky, base := (c.used.elim g.base (fun x => some x.alive)), lastAlive := alive, lastFlags := flags, lastFrame := f, lastExpected := c.used.elim 0 SigRec.expected,
                 faults := (if bad then satInc g.faults else g.faults), captured := (if passing then false else g.captured || bad), layerRepeat := false, veil := veil })
      let s2 := { s1 with led := { s1.led with results := s1.led.results ++ [entry], sigSkipped := satAdd s1.led.sigSkipped c.dropped } }
      let s3 := (if bad then s2.mapCore (fun k => (k.irq .secSigFault).event 0xFE40 0 u u (le 8 f ++ le 1 flags ++ le 1 alive)) else s2).noteCaptures u f
      let s4 := if cap then s3.requestCapture 3 u (uIdx u) f 0 r.inst 0 else s3
      if passing && advanced then (s4.tagsFrom 2 u).foldl (fun t n => t.pathRefresh n 2 u r.tapAt false) s4 else s4

/-- SIG_RESULT. -/
def execSigResult (region : Nat) (s : State) : Host.Outcome State Fault Refusal := s.ends (s.sigResult (uKey region))

/-- A MUST_UPDATE hold on a layer without a signed region (R357): reported to the SEC and journaled. -/
def State.mustUpdateFault (s : State) (layer frame : Nat) : State :=
  s.mapCore (fun k => (k.irq .secMustUpdate).event 0xFE40 0 layer layer (le 8 frame ++ le 1 128 ++ le 1 0))

/-! ## Check engines -/

/-- An idle check engine. -/
def idleEngine : Engine :=
  { mode := 0, scan := none, queued := none, running := false, run := 0, bytes := 0, check := 0, flags := 0, runFlags := 0, alive := 0, hasBase := false, began := 0, cancel := false }

/-- A check engine. -/
def State.engine (s : State) (e : Nat) : Engine := Tbl.at s.chk.engines idleEngine e

/-- Writes a check engine. -/
def State.putEngine (s : State) (e : Nat) (g : Engine) : State := { s with chk := { engines := Tbl.put s.chk.engines e g } }

/-- SPACE of a scan. -/
def scanSpace (p : Packet) : Nat := pkF p 0 49 48

/-- The bytes from the first row's start to the last row's end. -/
def scanEnd (p : Packet) : Nat := (pkF p 2 47 32 - 1) * pkF p 3 31 0 + pkF p 2 23 0

/-- The form of CHK_SCAN (R362, Table 9.10). -/
def scanForm (s : State) (_ : Who) (p : Packet) : Bool :=
  pkLen p 6 && pkF p 0 63 50 == 0 && scanSpace p != 3 && pkF p 0 47 16 == 0 && pkF p 0 7 6 == 0 && (pkF p 0 1 0 != 3 || decide (32 ≤ uIdx (pkUnit p))) &&
  pkF p 2 63 48 == 0 && decide (1 ≤ pkF p 2 47 32) && pkF p 2 31 24 == 0 && decide (1 ≤ pkF p 2 23 0) && pkF p 3 63 48 == 0 && (bitOf (pkW p 0) 5 == decide (1 ≤ pkF p 3 47 32)) &&
  (scanSpace p != 0 || (s.surf (pkF p 1 31 0)).elim false (fun sf => decide (pkF p 1 63 32 + scanEnd p ≤ sf.size * 65536)))

/-- UNIT of a scan: engines 0 to 15 and 32 to 39 (R361). -/
def atScanEngine (_ : State) (_ : Who) (p : Packet) : Bool := pkIs p 0x53 && !(decide (16 ≤ uIdx (pkUnit p)) && decide (uIdx (pkUnit p) < 32))

/-- Who may scan: instances on engines 0 to 15 and surfaces they may read; the secure firmware (Table 9.1, Table 9.10). -/
def mayScan (s : State) (w : Who) (p : Packet) : Bool :=
  w.secure || (decide (uIdx (pkUnit p) < 16) && scanSpace p == 0 && (s.surf (pkF p 1 31 0)).elim true (fun sf => sf.mayUse w false))

/-- The issuer of the scan an engine holds. -/
def scanIssuer (s : State) (w : Who) (p : Packet) : Bool := (s.engine (uIdx (pkUnit p))).scan.elim false (fun c => if c.who.secure then w.secure else w.is c.who.inst)

/-- The flags a run begins with: REPEAT and JUMP against the previous run's ALIVE (R365). -/
def Engine.aliveFlags (g : Engine) (periodic : Bool) (alive : Nat) : Nat :=
  if periodic && g.hasBase then b2n (alive == g.alive) * 4 + b2n (alive != g.alive && alive != (g.alive + 1) % 256) * 8 else 0

/-- Starts a run of a scan on an engine. -/
def State.startScan (s : State) (e : Nat) (c : Scan) : State :=
  let g := s.engine e
  let per := bitOf (pkW c.pk 0) 5
  let alive := pkF c.pk 0 15 8
  s.putEngine e { g with mode := (if per then 2 else 1), scan := some c, running := true, check := pkF c.pk 0 1 0, runFlags := g.aliveFlags per alive, alive := alive, hasBase := per, began := s.core.now, cancel := false }

/-- CHK_SCAN (R362, R365). -/
def cmdChkScan : Cmd :=
  { opcode := 0x0810, forms := .setOnly, secure := false, always := false, form := scanForm, qform := bufForm, unitOk := atScanEngine, may := mayScan, active := ownActive, check := noCheck,
    run := fun s w p =>
      let e := uIdx (pkUnit p)
      let g := s.engine e
      let n := pkF p 1 31 0
      let sf := if scanSpace p = 0 then s.surf n else none
      if sf.elim false Surf.written then .delayed s (Rsp.plain .delayedUnitBusy) (.unit (uKey n)) false
      else if sf.isSome && s.lockFull (uNum n) then .delayed s.countLockWait (Rsp.plain .delayedUnitBusy) (.unit (uKey n)) false
      else if g.mode = 0 || (g.mode = 2 && bitOf (pkW p 0) 5 && (g.scan.elim false (fun c => c.who == w))) then
        let (s1, k) := s.newWork
        let s2 := if sf.isSome then s1.takeRef (uNum n) false (.work k) else s1
        let c : Scan := { work := k, who := w, pk := p }
        if g.mode = 0 then .silent (s2.startScan e c) (.work k)
        else
          let s3 := match g.queued with
            | some q => (s2.dropWork q.work).finishWork q.work (Rsp.plain .served)
            | none => s2
          .silent (s3.putEngine e { g with queued := some c }) (.work k)
      else .delayed s (Rsp.plain .delayedUnitBusy) (.unit (uKey (pkUnit p))) false,
    ask := noAsk }

/-- CHK_SCAN. -/
def execChkScan (port : Port) (s : State) : Host.Outcome State Fault Refusal := s.ends (cmdChkScan.exec port s)

/-- An engine goes idle: what it still holds is released, and a scan that waited is completed. -/
def State.idle (s : State) (e : Nat) : State :=
  let g := s.engine e
  let s1 := g.scan.elim s (fun c => s.dropWork c.work)
  let s2 := g.queued.elim s1 (fun c => (s1.dropWork c.work).finishWork c.work (Rsp.plain .served))
  s2.putEngine e { g with mode := 0, scan := none, queued := none, running := false, hasBase := false, cancel := false }

/-- CHK_CANCEL (R365). -/
def cmdChkCancel : Cmd :=
  { opcode := 0x0811, forms := .setOnly, secure := false, always := false, form := fun _ _ p => pkLen p 0, qform := bufForm, unitOk := atScanEngine,
    may := fun s w p => w.secure || scanIssuer s w p, active := ownActive, check := noCheck,
    run := fun s _ p =>
      let e := uIdx (pkUnit p)
      let g := s.engine e
      .done (if g.mode ≠ 2 then s else if g.running then s.putEngine e { g with cancel := true } else s.idle e) (Rsp.plain .served),
    ask := noAsk }

/-- CHK_CANCEL. -/
def execChkCancel (port : Port) (s : State) : Host.Outcome State Fault Refusal := s.ends (cmdChkCancel.exec port s)

/-- Receivers bound to an ingest engine: open ones declared MOVING (R366). -/
def State.boundReceivers (s : State) (e : Nat) : Nat := (Tbl.keep s.ing.recvs (fun k r => k % 16 + 16 == e && r.st != 0 && r.moving)).length

/-- CHK_STATUS (Table 9.11). -/
def State.chkWord (s : State) (e : Nat) : Nat :=
  let g := s.engine e
  let n := if 16 ≤ e ∧ e < 32 then s.boundReceivers e else 0
  (if 0 < n then 3 else g.mode) * 2 ^ 30 + (if 16 ≤ e ∧ e < 32 then 1 else g.check) * 2 ^ 28 + n * 2 ^ 24 + g.flags * 2 ^ 16 + g.alive * 256

/-- CHK_STATUS (R365). -/
def cmdChkStatus : Cmd :=
  { opcode := 0x0812, forms := .queryOnly, secure := false, always := false, form := fun _ _ p => pkLen p 0, qform := fun _ _ p => pkLen p 0, unitOk := fun _ _ p => pkIs p 0x53,
    may := fun s w p => w.secure || w.is 0 || scanIssuer s w p, active := ownActive, check := noCheck, run := noRun,
    ask := fun s _ p => (s, Rsp.ok (s.chkWord (uIdx (pkUnit p))) ((s.engine (uIdx (pkUnit p))).bytes % 2 ^ 32) 0) }

/-- CHK_STATUS. -/
def execChkStatus (port : Port) (s : State) : Host.Outcome State Fault Refusal := s.ends (cmdChkStatus.exec port s)

/-- The CRC register after bytes (Table 9.9). -/
def crcFeed (check run : Nat) (bs : List Byte) : Nat :=
  match check with
  | 0 => crc32cFeed run bs
  | 1 => crc64Feed run bs
  | _ => (bs.flatMap bitsMsb).foldl (crcStep 16 0x1021) run

/-- The initial value of a CRC. -/
def crcInit : Nat → Nat
  | 0 => 0xFFFFFFFF
  | 1 => 0xFFFFFFFFFFFFFFFF
  | _ => 0xFFFF

/-- The final XOR of a CRC. -/
def crcXor : Nat → Nat
  | 0 => 0xFFFFFFFF
  | 1 => 0xFFFFFFFFFFFFFFFF
  | _ => 0

/-- The SHA-384 running value: hash value, message length in bytes, buffered bytes (R364). -/
structure ShaCtx where
  v : ShaVars
  total : Nat
  buf : List Byte
  deriving DecidableEq, Repr

/-- A context block as R364 lays it out. -/
def ShaCtx.toBytes (c : ShaCtx) : List Byte :=
  le 8 c.v.a ++ le 8 c.v.b ++ le 8 c.v.c ++ le 8 c.v.d ++ le 8 c.v.e ++ le 8 c.v.f ++ le 8 c.v.g ++ le 8 c.v.h ++ le 16 (8 * c.total) ++ le 1 c.buf.length ++ List.replicate 47 0 ++ fit 128 c.buf

/-- The context that a block holds. -/
def ShaCtx.ofBytes (b : List Byte) : ShaCtx :=
  let w (i : Nat) : Nat := ofLe ((b.drop (8 * i)).take 8)
  { v := { a := w 0, b := w 1, c := w 2, d := w 3, e := w 4, f := w 5, g := w 6, h := w 7 }, total := ofLe ((b.drop 64).take 16) / 8, buf := (b.drop 128).take ((b.getD 80 0).toNat % 128) }

/-- The context before any byte. -/
def ShaCtx.start : ShaCtx := { v := shaStart, total := 0, buf := [] }

/-- The context after more bytes. -/
def ShaCtx.feed (c : ShaCtx) (bs : List Byte) : ShaCtx :=
  let all := c.buf ++ bs
  let n := all.length / 128
  { v := shaRun n c.v all, total := c.total + bs.length, buf := all.drop (128 * n) }

/-- The digest of a context. -/
def ShaCtx.digest (c : ShaCtx) : List Byte :=
  let z := (239 - c.buf.length % 128) % 128
  let p := c.buf ++ [0x80] ++ List.replicate z 0 ++ be 16 (8 * c.total)
  let v := shaRun (p.length / 128) c.v p
  be 8 v.a ++ be 8 v.b ++ be 8 v.c ++ be 8 v.d ++ be 8 v.e ++ be 8 v.f

/-- The Warden SRAM regions let the check engines' port class read an address (R181, R184, R362). -/
def State.sramPermits (s : State) (a : Nat) : Bool :=
  let rs := (Tbl.vals s.sec.sramRgn).filter (fun r => r.covers (a / 4096))
  !rs.isEmpty && rs.all (fun r => bitOf r.attr 6)

/-- The bytes of a scan's rows, or its failure: RESULT0 and status (R362). Port 16 is the check engines' port. -/
def State.scanBytes (s : State) (c : Scan) : State × Except Rsp (List Byte) :=
  let p := c.pk
  let rows := (List.range (pkF p 2 47 32)).map (fun i => i * pkF p 3 31 0)
  let len := pkF p 2 23 0
  let pagesAt (a : Nat) : List Nat := (List.range ((a % 4096 + len + 4095) / 4096)).map (fun k => a / 4096 * 4096 + 4096 * k)
  if scanSpace p = 2 then
    (if (rows.flatMap (fun o => pagesAt (pkW p 1 + o))).all s.sramPermits then (s, .ok (rows.flatMap (fun o => Memory.rdN s.sec.sram (pkW p 1 + o) len)))
     else (s, .error (Rsp.code .failed 0x0003)))
  else
    let base := if scanSpace p = 1 then some (pkW p 1) else (s.surf (pkF p 1 31 0)).bind (fun sf => (s.readBase sf).map (· + pkF p 1 63 32))
    match base with
    | none => (s, .error (Rsp.code .failedMemory ((s.surf (pkF p 1 31 0)).elim 0 Surf.home)))
    | some b =>
      match (rows.flatMap (fun o => pagesAt (b + o))).find? (fun a => !s.permits 16 false a) with
      | some a => (s.deny 16 (if c.who.secure then none else some c.who.inst) c.who.slice false (max a b), .error (Rsp.code .failed 0x0003))
      | none =>
        if !(s.group (addrGroup b)).st.serves then (s, .error (Rsp.code .failedMemory (addrGroup b)))
        else (s, .ok (rows.flatMap (fun o => Memory.rdN s.mem.dram (b + o) len)))

/-- The value of a finished run: result words 0 and 1, what COMPARE finds, and the state with the running value kept (R363, R364). -/
def State.scanValue (s : State) (e : Nat) (p : Packet) (bs : List Byte) : State × Nat × Bool :=
  let chk := pkF p 0 1 0
  let final := bitOf (pkW p 0) 4
  let resume := bitOf (pkW p 0) 3
  let g := s.engine e
  if chk = 3 then
    let c0 := if resume then ShaCtx.ofBytes (Memory.rdN s.sec.sram (pkW p 5) 256) else ShaCtx.start
    let c1 := c0.feed bs
    let d := c1.digest
    let blk := if final then c1.toBytes.take 208 ++ d else c1.toBytes
    let s1 := { s with sec := { s.sec with sram := Memory.wrN s.sec.sram (pkW p 5) blk } }
    (s1.putEngine e { g with run := c1.v.a, bytes := c1.total }, (if final then ofBe d else c1.v.a) % 2 ^ 64, Memory.rdN s.sec.sram (pkW p 4) 48 != d)
  else
    let r := crcFeed chk (if resume then pkW p 4 else crcInit chk) bs
    let v := if final then r ^^^ crcXor chk else r
    let want := if resume then (Config.freeValue s.core.freeCtr).toNat else pkW p 4
    ((if resume then s.mapCore (fun k => k.useFree 1) else s).putEngine e { g with run := r, bytes := (if resume then pkW p 5 else 0) + bs.length }, v, want != v)

/-- What follows a run: the fault record or journal event of R363, the end of a single scan, the next wait of a periodic one. -/
def State.scanEnds (s : State) (e : Nat) (c : Scan) (flags : Nat) (r : Rsp) : State :=
  let g := s.engine e
  let unit := uid 0x53 e 0
  let s1 := s.putEngine e { g with running := false, flags := flags, runFlags := 0 }
  let s2 :=
    if c.who.secure then (if flags / 2 = 0 then s1 else s1.mapCore (fun k => (k.irq .secSigFault).event 0xFE42 0 unit unit (le 4 c.pk.seq.toNat ++ le 1 flags)))
    else if bitOf flags 1 then s1.mapCore (fun k => k.faultRec c.who.inst c.who.slice 0x0006 (pkW c.pk 1) unit flags) else s1
  let s3 := if s2.core.owed.any (fun o => o.wait == .work c.work) then s2.finishWork c.work r
    else s2.mapCore (fun k => k.complete c.who c.pk r true false 0)
  if g.mode = 2 && !g.cancel then s3 else s3.idle e

/-- CHK_SCAN_DONE (R363): the run in progress on an engine ends. -/
def execChkScanDone (engine : Nat) (s : State) : Host.Outcome State Fault Refusal :=
  s.ends (let g := s.engine engine
    match g.scan, g.running with
    | some c, true =>
      (match s.scanBytes c with
        | (s1, .error r) => s1.scanEnds engine c g.runFlags r
        | (s1, .ok bs) =>
          let v := s1.scanValue engine c.pk bs
          let cmp := bitOf (pkW c.pk 0) 4 && bitOf (pkW c.pk 0) 2
          let flags := g.runFlags + b2n cmp + b2n (cmp && v.2.2) * 2
          v.1.scanEnds engine c flags (Rsp.ok (v.2.1 % 2 ^ 32) (v.2.1 / 2 ^ 32) flags))
    | _, _ => s)

/-- CHK_PERIODIC_RUN (R365): PERIOD_MS after the start of the last run the next one starts, with the newest scan queued, else STARVED. -/
def execChkPeriodicRun (engine : Nat) (s : State) : Host.Outcome State Fault Refusal :=
  s.ends (let g := s.engine engine
    match g.scan with
    | none => s
    | some c =>
      if g.mode ≠ 2 || g.running || decide (s.core.now < g.began + pkF c.pk 3 47 32 * 10 ^ 6) then s
      else
        match g.queued with
        | some q => ((s.dropWork c.work).putEngine engine { g with queued := none }).startScan engine q
        | none => s.putEngine engine { g with running := true, runFlags := 16, began := s.core.now })

end Sys2Proof.Machine
end

