-- ==== Sys2Proof/Machine/Latch.lean ====
section
/-! DEFINITION. The latch point of a frond (R220 to R230, R243, R322, R323, R326, R349, R302) and the release of layer references (R203). -/

namespace Sys2Proof.Machine

/-! ## Writeback slots that the device runs itself -/

/-- The shape of a safety copy on an output: ARGB 2:10:10:10 in TBC over the active area (R289). -/
def safetyShape (out : Outp) : Shape := { format := 0x02, width := out.hActive, height := out.vActive, layout := 2, stride := 0 }

/-- A writeback slot without targets. -/
def idleWb : WbSlot := { w0 := 0, targets := [], crop := 0, next := 0, count := 0, pending := none, aborted := false }

/-- A writeback slot of a frond. -/
def Frond.wbSlot (fr : Frond) (k : Nat) : WbSlot := Tbl.at fr.wb idleWb k

/-- Takes the write references of a slot's targets (R290). -/
def State.wbRefs (s : State) (f k : Nat) (ts : List Nat) : State :=
  ts.foldl (fun t u => if (t.surf u).isSome then t.takeRef (uNum u) true (.writeback f k) else t) s

/-- Releases the write references of a slot's targets. -/
def State.wbDrop (s : State) (f k : Nat) (ts : List Nat) : State := ts.foldl (fun t u => t.dropRef (uNum u) (.writeback f k) 0 0 true) s

/-- The two targets of a safety copy, allocated from the PF's pool of a group (log entry 30); none where it has no room. -/
def State.allocSafety (s : State) (out : Outp) (g : Nat) : State × List Nat :=
  let sh := safetyShape out
  let one (a : State × List Nat) : State × List Nat :=
    if (s.group g).st.serves then
      match a.1.register 0 sh g false true with
      | (t, .done _ r) => if r.st = .served then (t, a.2 ++ [r.r0]) else a
      | _ => a
    else a
  let r := one (one (s, []))
  if r.2.length = 2 then r else (s, [])

/-- The safety slots as R289 and R291 want them: allocated in the group that is due, freed where none is. -/
def State.fitSafety (s : State) (f k : Nat) (out : Outp) : State :=
  match s.frond f with
  | none => s
  | some fr =>
    let w := fr.wbSlot k
    let want := (s.safetyGroups f fr k).head?
    let have' := w.targets.head?.bind s.surf
    let good := have'.elim false (fun sf => some sf.home == want && sf.width == out.hActive && sf.height == out.vActive)
    if good || (want.isNone && w.targets.isEmpty) then s
    else
      let s1 := (s.wbDrop f k w.targets)
      let s2 := w.targets.foldl (fun t u => if (Tbl.find t.srf.surfs (uNum u)).elim false (fun x => x.refs.isEmpty) then t.dropSurf (uNum u) else t.updSurf (uNum u) (fun x => { x with releasing := true })) s1
      let r := match want with
        | some g => s2.allocSafety out g
        | none => (s2, [])
      (r.1.updFrond f (fun x => { x with wb := Tbl.put x.wb k { w with targets := r.2, next := 0 } })).wbRefs f k r.2

/-- Settings of writeback slots that wait for the latch point (R290, R291). -/
def State.latchWb (s : State) (f : Nat) : State :=
  [0, 1, 2, 3].foldl (fun t k =>
    match t.frond f with
    | none => t
    | some fr =>
      let w := fr.wbSlot k
      match w.pending with
      | none => t
      | some (w0, ts, crop) =>
        if k < 2 then t.updFrond f (fun x => { x with wb := Tbl.put x.wb k { w with w0 := w0, pending := none } })
        else
          let t1 := t.wbDrop f k (w.targets.filter (fun u => !ts.contains u))
          t1.updFrond f (fun x => { x with wb := Tbl.put x.wb k { w with w0 := w0, targets := ts, crop := crop, next := 0, count := 0, pending := none } })) s

/-! ## Step 1: descriptors, removals, regions -/

/-- The surface a newly applied descriptor puts on the layer: its SOURCE, or a group layer's newest intermediate. -/
def State.commitBuffer (s : State) (d : Desc) : Option Nat :=
  if uCls d.source = 0x11 then (if (s.surf d.source).isSome then some d.source else none)
  else if uCls d.source = 0xF2 then (s.glayer d.source).bind (fun g => if g.done = 0 then none else some g.done)
  else none

/-- A commit's SOURCE under a write reference: its buffer is not ready (R204). -/
def State.commitWaits (s : State) (d : Desc) : Bool := uCls d.source == 0x11 && (s.surf d.source).elim false Surf.written

/-- RESULT1 of a commit: the unit of a layer it creates (R212), as an FDX-4410 unit for a packet of that session (R77); else 0. -/
def State.madeUnit (s : State) (c : Commit) : Nat :=
  if !c.creates then 0
  else if s.core.owed.any (fun o => o.wait == .work c.work && isCompatOp o.op) then ((s.core.compat.find? (fun e => e.2.unit == uKey c.layer)).map Prod.fst).getD 0
  else s.core.here c.layer

/-- Applies one commit at a latch point (R222 step 1, R223). News gathers the keys whose buffer is new, conf those with a new descriptor. A SOURCE that is not ready joins the queue as a post of the device (R204). -/
def State.applyCommit (f frame : Nat) (a : State × List Nat × List Nat) (c : Commit) : State × List Nat × List Nat :=
  let s := a.1
  if c.layer = 0 then (s.finishWork c.work (Rsp.ok (frame % 2 ^ 32) 0 0), a.2)
  else
    match s.layer c.layer with
    | none => (s.finishWork c.work (Rsp.plain .refusedUnitReset), a.2)
    | some _ =>
      let key := subKey c.layer
      let waits := s.commitWaits c.desc
      let buf := if waits then none else s.commitBuffer c.desc
      let later : List Post := if waits then [{ surf := c.desc.source, work := 0, ref := c.work, ready := 0, inst := c.inst, slice := c.slice, recv := none }] else []
      let s1 := s.updLayer key (fun l => { l with desc := c.desc, posts := l.posts ++ later, latched := true, buffer := buf.getD l.buffer, bufferAt := (if buf.isSome then c.work else l.bufferAt), held := (if buf.isSome then 0 else l.held) })
      let s2 := match buf with
        | some u => if uCls c.desc.source = 0xF2 then s1.takeRef (uNum u) false (.layer f (key % 256) c.work) else s1
        | none => s1
      (s2.finishWork c.work (Rsp.ok (frame % 2 ^ 32) (s.madeUnit c) 0), (if buf.isSome then key :: a.2.1 else a.2.1), key :: a.2.2)

/-- Removals that take effect at this latch point (R218, R327). -/
def State.applyRemovals (s : State) (f : Nat) : State :=
  (s.layersOf f).foldl (fun t e =>
    match e.2.removing with
    | some (n, false) =>
      let u := layerUnit f e.1
      let t1 := t.updLayer (f * 256 + e.1) (fun l => { l with removing := some (n, true) })
      if n = 0 then t1
      else
        let rs := Tbl.keys (Tbl.keep t1.led.regions (fun _ r => r.place == u && !r.orphan))
        rs.foldl (fun v k => (v.dropRegion k).mapCore (fun c => c.event 0x0712 e.2.owner (uidN 0x51 k) (uidN 0x51 k) [])) t1
    | _ => t) s

/-- Placement and removal of live regions (R326) and of signed regions (R349). -/
def State.applyRegions (s : State) (f : Nat) : State :=
  let place (t : State) (n : Nat) : State :=
    match Tbl.find t.led.regions n with
    | none => t
    | some r =>
      if r.removing && t.frondOfPlace r.place == f then t.dropRegion n
      else
        match r.newPlace with
        | some (u, rect) => if t.frondOfPlace u = f then t.updRegion n (fun x => { x with place := u, rect := rect, newPlace := none, orphan := false, bandA := x.secure && uCls u == 0x22 }) else t
        | none => t
  let sign (t : State) (k : Nat) : State :=
    match Tbl.find t.led.sregs k with
    | none => t
    | some r =>
      if r.removing.isSome then { t with led := { t.led with sregs := Tbl.del t.led.sregs k } }.mapCore (fun c => c.bump (uid 0x52 (k / 256) (k % 256)))
      else
        match r.newSet with
        | none => t
        | some (u0, rect, moving, latch, _) =>
          let u := uKey u0
          let changed := r.st == .none || r.place != u || r.rect != rect || r.moving != moving
          t.updSreg k (fun x => { x with place := u, rect := rect, moving := moving, latchFault := latch, newSet := none, orphan := false, veil := x.veil.finish .instanceReset s.core.now, st := (if changed then .pending else x.st), base := (if changed then none else x.base) })
  let s1 := (Tbl.keys s.led.regions).foldl place s
  (Tbl.keys (Tbl.keep s1.led.sregs (fun k _ => k / 256 == f))).foldl sign s1

/-! ## Step 2: banks -/

/-- Swaps a pending bank. -/
def Bank.swap (b : Bank) : Bank :=
  match b.pending with
  | some (bs, _, _) => { now := bs, pending := none }
  | none => b

/-- The completion of a swapped bank's load (R243). -/
def State.bankDone (s : State) (b : Bank) (frame : Nat) : State :=
  match b.pending with
  | some (_, n, _) => s.finishWork n (Rsp.ok (frame % 2 ^ 32) 0 0)
  | none => s

/-- Swaps every pending bank of a frond's layers and of its output (R222 step 2). -/
def State.swapBanks (s : State) (f o frame : Nat) : State :=
  let s1 := (s.layersOf f).foldl (fun t e => ((t.bankDone e.2.coef frame).bankDone e.2.tone frame).updLayer (f * 256 + e.1) (fun l => { l with coef := l.coef.swap, tone := l.tone.swap })) s
  match s1.out o with
  | some out => (s1.bankDone out.tone frame).updOut o (fun x => { x with tone := x.tone.swap })
  | none => s1

/-! ## Steps 3 to 5: posts and budget -/

/-- Layers of bands C and D dropped at this latch point: key and cause of DROPPED_BUDGET (R230). -/
def State.budgetDrops (s : State) (f : Nat) (out : Outp) (fr : Frond) : List (Nat × Nat) :=
  let low := ((s.layersOf f).filter (fun e => decide (2 ≤ e.2.desc.band) && e.2.latched && e.2.removing.isNone)).mergeSort (fun a b => decide (b.2.desc.key b.1 ≤ a.2.desc.key a.1))
  let left (g ent : Nat) : Nat := ent - (s.abDemand f g out 255 none + s.wbDemand f g)
  (low.foldl (fun (a : (Nat × Nat) × List (Nat × Nat)) e =>
    let d := s.descDemand out e.2.desc
    if d.1 = 0 then (if d.2 ≤ a.1.1 then ((a.1.1 - d.2, a.1.2), a.2) else (a.1, (f * 256 + e.1, 1) :: a.2))
    else (if d.2 ≤ a.1.2 then ((a.1.1, a.1.2 - d.2), a.2) else (a.1, (f * 256 + e.1, 2) :: a.2))) ((left 0 fr.entA, left 1 fr.entB), [])).2

/-- Finishes a post that leaves the queue; a post the device made has no completion. -/
def State.endPost (s : State) (q : Post) (r : Rsp) : State := if q.work = 0 then s else s.finishWork q.work r

/-- A post is ready: its surface holds no write reference (R222 step 3). -/
def State.postReady (s : State) (q : Post) : Bool := (s.surf q.surf).elim false (fun sf => !sf.written)

/-- Posts that no longer fit the descriptor in force fail (R223). -/
def State.failUnfit (s : State) (key : Nat) : State :=
  match Tbl.find s.frd.layers key with
  | none => s
  | some l =>
    let bad (q : Post) : Bool := if uCls l.desc.source = 0xF2 then q.work != 0 else !(s.surf q.surf).elim false (s.fitsDesc l.desc)
    let s1 := s.updLayer key (fun x => { x with posts := x.posts.filter (fun q => !bad q) })
    (l.posts.filter bad).foldl (fun t q => (t.dropRef (uNum q.surf) (.layer (key / 256) (key % 256) q.ref) 0 0 false).endPost q (Rsp.code .failed 0x0001)) s1

/-- Takes the newest ready post of a layer (R222 step 3, R223); answers whether the buffer is new. -/
def State.takePost (s : State) (key frame : Nat) (dropped : Bool) : State × Bool :=
  match Tbl.find s.frd.layers key with
  | none => (s, false)
  | some l =>
    if dropped then (s.updLayer key (fun x => { x with posts := x.posts.map (fun q => if s.postReady q then { q with ready := q.ready + 1 } else q) }), false)
    else
      match (l.posts.zipIdx.filter (fun e => s.postReady e.1)).getLast? with
      | none => (s, false)
      | some (q, i) =>
        let s1 := s.updLayer key (fun x => { x with posts := x.posts.drop (i + 1), buffer := q.surf, bufferAt := q.ref, held := 0 })
        let s2 := (l.posts.take i).foldl (fun t p => (t.dropRef (uNum p.surf) (.layer (key / 256) (key % 256) p.ref) 0 0 false).endPost p (Rsp.ok (frame % 2 ^ 32) 1 0)) s1
        (s2.endPost q (if q.ready = 0 then Rsp.ok (frame % 2 ^ 32) 0 0 else { st := .servedLate, r0 := frame % 2 ^ 32, r1 := 0, r2 := q.ready }), true)

/-! ## The scene -/

/-- Why a shown layer is held (Table 6.4). -/
def State.heldCause (s : State) (f k : Nat) (l : Layer) : Nat :=
  let mine (o : Owed) : Bool := asOp o.op == 0x0300 && (if isCompatOp o.op then (Tbl.find s.core.compat (pkUnit o.pk)).elim 0 CompatEntry.unit else uKey (pkUnit o.pk)) == layerUnit f k
  if s.core.owed.any (fun o => mine o && (match o.wait with | .share _ _ => true | _ => false)) then 6
  else if s.core.owed.any (fun o => mine o && (match o.wait with | .unit _ => true | _ => false)) then 5
  else if uCls l.desc.source = 0xF2 && s.frd.passes.any (fun p => p.gl == uIdx l.desc.source) then 3
  else if l.posts.any (fun q => !s.postReady q) then 2
  else 1

/-- True where a surface's only usable copy is gone (R170). -/
def State.cut (s : State) (u : Nat) : Bool := (s.surf u).elim false (fun sf => (s.readBase sf).isNone)

/-- The newest complete band part of a frond that can be read (R170, R292). -/
def State.bandPart (s : State) (fr : Frond) : Option (Nat × Nat × Nat) :=
  (Tbl.find fr.wbLast 0).bind (fun e => if (s.surf e.2.1).isSome && !s.cut e.2.1 then some e else none)

/-- The picture of a layer in a frame: status and cause of Table 6.4. -/
def State.sceneLayer (s : State) (f : Nat) (out : Outp) (fr : Frond) (drops : List (Nat × Nat)) (news conf : List Nat) (k : Nat) (l : Layer) : SceneLayer :=
  let key := f * 256 + k
  let fresh := news.contains key
  let gone := s.cut l.buffer
  let safe := gone && l.desc.band != 0 && (s.bandPart fr).isSome
  let drop := (drops.find? (fun d => d.1 == key)).map Prod.snd
  let st : Nat × Nat :=
    match drop with
    | some c => (4, c)
    | none =>
      if l.buffer = 0 ∨ rectEmpty (clip l.desc.dest out.area) then (2, 1)
      else if !(s.bandIn l.owner l.desc.band && bitOf fr.bands l.desc.band) then (2, 2)
      else if gone then (if safe then (1, 4) else (2, 3))
      else if fresh then (0, 0) else (1, s.heldCause f k l)
  { slot := k, owner := l.owner, slice := l.slice, gen := l.gen, desc := l.desc, buffer := l.buffer, status := st.1, cause := st.2, config := conf.contains key, last := false,
    repeated := l.desc.band == 0 && l.desc.mustUpdate && !fresh && l.buffer != 0, held := (if fresh then 0 else min (l.held + 1) 65535), tone := l.tone.now, coef := l.coef.now,
    palette := (s.surf l.buffer).elim [] Surf.palette, stripe := l.borrowed.isSome, safety := safe }

/-- A region's rectangle in a scene (R323), none where it is not drawn. -/
def regionRect (out : Outp) (layers : List SceneLayer) (place rect : Nat) (orphan service : Bool) (old : Option Rect) : Option Rect :=
  let keep (r : Rect) : Option Rect := if rectEmpty r then none else some r
  if orphan then (if service then old else none)
  else if uCls place = 0x22 then keep (clip (wordRect rect) out.area)
  else
    match layers.find? (fun l => l.slot == uSub place && decide (l.status ≤ 1)) with
    | some l => keep (clip (clip (l.desc.mapRect (wordRect rect)) l.desc.dest) out.area)
    | none => if service then old else none

/-- Regions drawn in a scene, live ones in index order and then signed ones. -/
def State.drawnOf (s : State) (f : Nat) (out : Outp) (layers : List SceneLayer) : List (Nat × Rect) :=
  let live := s.led.regions.filterMap (fun e =>
    if s.frondOfPlace e.2.place = f then
      (regionRect out layers e.2.place e.2.rect e.2.orphan (e.2.veil.causes.any (fun c => !c.kind.isFault && c.ended.isNone)) e.2.drawn).map (fun r => (uidN 0x51 e.1, r))
    else none)
  let signed := (Tbl.keep s.led.sregs (fun k r => k / 256 == f && r.st != .none)).filterMap (fun e =>
    (regionRect out layers e.2.place e.2.rect e.2.orphan (e.2.veil.causes.any (fun c => !c.kind.isFault && c.ended.isNone)) e.2.drawn).map (fun r => (uid 0x52 f (e.1 % 256), r)))
  live ++ signed

/-- A band that the share or the frond mask takes from a shown layer: SERVICE on its band A regions (R133, R213); given back, the cause ends. -/
def State.bandCauses (s : State) (f : Nat) (fr : Frond) : State :=
  (s.layersOf f).foldl (fun t e =>
    let gone := !(s.bandIn e.2.owner e.2.desc.band && bitOf fr.bands e.2.desc.band) && e.2.desc.band == 0
    let u := layerUnit f e.1
    t.setCause .bandRemoved gone (fun _ r => r.place == u && !r.orphan) (fun _ r => r.place == u && !r.orphan)) s

/-- Ledger effects of a latch point: TIED regions of layers with a new buffer (R322); regions on layers shown from a safety copy take its time (R172), also where FROND[8] shows the band part (R299). -/
def State.latchLedger (s : State) (f frame : Nat) (layers : List SceneLayer) (news : List Nat) (copyDt : Option Nat) : State :=
  (Tbl.keys s.led.regions).foldl (fun t n =>
    match Tbl.find t.led.regions n with
    | none => t
    | some r =>
      if uCls r.place ≠ 0x21 ∨ uIdx r.place ≠ f ∨ r.orphan then t
      else
        let standing := s.frd.patrol.partly && s.frd.patrol.target == f && copyDt.isSome
        let safe := layers.any (fun l => l.slot == uSub r.place && (l.safety || (standing && l.desc.band != 0)))
        let t1 := if safe then (match copyDt with
            | some d => if r.safetyAt = some (d / 1000 % 2 ^ 48) then t else (t.updRegion n (fun x => { x with safetyAt := some (d / 1000 % 2 ^ 48) })).sendEr n
            | none => t)
          else if r.safetyAt.isSome then (t.updRegion n (fun x => { x with safetyAt := none })).tieEr n frame else t
        if r.tied && news.contains (subKey r.place) then t1.tieEr n frame else t1) s

/-- MUST_UPDATE holds (R222 step 6, R357). -/
def State.mustUpdate (s : State) (f frame : Nat) (layers : List SceneLayer) : State :=
  (layers.filter SceneLayer.repeated).foldl (fun t l =>
    let u := layerUnit f l.slot
    let t1 := t.updFrond f (fun fr => { fr with repeats := satInc fr.repeats })
    if t1.led.sregs.any (fun e => e.2.place == u && !e.2.orphan) then
      { t1 with led := { t1.led with sregs := Tbl.mapVals t1.led.sregs (fun _ r => if r.place = u ∧ !r.orphan then { r with layerRepeat := true } else r) } }
    else t1.mustUpdateFault u frame) s

/-! ## Patrol switches at a latch point -/

/-- Journals and notifies a frond switch (R303). -/
def State.swapEvent (s : State) (f cause frame line : Nat) : State :=
  let s1 := s.mapCore (fun k => (k.event 0xFE20 0 (uid 0x20 f 0) (f + cause * 256) (le 8 frame ++ le 2 line)).notify 0x0013 0 (uid 0x20 f 0) (le 1 f ++ le 1 cause ++ [0, 0] ++ le 8 frame))
  { s1 with frd := { s1.frd with patrol := { s1.frd.patrol with swaps := satInc s1.frd.patrol.swaps } } }

/-- Changes the patrol. -/
def State.updPatrol (s : State) (g : Patrol → Patrol) : State := { s with frd := { s.frd with patrol := g s.frd.patrol } }

/-- FROND[8] takes a frond's output. -/
def State.standIn (s : State) (f o cause : Nat) : State :=
  ((s.updOut o (fun x => { x with spare := true })).updFrond f (fun x => { x with replaced := true })).updPatrol (fun p => { p with st := 2, target := f, cause := cause, partly := false, streak := 0 })

/-- A frond takes its output back, and the patrol warms up on it (R301). -/
def State.standDown (s : State) (f o frame : Nat) : State :=
  (((s.updOut o (fun x => { x with spare := false })).updFrond f (fun x => { x with replaced := false, substituted := [] })).updPatrol
    (fun p => { p with st := 0, target := f, frames := 0, cause := 0, partly := false, streak := 0 })).swapEvent f 5 frame 0

/-- Switches that are due at a latch point: a return at once, a stand-in at least 1 ms after detection (R299 step 3, R302). -/
def State.patrolLatch (s : State) (f o frame : Nat) : State :=
  (s.frd.patrol.pending.filter (fun e => e.1 == f)).foldl (fun t (_, since, cause, work) =>
    if cause = 5 then
      ((t.standDown f o frame).updPatrol (fun p => { p with pending := p.pending.filter (fun x => x.1 != f) })).finishWork work (Rsp.ok (frame % 2 ^ 32) 0 0)
    else if cause = 4 ∧ t.frd.patrol.st = 3 then
      (t.updPatrol (fun p => { p with pending := p.pending.filter (fun x => x.1 != f) })).finishWork work (Rsp.code .refusedShare 0x23)
    else if cause = 4 ∧ t.frd.patrol.st = 2 ∧ (t.frond t.frd.patrol.target).elim false Frond.bistFailed then
      (t.updPatrol (fun p => { p with pending := p.pending.filter (fun x => x.1 != f) })).finishWork work (Rsp.code .refusedShare 0x22)
    else if cause = 2 ∧ (t.frd.patrol.st ≠ 1 ∨ t.frd.patrol.target ≠ f) then t.updPatrol (fun p => { p with pending := p.pending.filter (fun x => x.1 != f) })
    else if cause = 4 ∧ (t.frd.patrol.st ≠ 1 ∨ t.frd.patrol.partly) then t
    else if since + 10 ^ 6 ≤ t.core.now then
      let t1 := (t.standIn f o cause).updPatrol (fun p => { p with pending := p.pending.filter (fun x => x.1 != f) })
      let t2 := if cause = 3 then t1 else t1.swapEvent f cause frame 0
      t2.finishWork work (Rsp.ok (frame % 2 ^ 32) 0 0)
    else t) s

/-! ## Removed layers -/

/-- Deletes a layer that is removed and no longer scanned: its references go, its generation moves on, regions left on it are a removed layer's (R137), LAYER_REMOVE is served (R218, R42). -/
def State.endLayer (s : State) (key : Nat) : State :=
  match Tbl.find s.frd.layers key with
  | none => s
  | some l =>
    let u := layerUnit (key / 256) (key % 256)
    let s1 := s.abortPosts key
    let s2 := { s1 with frd := { s1.frd with layers := Tbl.del s1.frd.layers key, fronds := Tbl.upd s1.frd.fronds (key / 256) (fun fr => { fr with commits := fr.commits.filter (fun c => c.layer != u), staged := fr.staged.filter (fun c => c.layer != u) }) } }
    let cs := (s1.frond (key / 256)).elim [] (fun fr => (fr.commits ++ fr.staged).filter (fun c => c.layer == u))
    let s3 := cs.foldl (fun t c => t.finishWork c.work (Rsp.plain .refusedUnitReset)) s2
    let s4 := (Tbl.keys s3.srf.surfs).foldl (fun t n =>
      ((Tbl.find t.srf.surfs n).elim [] (fun sf => (sf.refs.map Ref.holder).filter (fun h => match h with | .layer f k _ => f == key / 256 && k == key % 256 | _ => false))).foldl
        (fun v h => let o := s.outOf (key / 256); v.dropRef n h (o.elim 0 (fun e => e.2.frames)) (o.elim 0 Prod.fst) false) t) (s3.mapCore (fun c => (c.unmap u).bump u))
    let s5 : State := { s4 with led := { s4.led with
      regions := Tbl.mapVals s4.led.regions (fun _ r => if r.place = u ∧ !r.orphan then { r with orphan := true, bandA := r.bandA || l.desc.band == 0 } else r),
      sregs := Tbl.mapVals s4.led.sregs (fun _ r => if r.place = u then { r with orphan := true } else r) } }
    match l.removing with
    | some (n, _) => if n = 0 then s5 else s5.finishWork n (Rsp.plain .served)
    | none => s5

/-- Layers of a frond whose removal has been latched. -/
def State.endLayers (s : State) (f : Nat) : State :=
  ((s.layersOf f).filter (fun e => e.2.removing.elim false Prod.snd)).foldl (fun t e => t.endLayer (f * 256 + e.1)) s

/-! ## The latch point -/

/-- The frond's picture after the latch: a disabled frond shows its background only (Table 6.7). -/
def State.sceneOf (s : State) (f : Nat) (out : Outp) (fr : Frond) (drops : List (Nat × Nat)) (news conf : List Nat) (frame : Nat) : Scene :=
  let ls := if fr.enable then (((s.layersOf f).filter (fun e => e.2.latched && e.2.removing.isNone)).map (fun e => s.sceneLayer f out fr drops news conf e.1 e.2)) else []
  let safe := if ls.any SceneLayer.safety then (s.bandPart fr).map (fun e => e.2.1) else none
  let dark := [0, 1].all (fun g => (s.group g).st == .frozen)
  { frame := frame, latchDt := s.core.now, layers := (if dark then ls.map (fun l => { l with status := 2, cause := 3, safety := false }) else ls), bg := fr.bg, tone := out.tone.now,
    safetySurf := (if dark then none else safe), drawn := s.drawnOf f out ls }

/-- Follows the layers' held counts and drop counts, and the regions' drawn rectangles. -/
def State.afterScene (s : State) (f : Nat) (sc : Scene) : State :=
  let s1 := sc.layers.foldl (fun t l => t.updLayer (f * 256 + l.slot) (fun x => { x with held := l.held, dropped := (if l.status = 4 then x.dropped + 1 else x.dropped), lastRect := (if l.status ≤ 1 then some l.desc.dest else x.lastRect) })) s
  { s1 with led := { s1.led with
      regions := Tbl.mapVals s1.led.regions (fun n r => match sc.rectOf (uidN 0x51 n) with | some x => { r with drawn := some x } | none => r) } }

/-- True where the output lets a latch point pass: no modeset between events 2 and 6 but for the first new frame's (R282), and none is waiting to be scanned. -/
def Outp.latches (out : Outp) : Bool :=
  match out.modeset with
  | none => true
  | some m => m.stage == 0 || m.stage == 3

/-- A latch point of a frond (R222). -/
def State.latch (s : State) (f : Nat) : State :=
  match s.frond f, s.outOf f with
  | some fr, some (o, out) =>
    if !out.latches || fr.next.isSome then s
    else
      let frame := out.frames + 1
      let a := fr.commits.foldl (State.applyCommit f frame) (s.updFrond f (fun x => { x with commits := [] }), [], [])
      let s1 := ((((a.1.applyRemovals f).applyRegions f).latchWb f).swapBanks f o frame).latchRoutes f frame
      let s2 := [0, 1].foldl (fun t k => t.fitSafety f k out) s1
      let drops := s2.budgetDrops f out ((s2.frond f).getD fr)
      let keys := (s2.layersOf f).map (fun e => f * 256 + e.1)
      let b := keys.foldl (fun (t : State × List Nat) key =>
        let r := (t.1.failUnfit key).takePost key frame (drops.any (fun d => d.1 == key))
        (r.1, if r.2 then key :: t.2 else t.2)) (s2, a.2.1)
      let s3 := b.1.bandCauses f ((b.1.frond f).getD fr)
      let s4 := s3.patrolLatch f o frame
      let fr4 := (s4.frond f).getD fr
      let out4 := (s4.out o).getD out
      let sc := s4.sceneOf f out4 fr4 drops b.2 a.2.2 frame
      let s5 := (s4.afterScene f sc).mustUpdate f frame sc.layers
      let s6 := s5.latchLedger f frame sc.layers b.2 ((s5.bandPart fr4).map (fun e => e.2.2))
      s6.updFrond f (fun x => { x with next := some sc, latches := x.latches + 1, drops := satAdd x.drops drops.length })
  | some _, none =>
    (State.endLayers ((s.applyRemovals f).applyRegions f) f).latchRoutes f 0
  | none, _ => s

/-- LATCH_POINT (R222). -/
def execLatchPoint (frond : Nat) (s : State) : Host.Outcome State Fault Refusal := s.ends (s.syncVeils.latch frond)

/-! ## References of layers -/

/-- True where a layer reference is still needed: current buffer, queued post, commit not yet applied, or a scene that scans the surface (R203). -/
def State.refNeeded (s : State) (n : Nat) (h : Holder) : Bool :=
  match h with
  | .layer f k m =>
    let l := Tbl.find s.frd.layers (f * 256 + k)
    let fr := s.frond f
    let inScene (sc : Option Scene) : Bool := sc.elim false (fun c => c.layers.any (fun x => x.slot == k && uKey x.buffer == surfUnit n))
    l.elim false (fun l => (l.bufferAt == m && uKey l.buffer == surfUnit n) || l.posts.any (fun q => q.ref == m)) ||
    fr.elim false (fun fr => (fr.commits ++ fr.staged).any (fun c => c.work == m && c.layer == layerUnit f k) || inScene fr.scan || inScene fr.next)
  | _ => true

/-- The layer references of a surface that are no longer needed. -/
def State.staleRefs (s : State) (n : Nat) : List Holder :=
  (Tbl.find s.srf.surfs n).elim [] (fun sf => (sf.refs.map Ref.holder).filter (fun h => !s.refNeeded n h))

/-- Releases the layer references of a surface that are no longer needed; the last one ends a deferred release with the frame count and output (R210). -/
def State.releaseRefs (s : State) (n : Nat) : State :=
  (s.staleRefs n).foldl (fun t h =>
    match h with
    | .layer f _ _ => let o := s.outOf f; t.dropRef n h (o.elim 0 (fun e => e.2.frames)) (o.elim 0 Prod.fst) false
    | _ => t) s

/-- SURFACE_REF_RELEASE (R203, R210). -/
def execSurfaceRefRelease (surf : Nat) (s : State) : Host.Outcome State Fault Refusal := s.ends (s.releaseRefs (uNum surf))

end Sys2Proof.Machine
end

