-- ==== Sys2Proof/Machine/Outputs.lean ====
section
/-! DEFINITION. Scan-out, writebacks, outputs, genlock and the patrol (chapter 7: R259 to R303, R643), and the layer status records of R224. -/

namespace Sys2Proof.Machine

/-! ## Modes and links -/

/-- The output that UNIT names. -/
def pkOut (p : Packet) : Nat := uIdx (pkUnit p)

/-- UNIT is an output. -/
def atOutput (_ : State) (_ : Who) (p : Packet) : Bool := pkIs p 0x22

/-- The mode words of OUTPUT_PREPARE. -/
def pkMode (p : Packet) : List Nat := (List.range 5).map (pkW p)

/-- An output as a mode would have it. -/
def Outp.withMode (o : Outp) (ws : List Nat) : Outp := { o with mode := ws, vt := fld (ws.getD 0 0) 63 48, frond := fld (ws.getD 2 0) 51 48 }

/-- FROND of mode words. -/
def modeFrond (ws : List Nat) : Nat := fld (ws.getD 2 0) 51 48
/-- RATE of mode words. -/
def modeRate (ws : List Nat) : Nat := fld (ws.getD 4 0) 7 4
/-- LANES of mode words. -/
def modeLanes (ws : List Nat) : Nat := fld (ws.getD 4 0) 2 0

/-- Bits per second and lane of a rate code (Table 7.3). -/
def rateBps (c : Nat) : Nat := [1620, 2700, 5400, 8100, 10000, 13500, 20000].getD c 0 * 10 ^ 6

/-- Sixteenths of a bit per pixel on the link (R272). -/
def Outp.bits16 (o : Outp) : Nat :=
  if o.dsc then fld (o.w 3) 51 42
  else match o.format with
    | 2 => 32 * o.bpc
    | 3 => 24 * o.bpc
    | _ => 48 * o.bpc

/-- A rate and lanes carry a mode (R272). -/
def Outp.carries (o : Outp) (rate lanes : Nat) : Bool :=
  let e : Nat × Nat := if rate ≤ 3 then (4, 5) else (128, 132)
  decide (o.pixelHz ≤ 1250000000) && decide (o.pixelHz * o.bits16 * 100 * e.2 ≤ 99 * 16 * lanes * rateBps rate * e.1)

/-- A frond that another output names, in its mode or in a modeset in progress (R262). -/
def State.frondTaken (s : State) (o f : Nat) : Bool :=
  s.frd.outs.any (fun e => e.1 != o && ((!e.2.mode.isEmpty && e.2.frond == f) || e.2.modeset.elim false (fun m => modeFrond m.words == f)))

/-- The form of OUTPUT_PREPARE (Table 7.3, R262). -/
def prepareForm (s : State) (_ : Who) (p : Packet) : Bool :=
  let r (n hi lo a b : Nat) : Bool := decide (a ≤ pkF p n hi lo) && decide (pkF p n hi lo ≤ b)
  let hs := pkF p 0 15 0 + pkF p 1 15 0 + pkF p 1 31 16
  let vs := pkF p 0 31 16 + pkF p 1 47 32 + pkF p 1 63 48
  let fmt := pkF p 2 39 38
  let dsc := bitOf (pkW p 2) 45
  pkLen p 5 && r 0 47 32 0 16383 && r 0 63 48 0 16383 && r 0 31 16 240 8192 && r 0 15 0 320 8192 && r 1 63 48 1 255 && r 1 47 32 1 4095 && r 1 31 16 8 1023 && r 1 15 0 8 4095 &&
  decide (hs + 1 ≤ pkF p 0 47 32) && decide (vs + 1 ≤ pkF p 0 63 48) && (fmt != 3 || pkF p 0 31 16 % 2 == 0) && (decide (fmt ≤ 1) || pkF p 0 15 0 % 2 == 0) &&
  pkF p 2 63 52 == 0 && decide (pkF p 2 51 48 ≤ 7) && !bitOf (pkW p 2) 47 && [6, 8, 10, 12].contains (pkF p 2 43 40) && pkF p 2 36 34 == 0 && r 2 31 0 25000000 1250000000 &&
  pkF p 3 63 52 == 0 && pkF p 3 41 37 == 0 &&
  (!dsc || (r 3 51 42 96 384 && r 3 36 32 2 16 && pkF p 0 31 16 % pkF p 3 36 32 == 0 && pkF p 2 43 40 != 6 && [1, 2, 4, 8].any (fun k => pkF p 3 31 16 * k == pkF p 0 15 0))) &&
  (if bitOf (pkW p 2) 44 then decide (pkF p 0 63 48 ≤ pkF p 3 15 0) && decide (pkF p 3 15 0 ≤ 16383) else pkF p 3 15 0 == pkF p 0 63 48) &&
  pkF p 4 63 8 == 0 && !bitOf (pkW p 4) 3 && (decide (pkF p 4 7 4 ≤ 6) || pkF p 4 7 4 == 15) && [1, 2, 4].contains (pkF p 4 2 0) &&
  !s.frondTaken (pkOut p) (pkF p 2 51 48)

/-- The rate code a mode asks for: 15 is the highest both ends support. -/
def Outp.rateFor (o : Outp) (ws : List Nat) : Nat := if modeRate ws = 15 then min 6 (o.sink.elim 6 Sink.rate) else modeRate ws

/-- Step 1 of R266: the sink takes the mode. -/
def Outp.sinkTakes (o : Outp) (ws : List Nat) : Bool :=
  let m := o.withMode ws
  o.sink.elim true (fun k => k.formats.contains m.format && k.bpcs.contains m.bpc && (!m.dsc || k.dsc) && decide (modeLanes ws ≤ k.lanes) && decide (o.rateFor ws ≤ k.rate))

/-- The first region on an output outside an active area (R266 step 4). -/
def State.outside (s : State) (o w h : Nat) : Option Nat :=
  let bad (r : Nat) : Bool := decide (w < fld r 15 0 + fld r 47 32) || decide (h < fld r 31 16 + fld r 63 48)
  ((s.led.regions.find? (fun e => e.2.place == uid 0x22 o 0 && bad e.2.rect)).map (fun e => uidN 0x51 e.1)).or
    ((s.led.sregs.find? (fun e => e.2.place == uid 0x22 o 0 && bad e.2.rect)).map (fun e => uid 0x52 (e.1 / 256) (e.1 % 256)))

/-- The checks of R266. -/
def prepareCheck (s : State) (_ : Who) (p : Packet) : Option Rsp :=
  let ws := pkMode p
  match s.out (pkOut p), s.frond (modeFrond ws) with
  | some o, some fr =>
    let m := o.withMode ws
    if !o.sinkTakes ws then some (Rsp.code .refusedShare 0x21)
    else if !m.carries (o.rateFor ws) (modeLanes ws) then some (Rsp.code .refusedShare 0x20)
    else if !s.fitsBudget (modeFrond ws) m fr.entA fr.entB 255 none then some (Rsp.code .refusedShare 0x14)
    else (s.outside (pkOut p) m.hActive m.vActive).map (fun u => Rsp.code .refusedLocked (s.core.here u))
  | _, _ => none

/-- OUTPUT_PREPARE (R264, R266). -/
def cmdOutputPrepare : Cmd :=
  { opcode := 0x0400, forms := .both, secure := false, always := false, form := prepareForm, qform := bufForm, unitOk := atOutput, may := pfOnly, active := ownActive, check := prepareCheck,
    run := fun s _ p =>
      match s.out (pkOut p) with
      | none => .done s (Rsp.plain .rejectedUnit)
      | some o =>
        let ws := pkMode p
        let m := o.withMode ws
        .done (s.updOut (pkOut p) (fun x => { x with token := some (x.tokens + 1, ws), tokens := x.tokens + 1 }))
          (Rsp.ok ((o.tokens + 1) % 2 ^ 32) (ceilDiv (m.pixelHz * m.bits16) (16 * 10 ^ 6)) (o.rateFor ws * 16 + modeLanes ws)),
    ask := fun s w p => s.answerWords w p (((s.out (pkOut p)).elim [] Outp.mode).map (BitVec.ofNat 64)) }

/-- OUTPUT_PREPARE. -/
def execOutputPrepare (port : Port) (s : State) : Host.Outcome State Fault Refusal := s.ends (cmdOutputPrepare.exec port s)

/-- Journals an OUTPUT_LINK event (Table 7.8). -/
def State.linkEvent (s : State) (o : Nat) : State :=
  match s.out o with
  | none => s
  | some x => s.mapCore (fun k => k.event 0xFE22 0 (uid 0x22 o 0) (o + x.link * 256) (le 1 (x.rate * 16 + x.lanes)))

/-- The end of the black frame: the new mode takes effect; training starts where it is needed (Table 7.6 event 3). -/
def State.endBlack (s : State) (o : Nat) : State :=
  match s.out o with
  | none => s
  | some x =>
    match x.modeset with
    | none => s
    | some m =>
      let y := x.withMode m.words
      let train := x.hpd && (x.link != 2 && x.link != 4 || x.rate != x.rateFor m.words || x.lanes != modeLanes m.words || !y.carries x.rate x.lanes)
      let still (fr : Frond) : Frond := { fr with scan := none, next := none }
      let s0 := x.vtNew.elim s (fun v => s.finishWork v.2.1 (Rsp.ok (x.frames % 2 ^ 32) 0 0))
      let s1 := (s0.updFrond x.frond still).updFrond y.frond still
      s1.updOut o (fun _ => { y with black := false, vtNew := none, lineOut := [], link := (if train then 1 else if x.hpd then 4 else x.link), modeset := some { m with stage := (if train then 2 else 3) } })

/-- OUTPUT_COMMIT (R280, R281). -/
def cmdOutputCommit : Cmd :=
  { opcode := 0x0401, forms := .setOnly, secure := false, always := false,
    form := fun s _ p => pkLen p 1 && (s.out (pkOut p)).elim true (fun o => o.token.elim false (fun t => pkW p 0 == t.1 % 2 ^ 32 && !s.frondTaken (pkOut p) (modeFrond t.2))), qform := bufForm, unitOk := atOutput, may := pfOnly, active := ownActive, check := noCheck,
    run := fun s _ p =>
      let o := pkOut p
      match s.out o with
      | none => .done s (Rsp.plain .rejectedUnit)
      | some x =>
        if s.leased (pkUnit p) then .delayed s (Rsp.plain .deferredSecureLease) (.lease (uKey (pkUnit p))) false
        else if x.modeset.isSome then .delayed s (Rsp.plain .delayedUnitBusy) (.unit (uKey (pkUnit p))) false
        else
          match x.token with
          | none => .done s (Rsp.plain .rejectedMalformed)
          | some (_, ws) =>
            let (s1, n) := s.newWork
            let m : Modeset := { words := ws, work := n, stage := 0, began := s.core.now }
            let s2 := s1.updOut o (fun y => { y with token := none, modeset := some m, link := (if y.link = 2 then 4 else y.link) })
            .silent (if x.mode.isEmpty then s2.endBlack o else s2) (.work n),
    ask := noAsk }

/-- OUTPUT_COMMIT. -/
def execOutputCommit (port : Port) (s : State) : Host.Outcome State Fault Refusal := s.ends (cmdOutputCommit.exec port s)

/-- OUTPUT_CANCEL (R266). -/
def cmdOutputCancel : Cmd :=
  { opcode := 0x0402, forms := .setOnly, secure := false, always := false, form := fun _ _ p => pkLen p 0, qform := bufForm, unitOk := atOutput, may := pfOnly, active := ownActive, check := noCheck,
    run := fun s _ p => .done (s.updOut (pkOut p) (fun o => { o with token := none })) (Rsp.plain .served), ask := noAsk }

/-- OUTPUT_CANCEL. -/
def execOutputCancel (port : Port) (s : State) : Host.Outcome State Fault Refusal := s.ends (cmdOutputCancel.exec port s)

/-- OUTPUT_REFRESH (R278, R279, R271). -/
def cmdOutputRefresh : Cmd :=
  { opcode := 0x0403, forms := .both, secure := false, always := false,
    form := fun s _ p => pkLen p 1 && fld (pkW p 0) 63 16 == 0 && (s.out (pkOut p)).elim true (fun o => !o.adaptive || (decide (o.vTotal ≤ pkW p 0) && decide (pkW p 0 ≤ o.vtMax))),
    qform := bufForm, unitOk := atOutput, may := pfOnly, active := ownActive,
    check := fun s _ p => if (s.out (pkOut p)).elim true (fun o => !o.adaptive || o.lock != 0) then some (Rsp.plain .refusedLocked) else none,
    run := fun s _ p =>
      let o := pkOut p
      let s0 := (s.out o).elim s (fun x => x.vtNew.elim s (fun v => s.finishWork v.2.1 (Rsp.ok (x.frames % 2 ^ 32) 0 0)))
      let (s1, n) := s0.newWork
      .silent (s1.updOut o (fun x => { x with vtNew := some (pkW p 0, n, false) })) (.work n),
    ask := fun s w p => s.answerWords w p [BitVec.ofNat 64 ((s.out (pkOut p)).elim 0 Outp.vt)] }

/-- OUTPUT_REFRESH. -/
def execOutputRefresh (port : Port) (s : State) : Host.Outcome State Fault Refusal := s.ends (cmdOutputRefresh.exec port s)

/-! ## Genlock -/

/-- SOURCE of the genlock in force. -/
def Outp.source (o : Outp) : Nat := fld (o.genlock.getD 0 0) 1 0
/-- PERIOD in units of 2^-16 ns. -/
def Outp.period (o : Outp) : Nat := fld (o.genlock.getD 1 0) 47 0
/-- PHASE in ns. -/
def Outp.phase (o : Outp) : Nat := o.genlock.getD 2 0

/-- Changes the genlock state; each change is journaled (R269). -/
def State.setLock (s : State) (o lock : Nat) : State :=
  match s.out o with
  | none => s
  | some x =>
    if x.lock = lock then s
    else (s.updOut o (fun y => { y with lock := lock, goodFrames := (if lock = 2 then y.goodFrames else 0) })).mapCore (fun k => k.event 0xFE23 0 (uid 0x22 o 0) (o + lock * 256) (le 4 (enc 32 x.phaseErr)))

/-- PERIOD lies within 500 ppm of the frame period (R268). -/
def Outp.periodOk (o : Outp) (per : Nat) : Bool :=
  let a := o.hTotal * o.vt * 10 ^ 9 * 65536
  decide (0 < a) && decide (dist (per * o.pixelHz) a * 10 ^ 6 ≤ 500 * a)

/-- OUTPUT_GENLOCK (R268, R562). -/
def cmdOutputGenlock : Cmd :=
  { opcode := 0x0404, forms := .both, secure := false, always := false,
    form := fun s _ p => pkLen p 3 && pkF p 0 3 2 == 0 && pkF p 0 63 16 == 0 && decide (1 ≤ pkF p 0 7 4) && decide (pkF p 0 7 4 ≤ 8) && decide (1 ≤ pkF p 0 15 8) && decide (pkF p 0 15 8 ≤ 100) && pkF p 1 63 48 == 0 &&
      (pkF p 0 1 0 == 0 || (s.out (pkOut p)).elim false (fun o => o.periodOk (pkW p 1))),
    qform := bufForm, unitOk := atOutput, may := pfOnly, active := ownActive,
    check := fun s _ p => if s.core.inWall && pkF p 0 1 0 != 1 then some (Rsp.plain .refusedLocked) else none,
    run := fun s _ p =>
      let o := pkOut p
      .done ((s.updOut o (fun x => { x with genlock := [pkW p 0, pkW p 1, pkW p 2], goodFrames := 0, edgeCount := 0, edgeAt := s.core.now })).setLock o (if pkF p 0 1 0 = 0 then 0 else 1)) (Rsp.plain .served),
    ask := fun s w p => s.answerWords w p (((s.out (pkOut p)).elim [] Outp.genlock).map (BitVec.ofNat 64)) }

/-- OUTPUT_GENLOCK. -/
def execOutputGenlock (port : Port) (s : State) : Host.Outcome State Fault Refusal := s.ends (cmdOutputGenlock.exec port s)

/-- HOUSE_SYNC_EDGE (R268, R271): each DIV-th edge is a reference; one off PERIOD by more than 500 ppm counts as missing. -/
def execHouseSyncEdge (input : Nat) (s : State) : Host.Outcome State Fault Refusal :=
  s.ends ((Tbl.keys s.frd.outs).foldl (fun t o =>
    match t.out o with
    | none => t
    | some x =>
      if x.source ≠ 2 + input then t
      else if x.edgeCount + 1 < fld (x.genlock.getD 0 0) 7 4 then t.updOut o (fun y => { y with edgeCount := y.edgeCount + 1 })
      else
        let gap := (t.core.now - x.edgeLast) * 65536
        let good := decide (dist gap x.period * 10 ^ 6 ≤ 500 * x.period)
        let t1 := t.updOut o (fun y => { y with edgeCount := 0, edgeLast := t.core.now, edgeAt := (if good then t.core.now else y.edgeAt) })
        if good && x.lock == 3 then t1.setLock o 1 else t1) s)

/-- GENLOCK_ACQUIRED (R269): LOCKED after 16 consecutive frames within 100 ns. -/
def execGenlockAcquired (output : Nat) (s : State) : Host.Outcome State Fault Refusal :=
  s.ends (match s.out output with
    | some x => if x.lock = 1 ∧ 16 ≤ x.goodFrames then s.setLock output 2 else s
    | none => s)

/-- True where a genlock reference is missing (R269 to R271); a wall member's device time after 10 ms of holdover (R559). -/
def State.refMissing (s : State) (x : Outp) : Bool :=
  if x.source = 1 then (if s.core.inWall && !s.core.wallMaster then s.rhz.time == 3 && decide (s.rhz.holdAt + 10 ^ 7 ≤ s.core.now) else s.ing.ptp.st == 3) else if 2 ≤ x.source then decide (2 * x.period < (s.core.now - x.edgeAt) * 65536) else false

/-- GENLOCK_HOLDOVER (R269, R270). -/
def execGenlockHoldover (output : Nat) (s : State) : Host.Outcome State Fault Refusal :=
  s.ends (match s.out output with
    | some x => if (x.lock = 1 ∨ x.lock = 2) ∧ s.refMissing x then (s.updOut output (fun y => { y with rateMean := y.pixelHz })).setLock output 3 else s
    | none => s)

/-- The phase error of a start of active video in ns (R268): against PHASE + k PERIOD, or the last reference edge. -/
def Outp.phaseAt (x : Outp) (now : Nat) : Int :=
  let p := x.period
  if p = 0 then 0
  else
    let base : Nat := if x.source = 1 then x.phase * 65536 else x.edgeAt * 65536 + x.phase * 65536 % p
    let d := ((now * 65536 : Nat) - base : Int) % p
    (if 2 * d < p then d else d - p) / 65536

/-- The genlock part of a start of active video. -/
def State.lockFrame (s : State) (o : Nat) : State :=
  match s.out o with
  | none => s
  | some x =>
    if x.source = 0 then s
    else
      let e := x.phaseAt s.core.now
      let s1 := s.updOut o (fun y => { y with phaseErr := e, goodFrames := (if e.natAbs ≤ 100 then y.goodFrames + 1 else 0) })
      if x.lock = 2 ∧ 1000 < e.natAbs then s1.setLock o 1
      else if x.lock = 3 ∧ x.source = 1 ∧ !s.refMissing x then s1.setLock o 1 else s1

/-! ## Status, writeback settings -/

/-- DPTX_STATUS (Table 7.10). -/
def Outp.dptx (o : Outp) : Nat := o.link * 2 ^ 28 + o.rate * 2 ^ 24 + o.lanes * 2 ^ 21 + b2n o.hpd * 2 ^ 20 + b2n (o.dsc && o.link == 2) * 2 ^ 19

/-- XBAR_SEL (Table 7.9). -/
def Outp.xbar (o : Outp) : Nat := b2n o.spare * 128 + o.frond

/-- Who may read an output's status. -/
def mayOutStatus (s : State) (w : Who) (p : Packet) : Bool :=
  !w.secure && (w.inst == 0 || (s.out (pkOut p)).elim false (fun o => (s.layersOf o.frond).any (fun e => e.2.owner == w.inst)))

/-- The results of R643. -/
def outStatus (s : State) (o : Nat) : Rsp := (s.out o).elim (Rsp.plain .rejectedUnit) (fun x => Rsp.ok x.dptx (x.frames % 2 ^ 32) x.xbar)

/-- OUTPUT_STATUS (R643). -/
def cmdOutputStatus : Cmd :=
  { opcode := 0x0405, forms := .queryOnly, secure := false, always := false, form := fun _ _ p => pkLen p 0, qform := fun _ _ p => pkLen p 0, unitOk := atOutput, may := mayOutStatus, active := ownActive,
    check := noCheck, run := noRun, ask := fun s _ p => (s, outStatus s (pkOut p)) }

/-- OUTPUT_STATUS. -/
def execOutputStatus (port : Port) (s : State) : Host.Outcome State Fault Refusal := s.ends (cmdOutputStatus.exec port s)

/-- The slot that WRITEBACK_SET names. -/
def wbSlotOf (p : Packet) : Nat := pkF p 0 1 0

/-- The form of WRITEBACK_SET (R290, R291). -/
def wbForm (s : State) (_ : Who) (p : Packet) : Bool :=
  let crop := (sxt 16 (pkW p 2), sxt 16 (pkW p 2 >>> 16), sxt 16 (pkW p 2) + (pkF p 2 47 32 : Nat), sxt 16 (pkW p 2 >>> 16) + (pkF p 2 63 48 : Nat))
  pkLen p 3 &&
  (if wbSlotOf p < 2 then pkF p 0 8 2 == 0 && pkF p 0 63 11 == 0 && (wbSlotOf p == 1 || pkF p 0 10 9 == 0) && pkW p 1 == 0 && pkW p 2 == 0
   else pkF p 0 7 2 == 0 && pkF p 0 15 9 == 0 && pkF p 0 31 26 == 0 && pkF p 0 63 40 == 0 && (pkF p 0 23 16 == 1 || pkF p 0 23 16 == 2) && (pkF p 0 25 24 == 0 || pkF p 0 25 24 == 2) &&
    (pkF p 0 39 32 == 0 || ([pkF p 1 31 0, pkF p 1 63 32].Nodup && [pkF p 1 31 0, pkF p 1 63 32].all (fun u => (s.surf u).elim false (fun sf =>
      sf.format == pkF p 0 23 16 && sf.layout == pkF p 0 25 24 && decide (pkF p 2 47 32 ≤ sf.width) && decide (pkF p 2 63 48 ≤ sf.height))) &&
      !rectEmpty crop && (s.outOf (uIdx (pkUnit p))).elim false (fun o => clip crop o.2.area == crop))))

/-- WRITEBACK_SET (R290, R291). -/
def cmdWritebackSet : Cmd :=
  { opcode := 0x0406, forms := .both, secure := false, always := false, form := wbForm, qform := bufForm, unitOk := fun _ _ p => pkIs p 0x20,
    may := fun s w p => w.secure || (pfOnly s w p && (pkQuery p || decide (2 ≤ wbSlotOf p))), active := ownActive,
    check := fun s _ p =>
      if wbSlotOf p = 1 && !(s.group (if bitOf (pkW p 0) 9 then 0 else 1)).st.serves then some (Rsp.plain .refusedUnitReset)
      else if decide (2 ≤ wbSlotOf p) && pkF p 0 39 32 != 0 && [pkF p 1 31 0, pkF p 1 63 32].any (fun u => (s.surf u).elim false (fun sf => sf.releasing || sf.onScreen)) then some (Rsp.plain .refusedLocked)
      else none,
    run := fun s _ p =>
      let f := uIdx (pkUnit p)
      let k := wbSlotOf p
      match s.frond f with
      | none => .done s (Rsp.plain .rejectedUnit)
      | some fr =>
        let w := fr.wbSlot k
        let ts := if k < 2 ∨ pkF p 0 39 32 = 0 then [] else [pkF p 1 31 0, pkF p 1 63 32]
        let new := ts.filter (fun u => !w.targets.contains u && !(w.pending.elim false (fun x => x.2.1.contains u)))
        if new.any (fun u => (s.surf u).elim false Surf.written) then .delayed s (Rsp.plain .delayedUnitBusy) (.unit (new.headD 0)) false
        else if new.any (fun u => s.lockFull (uNum u)) then .delayed s.countLockWait (Rsp.plain .delayedUnitBusy) (.unit (new.headD 0)) false
        else
          let old := (w.pending.elim [] (fun x => x.2.1)).filter (fun u => !w.targets.contains u && !ts.contains u)
          let s1 := (s.wbDrop f k old).wbRefs f k new
          .done (s1.updFrond f (fun x => { x with wb := Tbl.put x.wb k { w with pending := some (pkW p 0, ts, pkW p 2) } })) (Rsp.plain .served),
    ask := fun s w p => s.answerWords w p (((s.frond (uIdx (pkUnit p))).elim [] (fun fr => [0, 1, 2, 3].flatMap (fun k => let x := fr.wbSlot k; [x.w0, (if k < 2 then 0 else x.targets.getD 0 0 + x.targets.getD 1 0 * 2 ^ 32), x.crop]))).map (BitVec.ofNat 64)) }

/-- WRITEBACK_SET. -/
def execWritebackSet (port : Port) (s : State) : Host.Outcome State Fault Refusal := s.ends (cmdWritebackSet.exec port s)

/-! ## Links -/

/-- The pairs that training tries, in order (R273). -/
def trainOrder (rate lanes top : Nat) : List (Nat × Nat) :=
  (rate, lanes) :: ((List.range (min top 6 + 1)).reverse.flatMap (fun r => [4, 2, 1].map (fun l => (r, l))))

/-- LINK_TRAINING_DONE (R273): the pairs of rate and lanes that train on this link are given; the first in order that also carries the mode is taken. -/
def execLinkTrainingDone (output : Nat) (trains : List (Nat × Nat)) (s : State) : Host.Outcome State Fault Refusal :=
  s.ends (match s.out output with
    | none => s
    | some x =>
      if x.link ≠ 1 then s
      else
        match (trainOrder (x.rateFor x.mode) (modeLanes x.mode) (x.sink.elim 6 Sink.rate)).find? (fun c => trains.contains c && x.carries c.1 c.2 && decide (c.2 ≤ x.sink.elim 4 Sink.lanes)) with
        | some (r, l) =>
          (match x.modeset with
            | some m => s.updOut output (fun y => { y with link := 4, rate := r, lanes := l, modeset := some (if m.stage = 2 then { m with stage := 3 } else m) })
            | none => (s.updOut output (fun y => { y with link := 2, rate := r, lanes := l })).linkEvent output)
        | none =>
          let s1 := (s.updOut output (fun y => { y with link := 3, rate := 0, lanes := 0 })).linkEvent output
          (match x.modeset with
            | some m => if m.stage < 2 then s1 else (s1.updOut output (fun y => { y with modeset := none })).finishWork m.work (Rsp.code .failed 0x0002)
            | none => s1))

/-- HPD_LONG_PULSE (R274): without a sink the output is DISCONNECTED; a sink that returns is checked, and the link trained with the committed mode. -/
def execHpdLongPulse (output : Nat) (sink : Option Sink) (s : State) : Host.Outcome State Fault Refusal :=
  s.ends (match s.out output with
    | none => s
    | some x =>
      match sink with
      | none => (s.updOut output (fun y => { y with hpd := false, sink := none, link := 0, rate := 0, lanes := 0, modeset := y.modeset.map (fun m => if m.stage = 2 then { m with stage := 3 } else m) })).linkEvent output
      | some k =>
        let s1 := s.updOut output (fun y => { y with hpd := true, sink := some k, link := 0 })
        if x.mode.isEmpty then s1.linkEvent output
        else if { x with sink := some k }.sinkTakes x.mode then (s1.updOut output (fun y => { y with link := 1 })).linkEvent output
        else (s1.updOut output (fun y => { y with link := 3 })).linkEvent output)

/-- HPD_SHORT_PULSE (R274): a link that has lost lock retrains with its rate and lanes. -/
def execHpdShortPulse (output : Nat) (locked : Bool) (s : State) : Host.Outcome State Fault Refusal :=
  s.ends (match s.out output with
    | none => s
    | some x => if locked || x.link ≠ 2 then s else (s.updOut output (fun y => { y with link := 1 })).linkEvent output)

/-! ## Start of active video -/

/-- A signed region at the start of its frame: its rectangle, a fresh CRC; a result still waiting is made first. -/
def State.startSreg (s : State) (f : Nat) (sc : Scene) (k : Nat) : State :=
  let u := uid 0x52 f (k % 256)
  (s.sigResult u).updSreg k (fun r => { r with drawn := sc.rectOf u, crc := 0xFFFFFFFF, crcFrame := sc.frame, waiting := false, repeatedPx := 0 })

/-- The frond side of a start of active video: the latched scene goes to scan-out, layers removed by it end, substituted lines and aborted writes are forgotten. -/
def State.startScene (s : State) (f : Nat) (out : Outp) (sc : Scene) : State :=
  let s0 := (Tbl.keys (Tbl.keep s.led.sregs (fun k _ => k / 256 == f))).foldl (fun t k => t.startSreg f sc k) s
  let partly := s.frd.patrol.partly && s.frd.patrol.target == f
  let s1 := s0.updFrond f (fun fr => { fr with scan := some sc, next := none, line := 0, substituted := (if partly then List.range out.vActive else []), wb := Tbl.mapVals fr.wb (fun _ w => { w with aborted := false }) })
  let s2 := if partly then s1.updPatrol (fun p => { p with fromLine := 0 }) else s1
  s2.endLayers f

/-- Resets the frame budgets of the instances whose REF_OUTPUT an output is (R126). -/
def State.resetBudgets (s : State) (o : Nat) : State :=
  { s with frd := { s.frd with used := Tbl.keep s.frd.used (fun k _ => (s.core.share (k % 0x10000 / 4)).elim true (fun sh => sh.refOutput != o)) } }

/-- The timing side: the frame counted, its start kept, the next start fixed with the vertical total now in force (R267, R279). -/
def State.startTiming (s : State) (o : Nat) : State :=
  match s.out o with
  | none => s
  | some x =>
    let frames := x.frames + 1
    let step : Outp × Option Nat :=
      match x.vtNew with
      | some (v, n, false) => ({ x with vt := v, vtNew := some (v, n, true) }, none)
      | some (_, n, true) => ({ x with vtNew := none }, some n)
      | none => (x, none)
    let s1 := s.updOut o (fun _ => { step.1 with frames := frames, sav := s.core.now, nextSav := s.core.now + step.1.frameNs })
    match step.2 with
    | some n => s1.finishWork n (Rsp.ok (frames % 2 ^ 32) 0 0)
    | none => s1

/-- START_OF_ACTIVE_VIDEO (R267, R279, Table 7.6). -/
def State.startFrame (s : State) (o : Nat) : State :=
  match s.out o with
  | none => s
  | some x =>
    if x.mode.isEmpty || x.link == 1 then s
    else
      match x.modeset.map Modeset.stage with
      | some 0 =>
        let s1 := (s.startTiming o).updOut o (fun y => { y with black := true, modeset := y.modeset.map (fun m => { m with stage := 1 }) })
        (s1.updFrond x.frond (fun fr => { fr with scan := none, next := none, line := 0 })).resetBudgets o
      | some 1 => s.endBlack o
      | some 2 => s
      | some _ =>
        (match (s.frond x.frond).bind Frond.next with
          | none => s
          | some sc =>
            let s1 := (s.startTiming o).startScene x.frond x sc
            let s2 := s1.updOut o (fun y => { y with modeset := none, link := (if y.hpd then 2 else y.link) })
            let s3 := if x.hpd then s2.linkEvent o else s2
            ((x.modeset.elim s3 (fun m => s3.finishWork m.work (Rsp.ok ((x.frames + 1) % 2 ^ 32) 0 0))).resetBudgets o).lockFrame o)
      | none =>
        let s1 := s.startTiming o
        let fr := s.frond x.frond
        let s2 := ((fr.bind Frond.next).or (fr.bind Frond.scan)).elim s1 (fun sc => s1.startScene x.frond x sc)
        let s3 := if s.frd.patrol.detected < x.frames + 1 then s2.causeOnFrond .bothFlagged false x.frond else s2
        (s3.resetBudgets o).lockFrame o

/-- START_OF_ACTIVE_VIDEO. -/
def execStartOfActiveVideo (output : Nat) (s : State) : Host.Outcome State Fault Refusal := s.ends (s.startFrame output)

/-! ## Lines -/

/-- The picture FROND[8] gives for the rest of a frame from a flagged line on: band A over the band part of the safety copy (R299 step 2). -/
def State.standScene (s : State) (f : Nat) (fr : Frond) (sc : Scene) (y : Nat) : Scene :=
  let p := s.frd.patrol
  if p.partly && p.target == f && decide (p.fromLine ≤ y) then
    match s.bandPart fr with
    | some e => { sc with safetySurf := some e.2.1, layers := sc.layers.map (fun l => if l.desc.band = 0 then l else { l with safety := true }) }
    | none => sc
  else sc

/-- TBC header errors that the fetch of a scene's layers meets, counted and recorded at each layer's first line (R198). -/
def State.lineErrors (s : State) (f : Nat) (sc : Scene) (y : Nat) : State :=
  sc.layers.foldl (fun t l =>
    match (if l.shown && max l.desc.dstY 0 == (y : Int) then t.surf l.buffer else none) with
    | none => t
    | some sf =>
      (List.range (planesOf sf.format).length).foldl (fun u p =>
        let pf := sf.shape.plane p
        let offs := u.tbcErrors sf p (l.desc.srcX / pf.hdiv) (l.desc.srcY / pf.vdiv) (l.desc.srcW / pf.hdiv) (l.desc.srcH / pf.vdiv)
        (u.tbcRecords (uNum l.buffer) p offs).updFrond f (fun fr => { fr with tbcErr := satAdd fr.tbcErr offs.length })) t) s

/-- The signature taps on a line (R346, R347). -/
def State.lineTaps (s : State) (f : Nat) (sc : Scene) (y : Nat) : State :=
  (Tbl.keys (Tbl.keep s.led.sregs (fun k _ => k / 256 == f))).foldl (fun t k =>
    match (Tbl.find t.led.sregs k).bind SRegion.drawn with
    | none => t
    | some r =>
      if r.2.1 ≤ (y : Int) ∧ (y : Int) < r.2.2.2 then
        let last := decide ((y : Int) + 1 = r.2.2.2)
        let bs := t.tapRow sc r y
        t.updSreg k (fun g => { g with crc := (if last then crc32cFeed g.crc bs ^^^ 0xFFFFFFFF else crc32cFeed g.crc bs), waiting := last, tapAt := (if last then s.ledgerNow else g.tapAt) })
      else t) s

/-- Pixels of a line in a rectangle that were repeated. -/
def missingIn (r : Rect) (y : Nat) (missing : List Nat) : Nat := (missing.filter (fun x => inRect r x y)).length

/-- An underrun on a line (R286, R287). -/
def State.underrun (s : State) (f : Nat) (sc : Scene) (y : Nat) (missing : List Nat) : State :=
  if missing.isEmpty then s
  else
    let s1 := s.updFrond f (fun fr => { fr with underrun := satInc fr.underrun })
    let hit (u : Nat) : Nat := (sc.rectOf u).elim 0 (fun r => missingIn r y missing)
    { s1 with led := { s1.led with
        regions := Tbl.mapVals s1.led.regions (fun n r => if s.frondOfPlace r.place = f ∧ 0 < hit (uidN 0x51 n) then { r with repeatedPx := r.repeatedPx + hit (uidN 0x51 n), veil := r.veil.begin .underrun s.core.now } else r),
        sregs := Tbl.mapVals s1.led.sregs (fun k r => if k / 256 = f ∧ 0 < hit (uid 0x52 f (k % 256)) then { r with repeatedPx := r.repeatedPx + hit (uid 0x52 f (k % 256)), veil := r.veil.begin .underrun s.core.now } else r) } }

/-- Underruns at the end of a frame: UNDERRUN_FAULT per faulted region; regions without a repeated pixel clear (R287). -/
def State.endUnderrun (s : State) (f : Nat) (sc : Scene) : State :=
  let note (t : State) (u n : Nat) : State := t.mapCore (fun k => (k.irq .secUnderrun).event 0xFE21 0 u u (le 8 sc.frame ++ le 4 n))
  let s1 := (Tbl.keep s.led.regions (fun n r => decide (0 < r.repeatedPx) && (sc.rectOf (uidN 0x51 n)).isSome && s.frondOfPlace r.place == f)).foldl (fun t e => note t (uidN 0x51 e.1) e.2.repeatedPx) s
  let s2 := (Tbl.keep s.led.sregs (fun k r => decide (0 < r.repeatedPx) && k / 256 == f)).foldl (fun t e => note t (uid 0x52 f (e.1 % 256)) e.2.repeatedPx) s1
  { s2 with led := { s2.led with
      regions := Tbl.mapVals s2.led.regions (fun n r => if s.frondOfPlace r.place = f ∧ (sc.rectOf (uidN 0x51 n)).isSome then (if r.repeatedPx = 0 then { r with veil := r.veil.finish .underrun s.core.now } else { r with repeatedPx := 0 }) else r),
      sregs := Tbl.mapVals s2.led.sregs (fun k r => if k / 256 = f ∧ r.drawn.isSome then (if r.repeatedPx = 0 then { r with veil := r.veil.finish .underrun s.core.now } else { r with repeatedPx := 0 }) else r) } }

/-- FRD_PANIC's threshold in bytes (R285). -/
def Frond.panicBytes (fr : Frond) : Nat := (if 16 ≤ fr.panicLevel ∧ fr.panicLevel ≤ 176 then fr.panicLevel else 64) * 1024

/-- The fronds that a group's arbiter sees in panic, longest first. -/
def panicList (l : List Nat) (f : Nat) (on : Bool) : List Nat := if on then (if l.contains f then l else l ++ [f]) else l.filter (· != f)

/-- The tolerance of a frond in µs (R283): cushion over drain rate, 65,535 without a drain. -/
def State.toleranceOf (s : State) (f : Nat) (fr : Frond) (extraNs : Nat) : Nat :=
  match s.outOf f, fr.scan with
  | some (_, out), some sc =>
    let d := ((sc.layers.filter SceneLayer.shown).map (fun l => let e := s.descDemand out l.desc; e.2 * s.entryRate e.1)).foldl (· + ·) 0
    if d = 0 then 65535 else min 65535 (fr.cushion * 10 ^ 6 / d + extraNs / 1000)
  | _, _ => 65535

/-- What a frond states to a group: its tolerance where it fetches from it (R283), else what its 64 KiB writeback FIFO holds out for, empty (R284, log entry 44). -/
def State.statedTo (s : State) (g f : Nat) (fr : Frond) : Nat :=
  match s.outOf f, fr.scan with
  | some (_, out), some sc =>
    if (sc.layers.filter SceneLayer.shown).any (fun l => let e := s.descDemand out l.desc; e.1 == g && e.2 != 0) then fr.tolerance
    else let w := s.wbDemand f g * s.entryRate g; if w = 0 then 65535 else min 65535 (65536 * 10 ^ 6 / w)
  | _, _ => 65535

/-- A group's tolerance: the smallest its real-time clients state (R160). -/
def State.retolerate (s : State) : State :=
  let t (g : Nat) : Nat := (s.frd.fronds.map (fun e => s.statedTo g e.1 e.2)).foldl min 65535
  { s with mem := { s.mem with a := { s.mem.a with tolerance := t 0 }, b := { s.mem.b with tolerance := t 1 } } }

/-- The cushion after a line: tolerance and panic (R159, R283, R285). -/
def State.setCushion (s : State) (f cushion extraNs : Nat) : State :=
  match s.frond f with
  | none => s
  | some fr =>
    let on := decide (cushion < fr.panicBytes) || (fr.panic && decide (cushion < fr.panicBytes + 16384))
    let s1 := s.updFrond f (fun x => { x with cushion := cushion, panic := on, panicAt := (if on && !x.panic then s.core.now else x.panicAt) })
    let s2 := s1.updFrond f (fun x => { x with tolerance := s1.toleranceOf f x extraNs })
    let s3 := { s2 with mem := { s2.mem with a := { s2.mem.a with panic := panicList s2.mem.a.panic f on }, b := { s2.mem.b with panic := panicList s2.mem.b.panic f on } } }
    s3.retolerate

/-- A full writeback FIFO abandons the rest of the frame's writes (R292). -/
def State.abortWb (s : State) (f : Nat) : State :=
  s.updFrond f (fun fr =>
    if fr.wb.all (fun e => e.2.aborted) && !fr.wb.isEmpty then fr
    else { fr with wbAbort := satInc fr.wbAbort, wb := [0, 1, 2, 3].foldl (fun t k => Tbl.put t k { Tbl.at t idleWb k with aborted := true }) fr.wb })

/-- A line mismatch while neither frond is flagged (R298). -/
def State.mismatch (s : State) (f frame : Nat) : State :=
  let p := s.frd.patrol
  if p.st ≠ 1 ∨ p.target ≠ f ∨ p.lastMismatch = frame then s
  else
    let streak := if p.lastMismatch + 1 = frame ∧ 0 < p.streak then p.streak + 1 else 1
    s.updPatrol (fun q => { q with mismatch := satInc q.mismatch, streak := streak, lastMismatch := frame,
                                   pending := (if streak = 3 && !q.pending.any (fun e => e.1 == f) then q.pending ++ [(f, s.core.now, 2, 0)] else q.pending) })

/-! ## Layer status records -/

/-- A veil on a layer of a scene: cause 1 for a live region, 2 for a signed one (Table 6.4). -/
def State.veilCause (s : State) (sc : Scene) (u : Nat) : Nat :=
  if s.led.regions.any (fun e => e.2.place == u && !e.2.orphan && e.2.veil.veiled && (sc.rectOf (uidN 0x51 e.1)).isSome) then 1
  else if s.led.sregs.any (fun e => e.2.place == u && !e.2.orphan && e.2.veil.veiled && (sc.rectOf (uid 0x52 (e.1 / 256) (e.1 % 256))).isSome) then 2 else 0

/-- The status and cause of a layer's record (R16, R225). -/
def State.recordStatus (s : State) (f : Nat) (sc : Scene) (l : SceneLayer) : Nat × Nat :=
  let v := s.veilCause sc (layerUnit f l.slot)
  if l.status ≤ 1 ∧ v ≠ 0 then (3, v) else (l.status, l.cause)

/-- Counts of ADMISSION_STATUS by layer status (R131). -/
def AdmCount.layer (a : AdmCount) (st : Nat) : AdmCount :=
  match st with
  | 0 => { a with shownNew := satInc a.shownNew }
  | 1 => { a with shownHeld := satInc a.shownHeld }
  | 2 => { a with notShown := satInc a.notShown }
  | 3 => { a with veiled := satInc a.veiled }
  | _ => { a with dropped := satInc a.dropped }

/-- The bytes of a layer status record but for PHASE (Table 6.3). -/
def statusRecord (here : Nat → Nat) (f : Nat) (sc : Scene) (l : SceneLayer) (st : Nat × Nat) (last : Bool) (lost : Nat) : List Byte :=
  le 4 (here (layerUnit f l.slot)) ++ le 1 st.1 ++ le 1 st.2 ++ le 1 (b2n l.stripe * 8 + b2n l.config * 4 + b2n last * 2 + b2n l.repeated) ++ [0] ++ le 4 sc.frame ++ le 4 (if l.status ≤ 1 ∧ l.buffer ≠ 0 then here l.buffer else 0)
    ++ le 8 sc.latchDt ++ le 2 l.gen.toNat ++ le 2 l.held ++ le 4 lost

/-- One layer's status record (R224, R226). -/
def State.writeStatus (s : State) (f : Nat) (sc : Scene) (l : SceneLayer) : State :=
  let st := s.recordStatus f sc l
  let key := sliceKey l.owner l.slice
  let s1 := s.mapCore (fun k => { k with adm := Tbl.put k.adm l.owner ((Tbl.at k.adm AdmCount.zero l.owner).layer st.1) })
  let lost := (s.frond f).elim 0 (fun fr => Tbl.at fr.lost 0 key)
  let last := (s.layer (layerUnit f l.slot)).elim true (fun x => x.removing.isSome)
  match s1.core.slice l.owner l.slice with
  | none => s1.updFrond f (fun fr => { fr with stsLost := satInc fr.stsLost, lost := Tbl.inc fr.lost key })
  | some sl =>
    if s1.core.room l.owner sl .sts = 0 then s1.updFrond f (fun fr => { fr with stsLost := satInc fr.stsLost, lost := Tbl.inc fr.lost key })
    else (s1.mapCore (fun k => k.putEntry l.owner l.slice sl .sts (statusRecord s.core.here f sc l st last lost))).updFrond f (fun fr => { fr with lost := Tbl.del fr.lost key })

/-- What follows the last active line of a frame. -/
def State.endFrame (s : State) (f : Nat) (sc : Scene) : State :=
  let s1 := sc.layers.foldl (fun t l => t.writeStatus f sc l) (s.endUnderrun f sc)
  let s2 := { s1 with led := { s1.led with sregs := Tbl.mapVals s1.led.sregs (fun k r => if k / 256 = f ∧ r.drawn.isNone ∧ r.crcFrame = sc.frame ∧ r.st ≠ .none then { r with waiting := true } else r) } }
  if s2.frd.patrol.st = 1 ∧ s2.frd.patrol.target = f then s2.updPatrol (fun p => { p with frames := min 600 (p.frames + 1), streak := (if p.lastMismatch = sc.frame then p.streak else 0) }) else s2

/-- LINE_DUE (R260, R286): a line's due time on a frond's output. Missing columns were not in the FIFO; cushion is its content in bytes; wbFull says that the writeback FIFO is full, mismatch that the patrol's line signatures differ. -/
def State.lineDue (s : State) (f y : Nat) (missing : List Nat) (cushion : Nat) (wbFull mismatch : Bool) : State :=
  match s.frond f, s.outOf f with
  | some fr, some (o, out) =>
    let last := y + 1 == out.vActive
    if out.black then
      let s1 := s.updOut o (fun x => { x with lineOut := List.replicate (3 * out.hActive) 0 })
      if last then s1.endBlack o else s1
    else if out.vActive ≤ y then s
    else
      match fr.scan with
      | none => s
      | some sc0 =>
        let sc := s.standScene f fr sc0 y
        let missing := missing.filter (fun x => decide (x < out.hActive))
        let px := s.lineSamples o out sc y missing
        let s1 := (s.updOut o (fun x => { x with lineOut := px })).updFrond f (fun x => { x with line := y })
        let s2 := (((s1.lineErrors f sc y).lineTaps f sc y).underrun f sc y missing).setCushion f cushion (if last then out.nextSav - s.core.now else 0)
        let s3 := if wbFull then s2.abortWb f else s2
        let s4 := if mismatch then s3.mismatch f sc.frame else s3
        if last then s4.endFrame f sc0 else s4
  | _, _ => s

/-- LINE_DUE. -/
def execLineDue (frond line : Nat) (missing : List Nat) (cushion : Nat) (wbFull mismatch : Bool) (s : State) : Host.Outcome State Fault Refusal :=
  s.ends (s.lineDue frond line missing cushion wbFull mismatch)

/-! ## Writeback -/

/-- The picture a slot writes (R288). -/
def State.wbPx (s : State) (o : Nat) (out : Outp) (sc : Scene) (k : Nat) (post : Bool) (x y : Nat) : Px :=
  if k = 0 then s.composeLow sc x y else if post then s.postPx o out sc x y else s.tapPx sc x y

/-- WRITEBACK_COMPLETE (R288, R290): a slot's write of the frame being scanned completes in the surface the previous write did not take. A frame part that the capture copier reads is not overwritten, and captures take hold of a new one (R542). -/
def State.writeback (s : State) (f k : Nat) : State :=
  match s.frond f, s.outOf f with
  | some fr, some (o, out) =>
    let w := fr.wbSlot k
    (match fr.scan, w.targets[w.next]? with
      | some sc, some u =>
        let every := if k < 2 then 1 else fld w.w0 39 32
        let wrote := (Tbl.find fr.wbLast k).elim false (fun e => e.1 == sc.frame)
        if w.aborted || wrote || every == 0 || w.targets.length < 2 then s
        else if k = 1 ∧ s.peat.requests.any (fun q => q.frond == f && q.held.elim false (fun h => h.surf == u)) then s.updFrond f (fun x => { x with wbAbort := satInc x.wbAbort, wb := Tbl.put x.wb 1 { w with aborted := true } })
        else if decide (w.count + 1 < every) then s.updFrond f (fun x => { x with wb := Tbl.put x.wb k { w with count := w.count + 1, aborted := true } })
        else
          let r : Rect := if k < 2 then out.area else (sxt 16 w.crop, sxt 16 (w.crop >>> 16), sxt 16 w.crop + (fld w.crop 47 32 : Nat), sxt 16 (w.crop >>> 16) + (fld w.crop 63 48 : Nat))
          let fmt := (s.surf u).elim 2 Surf.format
          let px (x y : Nat) : Nat := storePx fmt (s.wbPx o out sc k (bitOf w.w0 8 && decide (2 ≤ k)) (r.1.toNat + x) (r.2.1.toNat + y))
          let s1 := s.putRect (uNum u) f none 0 0 0 0 (r.2.2.1 - r.1).toNat (r.2.2.2 - r.2.1).toNat (fun x y => if k < 2 then px x y % 2 ^ 30 + 3 * 2 ^ 30 else px x y)
          let s2 := s1.updFrond f (fun x => { x with wb := Tbl.put x.wb k { w with next := 1 - w.next, count := 0 }, wbLast := Tbl.put x.wbLast k (sc.frame, u, if k = 1 then out.sav else sc.latchDt) })
          if k = 1 then s2.holdCaptures f else s2
      | _, _ => s)
  | _, _ => s

/-- WRITEBACK_COMPLETE. -/
def execWritebackComplete (frond slot : Nat) (s : State) : Host.Outcome State Fault Refusal := s.ends (s.writeback frond slot)

/-! ## The patrol -/

/-- FRD_PATROL (Table 7.12). -/
def Patrol.word (p : Patrol) : Nat := p.st * 2 ^ 30 + p.target % 8 * 2 ^ 24 + p.frames

/-- PATROL_STATUS (R303). -/
def cmdPatrolStatus : Cmd :=
  { opcode := 0x0407, forms := .queryOnly, secure := false, always := false, form := fun _ _ p => pkLen p 0, qform := fun _ _ p => pkLen p 0, unitOk := fun _ _ p => pkIs p 0x20 && uIdx (pkUnit p) == 8,
    may := pfOnly, active := ownActive, check := noCheck, run := noRun, ask := fun s _ _ => (s, Rsp.ok s.frd.patrol.word s.frd.patrol.mismatch s.frd.patrol.swaps) }

/-- PATROL_STATUS. -/
def execPatrolStatus (port : Port) (s : State) : Host.Outcome State Fault Refusal := s.ends (cmdPatrolStatus.exec port s)

/-- The frond FROND[8] stands in for failed its BIST. -/
def State.spareGone (s : State) : Bool := (s.frond s.frd.patrol.target).elim false Frond.bistFailed

/-- FROND_STANDIN (R302). -/
def cmdFrondStandin : Cmd :=
  { opcode := 0x0408, forms := .setOnly, secure := false, always := false, form := fun _ _ p => pkLen p 1 && decide (pkW p 0 ≤ 1), qform := bufForm, unitOk := fun _ _ p => pkIs p 0x20 && decide (uIdx (pkUnit p) < 8),
    may := pfOnly, active := ownActive,
    check := fun s _ p =>
      let q := s.frd.patrol
      if pkW p 0 = 1 ∧ q.st = 3 then some (Rsp.code .refusedShare 0x23)
      else if q.st = 2 && s.spareGone && (pkW p 0 == 1 || q.target == uIdx (pkUnit p)) then some (Rsp.code .refusedShare 0x22) else none,
    run := fun s _ p =>
      let f := uIdx (pkUnit p)
      let q := s.frd.patrol
      let busy : Verdict := .delayed s (Rsp.plain .delayedUnitBusy) (.unit (uid 0x20 8 0)) false
      let ask (cause : Nat) : Verdict :=
        let (s1, n) := s.newWork
        .silent (s1.updPatrol (fun x => { x with pending := x.pending ++ [(f, s.core.now, cause, n)] })) (.work n)
      if pkW p 0 = 0 then
        (if q.st ≠ 2 ∨ q.target ≠ f then .done s (Rsp.ok ((s.outOf f).elim 0 (fun o => o.2.frames) % 2 ^ 32) 0 0) else if q.cause = 4 then ask 5 else busy)
      else if q.st = 1 ∧ q.pending.isEmpty then ask 4 else busy,
    ask := noAsk }

/-- FROND_STANDIN. -/
def execFrondStandin (port : Port) (s : State) : Host.Outcome State Fault Refusal := s.ends (cmdFrondStandin.exec port s)

/-- Fronds that drive an output, in ascending index. -/
def State.driving (s : State) : List Nat := (Tbl.keys s.frd.fronds).filter (fun f => decide (f < 8) && (s.outOf f).isSome)

/-- PATROL_NEXT (R296): after 600 frames the patrol takes the next driving frond; a mismatching one is not left (R298). -/
def execPatrolNext (s : State) : Host.Outcome State Fault Refusal :=
  s.ends (let p := s.frd.patrol
    if p.st = 1 ∧ 600 ≤ p.frames ∧ p.streak = 0 ∧ p.pending.isEmpty then
      s.updPatrol (fun q => { q with st := 0, frames := 0, target := ((s.driving.find? (fun f => decide (p.target < f))).or s.driving.head?).getD p.target })
    else s)

/-- PATROL_WARMUP_END (R296). -/
def execPatrolWarmupEnd (s : State) : Host.Outcome State Fault Refusal :=
  s.ends (let p := s.frd.patrol
    if p.st = 0 && !p.partly && !s.driving.isEmpty then
      s.updPatrol (fun q => { q with st := 1, frames := 0, streak := 0, target := (if s.driving.contains q.target then q.target else s.driving.headD q.target) })
    else s)

/-- FROND_FLAG (R293, R297, R299, R300): a check failure of a stage on a line of a frond; both says that FROND[8] flags the same line. -/
def State.flag (s : State) (f y stage : Nat) (both : Bool) : State :=
  let s1 := s.updFrond f (fun fr => { fr with flagLine := y, flagStages := fr.flagStages ||| 2 ^ stage })
  let p := s.frd.patrol
  match s.outOf (if f = 8 then p.target else f) with
  | none => s1
  | some (o, out) =>
    let frame := out.frames
    if f = 8 then
      (if p.st = 1 then (s1.updPatrol (fun q => { q with st := 3 })).mapCore (fun k => k.event 0xFE24 0 (uid 0x20 8 0) stage (le 8 frame)) else s1)
    else if p.st = 1 ∧ p.target = f then
      (if both then (s1.updPatrol (fun q => { q with detected := frame + 1 })).causeOnFrond .bothFlagged true f
       else (s1.standIn f o 1).swapEvent f 1 frame y)
    else if (p.st = 0 ∨ p.st = 1) ∧ !p.partly then
      let from' := if out.dsc then y / max 1 out.sliceH * max 1 out.sliceH else y
      let s2 := (s1.updFrond f (fun fr => { fr with replaced := true, substituted := (List.range out.vActive).filter (fun n => decide (from' ≤ n)) })).updPatrol
        (fun q => { q with st := 0, target := f, frames := 0, partly := true, fromLine := from', streak := 0, pending := q.pending ++ [(f, s.core.now, 3, 0)] })
      let s3 := ((s.frond f).bind Frond.scan).elim s2 (fun sc => s2.latchLedger f sc.frame sc.layers [] (((s.frond f).bind s.bandPart).map (fun e => e.2.2)))
      (s3.updOut o (fun x => { x with spare := true })).swapEvent f 3 frame y
    else s1

/-- FROND_FLAG. -/
def execFrondFlag (frond line stage : Nat) (both : Bool) (s : State) : Host.Outcome State Fault Refusal := s.ends (s.flag frond line stage both)

/-- FROND_BIST_DONE (R301): a frond that passes takes its output back at a frame boundary; one that fails stays out. -/
def execFrondBistDone (frond : Nat) (passed : Bool) (s : State) : Host.Outcome State Fault Refusal :=
  s.ends (let p := s.frd.patrol
    if p.st = 2 ∧ p.target = frond ∧ 1 ≤ p.cause ∧ p.cause ≤ 3 then
      (if passed then (if p.pending.any (fun e => e.1 == frond) then s else s.updPatrol (fun q => { q with pending := q.pending ++ [(frond, s.core.now, 5, 0)] }))
       else s.updFrond frond (fun fr => { fr with bistFailed := true }))
    else s)

end Sys2Proof.Machine
end

