-- ==== Sys2Proof/Machine/Memory.lean ====
section
/-! DEFINITION. Memory groups: requests, slots, sleep, training, freezing and recovery (chapter 4: R144 to R184). -/

namespace Sys2Proof.Machine

/-! ## Who may write a register -/

/-- Counts an ignored PF write (R623). -/
def State.ignored (s : State) : State := { s with reg := { s.reg with wrIgnored := satInc s.reg.wrIgnored } }

/-- Counts a write turned away by world or by a dead link (R627, R631). -/
def State.worldDeny (s : State) : State := { s with sec := { s.sec with worldDeny := satInc s.sec.worldDeny } }

/-- Counts a write to a locked field (R632). -/
def State.lockedWr (s : State) : State := { s with sec := { s.sec with lockedWr := satInc s.sec.lockedWr } }

/-- A register write by a requester (R620, R623 to R627, R630, R631): applied, ignored or counted. -/
def State.regWrite (s : State) (req : Requester) (canvas pfWrites secure : Bool) (go : State → State) : State :=
  match req with
  | .vf _ => s
  | .pf => if secure then s.worldDeny else if pfWrites then go s else s.ignored
  | .dispatch => if secure then s.worldDeny else go s
  | .mgmt => if secure || (canvas && !s.lnk.up) then s.worldDeny else go s
  | .sec => if canvas && !s.lnk.up then s.worldDeny else go s

/-! ## The frozen controller -/

/-- A layer of a scene after a freeze: the mirror carries it on, the safety copy replaces it, or it is not shown (R170, R173). -/
def State.refit (s : State) (fr : Frond) (l : SceneLayer) : SceneLayer :=
  if l.status ≤ 1 ∧ s.cut l.buffer then
    (if l.desc.band ≠ 0 ∧ (s.bandPart fr).isSome then { l with status := 1, cause := 4, safety := true } else { l with status := 2, cause := 3 })
  else l

/-- A scene after a freeze; with both groups frozen the frond shows its background (R177). -/
def State.refitScene (s : State) (fr : Frond) (sc : Scene) : Scene :=
  if [0, 1].all (fun g => (s.group g).st == .frozen) then { sc with layers := sc.layers.map (fun l => { l with status := 2, cause := 3, safety := false }), safetySurf := none }
  else
    let ls := sc.layers.map (s.refit fr)
    { sc with layers := ls, safetySurf := (if ls.any SceneLayer.safety then (s.bandPart fr).map (fun e => e.2.1) else sc.safetySurf) }

/-- FROND_MIRROR_SWITCH (R170, R172): every frond's scenes after a freeze, and the ledger's part of it. -/
def State.mirrorSwitch (s : State) : State :=
  let s1 := { s with frd := { s.frd with fronds := Tbl.mapVals s.frd.fronds (fun _ fr => { fr with scan := fr.scan.map (s.refitScene fr), next := fr.next.map (s.refitScene fr) }) } }
  s1.frd.fronds.foldl (fun t e =>
    match e.2.scan with
    | some sc => t.latchLedger e.1 sc.frame sc.layers [] ((t.bandPart e.2).map (fun x => x.2.2))
    | none => t) s1

/-- True where a piece of work holds a reference to a surface without a usable copy. -/
def State.workCut (s : State) (n : Nat) : Bool := s.srf.surfs.any (fun e => e.2.refs.any (fun r => r.holder == .work n) && (s.readBase e.2).isNone)

/-- Forgets the engines' records of a piece of work that has failed. -/
def State.forgetWork (s : State) (n : Nat) : State :=
  { s with srf := { s.srf with copies := s.srf.copies.filter (fun c => c.work != n), mirrorCopies := s.srf.mirrorCopies.filter (fun c => c.1 != n) },
           frd := { s.frd with passes := s.frd.passes.filter (fun p => p.work != n) },
           ras := { s.ras with jobs := s.ras.jobs.filter (fun j => j.work != n), cores := Tbl.keep s.ras.cores (fun _ c => c.work != n) },
           chk := { engines := Tbl.mapVals s.chk.engines (fun _ g => if g.scan.elim false (fun c => c.work == n) then { g with mode := 0, scan := none, running := false } else g) } }

/-- Commands whose data is only in a frozen group fail with FAILED_MEMORY (R169, R176). -/
def State.failCut (s : State) (g : Nat) : State × Nat :=
  let ns := s.core.owed.filterMap (fun o => match o.wait with | .work n => if o.started && s.workCut n then some n else none | _ => none)
  (ns.foldl (fun t n => ((t.forgetWork n).dropWork n).finishWork n (Rsp.code .failedMemory g)) s, ns.length)

/-- Surfaces homed in a group without a mirror. -/
def State.unmirroredIn (s : State) (g : Nat) : Nat := (Tbl.keep s.srf.surfs (fun _ sf => sf.home == g && sf.mirror.isNone)).length

/-- The mask of fronds that now show a safety copy. -/
def State.safetyMask (s : State) : Nat := (s.frd.fronds.filter (fun e => e.2.scan.elim false (fun sc => sc.safetySurf.isSome))).foldl (fun a e => a + 2 ^ e.1) 0

/-- The answers of a frozen group (R169): POISON to a read, WRITE_LOST to a write. -/
def frozenAnswer (r : MemReq) : MemAnswer := if r.write then .writeLost else .poison

/-- A demand error freezes a group (R167, R168, R176). -/
def State.freeze (s : State) (g cause channel port addr : Nat) (inst : Option Nat) (band : Nat) : State :=
  let m := s.group g
  if !m.st.serves then s
  else
    let who := if cause = 4 then 0 else inst.elim 0 (fun i => i + band * 256 + 2 ^ 31)
    let s1 := s.updGroup g (fun m =>
      { m with st := .frozen, frzCause := cause, frzChannel := channel, frzPort := port, frzAddr := addr, frzInst := who, exiting := false, queue := [],
               frzQueue := (m.queue.take 256).zipIdx.foldl (fun t e => Tbl.put t e.2 (reqWord e.1.addr e.1.port e.1.inst e.1.write)) [] })
    let s2 := { s1 with mem := { s1.mem with answer := (m.queue.getLast?.map frozenAnswer).or s1.mem.answer } }
    let s3 := s2.mirrorSwitch
    let s4 := if [0, 1].all (fun x => (s3.group x).st == .frozen) then s3.setCause .bothFrozen true (fun _ _ => true) (fun _ _ => true) else s3
    let r := s4.failCut g
    let d := le 1 g ++ le 1 cause ++ le 1 channel ++ le 1 port ++ le 8 addr ++ le 2 (who % 1024) ++ [0, 0] ++ le 4 (r.1.unmirroredIn g) ++ le 4 r.1.safetyMask ++ le 4 r.2
    r.1.mapCore (fun k => ((k.irq .mgmtMemFrozen).event 0xFE10 0 (uid 0x10 g 0) (g + cause * 256 + channel * 65536) (le 8 addr ++ le 1 port ++ le 2 (who % 1024))).notify 0x0011 0 (uid 0x10 g 0) d)

/-- MEM_DEMAND_ERROR (R167): cause 1 data, 2 address check, 3 write link ECC, 4 queue parity. -/
def execMemDemandError (group cause channel port addr : Nat) (inst : Option Nat) (band : Nat) (s : State) : Host.Outcome State Fault Refusal :=
  s.ends (s.freeze (group % 2) cause channel port addr inst band)

/-! ## Slots -/

/-- The frond whose entries a port uses: FROND[8] fetches under the entries of the frond it stands in for (R299). -/
def State.portFrond (s : State) (port : Nat) : Nat := if port = 8 ∧ (s.frd.patrol.st = 2 ∨ s.frd.patrol.partly) then s.frd.patrol.target else port

/-- A request is served by an entry of an owner (R151). -/
def State.ownedBy (s : State) (owner : Nat) (r : MemReq) : Bool :=
  match owner / 0x4000 with
  | 1 => decide (r.port ≤ 8) && s.portFrond r.port == owner % 64
  | 2 => r.inst == some (owner % 64) && r.band == 0 && decide (8 < r.port)
  | 3 => r.inst == some (owner % 64) && r.band == 1 && decide (8 < r.port)
  | _ => false

/-- A request's rank in the shared issue (Table 4.4). -/
def MemGroup.rank (m : MemGroup) (r : MemReq) : Nat :=
  if m.panic.contains r.port then 3
  else if Tbl.at m.prio 0 r.port = 1 then 4
  else if Tbl.at m.prio 0 r.port = 2 then 8
  else if r.port ≤ 8 then 6
  else match r.inst with
    | none => 7
    | some _ => if r.band = 0 then 5 else if r.band = 1 then 6 else if r.band = 2 then 7 else 8

/-- The round-robin client of a request (R156): instances 0 to 63, device clients 64 to 70, fronds 80 and up. -/
def clientOf (r : MemReq) : Nat :=
  match r.inst with
  | some i => i
  | none => if r.port ≤ 8 then 80 + r.port else match r.port with
    | 20 => 64
    | 17 => 65
    | 16 => 66
    | 18 => 67
    | 19 => 68
    | p => 96 + p

/-- Table 4.5's default weights. -/
def devWeights : List Nat := [1024, 512, 128, 512, 512, 256, 16]

/-- A client's weight: an instance's WEIGHT, SLOT_PF_WEIGHT, or SLOT_DEV_WEIGHT. -/
def State.weightOf (s : State) (c : Nat) : Nat :=
  if c = 0 then Tbl.at s.mem.devWeight 256 7
  else if c < 64 then (s.core.share c).elim 1 Share.weight
  else if c < 71 then Tbl.at s.mem.devWeight (devWeights.getD (c - 64) 16) (c - 64) else 256

/-- The client served next by deficit-weighted round robin, and the deficits after one burst (R156). -/
def drrPick (weight : Nat → Nat) (rank : Nat) (cs : List Nat) (drr : Tbl Nat) : Option (Nat × Tbl Nat) :=
  let k (c : Nat) : Nat := rank * 256 + c
  let t0 := Tbl.mapVals drr (fun key v => if key / 256 = rank ∧ !cs.contains (key % 256) then 0 else v)
  match cs.find? (fun c => decide (64 ≤ Tbl.at t0 0 (k c))) with
  | some c => some (c, Tbl.put t0 (k c) (Tbl.at t0 0 (k c) - 64))
  | none =>
    let t1 := cs.foldl (fun t c => Tbl.put t (k c) (Tbl.at t 0 (k c) + max 1 (weight c) * 64)) t0
    cs.head?.map (fun c => (c, Tbl.put t1 (k c) (Tbl.at t1 0 (k c) - 64)))

/-- The retraining client (R165). -/
def retrainClient : Nat := 69

/-- What the shared issue serves: a request, or a slice of retraining. -/
inductive Shared where
  | req (r : MemReq)
  | retrain

/-- The shared issue of a cycle: the first rank with a request for a channel other than the busy one (R155), and the group with the deficits after it. -/
def State.sharedPick (s : State) (m : MemGroup) (busy : Option Nat) : Option (Shared × MemGroup) :=
  let free := m.queue.filter (fun r => some (chanOf m.grain (addrOff r.addr)) != busy)
  let ranked (k : Nat) : List MemReq := free.filter (fun r => m.rank r == k)
  match m.panic.findSome? (fun f => free.find? (fun r => r.port == f)) with
  | some r => some (.req r, m)
  | none =>
    match (ranked 4).head? with
    | some r => some (.req r, m)
    | none =>
      [5, 6, 7, 8].findSome? (fun k =>
        let rs := ranked k
        let cs := ((rs.map clientOf ++ (if k = 7 ∧ 0 < m.retrainLeft then [retrainClient] else [])).mergeSort (fun a b => decide (a ≤ b))).eraseDups
        match drrPick s.weightOf k cs m.drr with
        | none => none
        | some (c, t) =>
          match rs.find? (fun r => clientOf r == c) with
          | some r => some (.req r, { m with drr := t })
          | none => some (.retrain, { m with drr := t }))

/-- Issues a request: a write is stored, a full block clears its poison; a read of a poisoned block freezes the group (R149, R154, R167). -/
def State.issue (s : State) (g : Nat) (r : MemReq) : State :=
  let s1 := s.updGroup g (fun m => { m with queue := m.queue.erase r, lastReq := s.core.now })
  let blk := r.addr / 64 * 64
  if r.write then
    let s2 := { s1 with mem := { s1.mem with dram := Memory.wrN s1.mem.dram r.addr r.data, answer := some .done } }
    if r.addr = blk ∧ 64 ≤ r.data.length then s2.updGroup g (fun m => { m with poison := m.poison.filter (fun a => !(decide (r.addr ≤ a) && decide (a + 64 ≤ r.addr + r.data.length))) }) else s2
  else if (s1.group g).poison.contains blk then
    { s1.freeze g 1 (chanOf (s1.group g).grain (addrOff r.addr)) r.port blk r.inst r.band with mem := { (s1.freeze g 1 (chanOf (s1.group g).grain (addrOff r.addr)) r.port blk r.inst r.band).mem with answer := some .poison } }
  else { s1 with mem := { s1.mem with answer := some (.data (Memory.rdN s1.mem.dram blk 64)) } }

/-- One slice of retraining (R165): a full pass is at least 64 slices per channel. -/
def MemGroup.retrainSlice (m : MemGroup) (now : Nat) : MemGroup :=
  if m.retrainLeft ≤ 1 then { m with retrainLeft := 0, retrainDue := none, lastRetrain := now } else { m with retrainLeft := m.retrainLeft - 1 }

/-- One slot clock cycle of a group (R150, R154, R155): the owned issue on channel n mod 8, and the shared issue. -/
def State.slotCycle (s : State) (g : Nat) : State :=
  let m := s.group g
  if m.st ≠ .active then s
  else
    let p := m.slotPos
    let owner := Tbl.at m.slots 0 p
    let mine := m.queue.find? (fun r => chanOf m.grain (addrOff r.addr) == p % 8 && s.ownedBy owner r)
    let s1 := s.updGroup g (fun m => { m with slotPos := (m.slotPos + 1) % 1024 })
    let s2 := match mine with
      | some r => s1.issue g r
      | none => s1
    if (s2.group g).st ≠ .active then s2
    else
      match s2.sharedPick (s2.group g) (mine.map (fun _ => p % 8)) with
      | some (.req r, m') => (s2.updGroup g (fun _ => m')).issue g r
      | some (.retrain, m') => s2.updGroup g (fun _ => m'.retrainSlice s.core.now)
      | none => s2

/-- The turn hint of R157 for a request that waits: slots until an entry of its owner on its channel, 0x3FF where there is none. -/
def State.turnHint (s : State) (m : MemGroup) (r : MemReq) : Nat :=
  let c := chanOf m.grain (addrOff r.addr)
  ((List.range 1024).find? (fun n => let p := (m.slotPos + n) % 1024; p % 8 == c && s.ownedBy (Tbl.at m.slots 0 p) r)).getD 0x3FF

/-- Queues a request at its group, and runs a slot cycle where the group is ACTIVE; a low state begins its exit (R161). -/
def State.enqueue (s : State) (r : MemReq) : State :=
  let g := addrGroup r.addr
  let s1 := s.updGroup g (fun m => { m with queue := m.queue ++ [r], lastReq := s.core.now, exiting := m.exiting || m.st != .active })
  let s2 := s1.slotCycle g
  match (s2.group g).queue.head? with
  | some h => { s2 with mem := { s2.mem with hint := s2.turnHint (s2.group g) h } }
  | none => s2

/-- A request after the lock table and the region controller (R169, R174). -/
def State.toGroup (s : State) (r : MemReq) : State :=
  if (s.group (addrGroup r.addr)).st.serves then s.enqueue r else { s with mem := { s.mem with answer := some (frozenAnswer r) } }

/-- MEMORY_REQUEST (R179 to R182): a write passes the lock table first, then each request the region controller, then its group; a write to a mirrored surface goes to both groups. -/
def State.memRequest (s : State) (r : MemReq) : State :=
  let at' := s.surfAt r.addr
  let locked := r.write && at'.elim false (fun e => e.2.1.locked && !(r.surface == some e.1 && e.2.1.written))
  if locked then { s.lockDrop (r.inst.getD 0) r.slice (at'.elim 0 Prod.fst) (at'.elim 0 (fun e => e.2.2)) 2 with
      mem := { (s.lockDrop (r.inst.getD 0) r.slice (at'.elim 0 Prod.fst) (at'.elim 0 (fun e => e.2.2)) 2).mem with answer := some .dropped } }
  else if !s.permits r.port r.write r.addr then
    let s1 := s.deny r.port r.inst r.slice r.write r.addr
    { s1 with mem := { s1.mem with answer := some (if r.write then .dropped else .error) } }
  else
    match r.write, at' with
    | true, some (n, sf, off) =>
      (match sf.mirror with
        | none => s.toGroup r
        | some m =>
          let a := sf.homeBase + off
          let b := sf.mirrorBase m + off
          let okA := (s.group sf.home).st.serves
          let okB := (s.group (1 - sf.home)).st.serves
          let s1 := if okA then s.enqueue { r with addr := a } else s
          let s2 := if okB then s1.enqueue { r with addr := b } else s1
          let s3 := s2.updSurf n (fun x => { x with homeStale := x.homeStale || (!okA && okB), mirrorStale := x.mirrorStale || (!okB && okA) })
          if okA || okB then s3 else { s3 with mem := { s3.mem with answer := some .writeLost } })
    | _, _ => s.toGroup r

/-- MEMORY_REQUEST. -/
def execMemoryRequest (port : Nat) (inst : Option Nat) (slice band : Nat) (write : Bool) (addr : Nat) (data : List Byte) (surface : Option Nat) (s : State) : Host.Outcome State Fault Refusal :=
  s.ends (s.memRequest { port := port, inst := inst, slice := slice, band := band, write := write, addr := addr % 2 ^ 36, data := data, surface := surface })

/-- SLOT_TABLE_SWAP (R152): at the table wrap the pending bank becomes active. -/
def execSlotTableSwap (group : Nat) (s : State) : Host.Outcome State Fault Refusal :=
  s.ends (if (s.group (group % 2)).st = .active then
      s.updGroup (group % 2) (fun m => match m.pendingSlots with | some t => { m with slots := t, pendingSlots := none, slotPos := 0 } | none => { m with slotPos := 0 })
    else s)

/-- SLOT_PRIO_WRITE (R158). -/
def execSlotPrioWrite (req : Requester) (group port prio : Nat) (s : State) : Host.Outcome State Fault Refusal :=
  s.ends (s.regWrite req true true false (fun t => if port < 32 then t.updGroup (group % 2) (fun m => { m with prio := Tbl.put m.prio port (prio % 4) }) else t))

/-! ## Configuration -/

/-- A group holds a registered surface, home or mirror. -/
def State.holdsSurface (s : State) (g : Nat) : Bool := s.srf.surfs.any (fun e => e.2.home == g || e.2.mirror.isSome)

/-- MEM_CFG_GRAIN_WRITE (R146): in TRAINING, or in ACTIVE with no surface, of 8 to 16, and not locked; else dropped and counted. -/
def execMemCfgGrainWrite (req : Requester) (group grain : Nat) (s : State) : Host.Outcome State Fault Refusal :=
  s.ends (s.regWrite req true false false (fun t =>
    let g := group % 2
    let m := t.group g
    let ok := !m.lock && decide (8 ≤ grain) && decide (grain ≤ 16) && (m.st == .training || (m.st == .active && !t.holdsSurface g))
    t.updGroup g (fun m => if ok then { m with grain := grain } else { m with cfgWrDrop := satInc m.cfgWrDrop })))

/-- Extends a measurement register with bytes: its value becomes the digest of itself and the bytes, and its count moves on (R516). -/
def State.extend (s : State) (n : Nat) (bs : List Byte) : State :=
  let old := Tbl.at s.sec.meas (List.replicate 48 0) n
  let d := sha384 bs
  { s with sec := { s.sec with meas := Tbl.put s.sec.meas n (sha384 (old ++ d)), measCount := Tbl.inc s.sec.measCount n, measLog := s.sec.measLog ++ [(n, d)] } }

/-- MEM_CFG_LOCK (R146): the grain holds until reset; the lock extends register 10 (R522). -/
def execMemCfgLock (req : Requester) (group : Nat) (s : State) : Host.Outcome State Fault Refusal :=
  s.ends (s.regWrite req true false false (fun t =>
    if (t.group (group % 2)).lock then t else (t.updGroup (group % 2) (fun m => { m with lock := true })).extend 10 (le 4 (group % 2))))

/-- MEM_RGN_LOCK (R183): ENFORCE holds until reset; the lock extends register 10 (R522). -/
def execMemRgnLock (req : Requester) (group : Nat) (s : State) : Host.Outcome State Fault Refusal :=
  s.ends (s.regWrite req true false false (fun t =>
    if (t.group (group % 2)).rgnLock then t else (t.updGroup (group % 2) (fun m => { m with rgnLock := true })).extend 10 (le 4 (2 + group % 2))))

/-! ## Errors and scrub -/

/-- MEM_CORRECTABLE_ERROR (R148). -/
def execMemCorrectableError (group channel : Nat) (s : State) : Host.Outcome State Fault Refusal :=
  s.ends (let g := group % 2
    let c := channel % 8
    if !(s.group g).st.serves then s
    else
      let m := s.group g
      let times := (Tbl.at m.ceTimes [] c ++ [s.core.now]).filter (fun t => decide (s.core.now < t + 10 ^ 9))
      let storm := decide (m.ceLimit < times.length)
      let s1 := s.updGroup g (fun m => { m with ceCount := Tbl.inc m.ceCount c, ceTimes := Tbl.put m.ceTimes c times, ceStorm := m.ceStorm || storm })
      if storm then s1.mapCore (fun k => k.irq .mgmtCeStorm) else s1)

/-- The entry of MEMx_BAD_PAGE for a page (Table 20.5). -/
def badEntry (page : Nat) (retired : Bool) : Nat := 2 ^ 31 + b2n retired * 2 ^ 30 + page % 2 ^ 24

/-- A block that scrub finds uncorrectable (R149). -/
def State.latentUe (s : State) (g addr : Nat) : State :=
  let blk := addr / 64 * 64
  let e := badEntry (blk / 4096) false
  (s.updGroup g (fun m => { m with latentUe := true, poison := (if m.poison.contains blk then m.poison else m.poison ++ [blk]),
                                   badPages := (if m.badPages.contains e || decide (256 ≤ m.badPages.length) then m.badPages else m.badPages ++ [e]) })).mapCore
    (fun k => k.event 0xFE13 0 (uid 0x10 g 0) g (le 8 blk))

/-- MEM_SCRUB (R149): a scrub pass with the uncorrectable blocks it finds. -/
def execMemScrub (group : Nat) (bad : List Nat) (s : State) : Host.Outcome State Fault Refusal :=
  s.ends (if (s.group (group % 2)).st.serves then bad.foldl (fun t a => t.latentUe (group % 2) a) s else s)

/-- MEM_REFRESH_POLL (R143): MR4 sets the refresh rate. -/
def execMemRefreshPoll (group rate : Nat) (s : State) : Host.Outcome State Fault Refusal :=
  s.ends (s.updGroup (group % 2) (fun m => { m with refreshRate := rate }))

/-! ## Sleep -/

/-- Exit latencies of Table 4.7 in ns. -/
def GroupSt.exitNs : GroupSt → Nat
  | .pd => 200
  | .sr => 1200
  | .srDeep => 14000
  | _ => 0

/-- The deepest low state that R161 allows. -/
def MemGroup.lowState (m : MemGroup) : Option GroupSt :=
  ([(3, GroupSt.srDeep), (2, .sr), (1, .pd)].find? (fun e => decide (e.1 ≤ m.maxSleep) && decide (e.2.exitNs + 4000 < m.tolerance * 1000))).map Prod.snd

/-- MEM_SLEEP_ENTER (R161, R162): after MEMx_IDLE_NS without a request, with enough tolerance; a retraining slice in progress ends first. -/
def execMemSleepEnter (group : Nat) (s : State) : Host.Outcome State Fault Refusal :=
  s.ends (let m := s.group (group % 2)
    if m.st = .active ∧ m.queue.isEmpty ∧ m.lastReq + m.idleNs ≤ s.core.now then
      match m.lowState with
      | some st => s.updGroup (group % 2) (fun m => { m with st := st, exiting := false })
      | none => s
    else s)

/-- A group is in a low state. -/
def GroupSt.low (st : GroupSt) : Bool := st == .pd || st == .sr || st == .srDeep

/-- MEM_SLEEP_EXIT (R161): exit begins on a request, or as the tolerance falls to the exit latency plus 4 µs. -/
def execMemSleepExit (group : Nat) (s : State) : Host.Outcome State Fault Refusal :=
  s.ends (let m := s.group (group % 2)
    if m.st.low && Tbl.at s.pwr.dom .off (5 + group % 2) == .on && (!m.queue.isEmpty || decide (m.tolerance * 1000 ≤ m.st.exitNs + 4000)) then s.updGroup (group % 2) (fun m => { m with exiting := true }) else s)

/-- MEM_EXIT_COMPLETE (R161, R162): ACTIVE again; after SR_DEEP the table restarts at slot 0. -/
def execMemExitComplete (group : Nat) (s : State) : Host.Outcome State Fault Refusal :=
  s.ends (let m := s.group (group % 2)
    if m.st.low && m.exiting then s.updGroup (group % 2) (fun m => { m with st := .active, exiting := false, slotPos := (if m.st = .srDeep then 0 else m.slotPos) }) else s)

/-! ## Training and recovery -/

/-- A group that lost a channel goes OFFLINE (R164): the channels that failed are journaled. -/
def State.trainFail (s : State) (g passed : Nat) : State :=
  (s.updGroup g (fun m => { m with st := .offline, lost := true, chTrained := passed % 256 })).mapCore (fun k => k.event 0xFE12 0 (uid 0x10 g 0) g (le 1 (255 - passed % 256)))

/-- MEM_TRAIN_DONE (R163, R164): the channels that passed. -/
def execMemTrainDone (group passed : Nat) (s : State) : Host.Outcome State Fault Refusal :=
  s.ends (let g := group % 2
    if (s.group g).st ≠ .training ∨ Tbl.at s.pwr.dom .off (5 + g) ≠ .on then s
    else if passed % 256 = 255 then s.updGroup g (fun m => { m with st := .active, chTrained := 255, slotPos := 0, lastReq := s.core.now, lastRetrain := s.core.now })
    else s.trainFail g passed)

/-- MEM_RETRAIN_DUE (R165): every MEMx_RETRAIN_MS, or when a thermal sensor has moved by 4 °C. -/
def execMemRetrainDue (group : Nat) (moved : Bool) (s : State) : Host.Outcome State Fault Refusal :=
  s.ends (let m := s.group (group % 2)
    if m.st.serves && m.retrainDue.isNone && (moved || decide (m.lastRetrain + m.retrainMs * 10 ^ 6 ≤ s.core.now)) then
      s.updGroup (group % 2) (fun m => { m with retrainDue := some s.core.now, retrainLeft := 512 })
    else s)

/-- RETRAIN_LATE (R166). -/
def execRetrainLate (group : Nat) (s : State) : Host.Outcome State Fault Refusal :=
  s.ends (match (s.group (group % 2)).retrainDue with
    | some t => if t + 50 * 10 ^ 6 ≤ s.core.now then (s.updGroup (group % 2) (fun m => { m with retrainLate := true })).mapCore (fun k => k.irq .mgmtRetrainLate) else s
    | none => s)

/-- MEM_RECOVER (R178): only while the group is FROZEN; the frozen queues are discarded. -/
def execMemRecover (req : Requester) (group : Nat) (s : State) : Host.Outcome State Fault Refusal :=
  s.ends (s.regWrite req true true false (fun t => if (t.group (group % 2)).st = .frozen then t.updGroup (group % 2) (fun m => { m with st := .recovering, queue := [] }) else t))

/-- The list of bad pages after a recovery's check-read: pages with an uncorrectable block are retired (R178). -/
def retirePages (old : List Nat) (bad : List Nat) : List Nat :=
  let pages := ((bad.map (fun a => a / 4096 % 2 ^ 24)).eraseDups).filter (fun p => !old.contains (badEntry p true))
  (old.filter (fun e => !(pages.contains (fld e 23 0) && !bitOf e 30))) ++ pages.map (fun p => badEntry p true)

/-- MEM_RECOVERED (R178): the blocks found uncorrectable and the channels that trained. -/
def execMemRecovered (group : Nat) (bad : List Nat) (passed : Nat) (s : State) : Host.Outcome State Fault Refusal :=
  s.ends (let g := group % 2
    let m := s.group g
    if m.st ≠ .recovering then s
    else
      let pages := retirePages m.badPages bad
      let n := ((pages.filter (fun e => bitOf e 30)).length) - ((m.badPages.filter (fun e => bitOf e 30)).length)
      let good := passed % 256 == 255 && decide (pages.length ≤ 256)
      let s1 := s.updGroup g (fun m => { m with st := (if good then .active else .offline), lost := !good, badPages := pages.take 256, chTrained := passed % 256, poison := m.poison.filter (fun a => !bad.contains a), slotPos := 0, lastReq := s.core.now })
      let s2 := s1.setCause .bothFrozen false (fun _ _ => true) (fun _ _ => true)
      let s3 := s2.mapCore (fun k => k.event 0xFE11 0 (uid 0x10 g 0) g (le 2 n))
      if passed % 256 = 255 then s3 else s3.mapCore (fun k => k.event 0xFE12 0 (uid 0x10 g 0) g (le 1 (255 - passed % 256))))

end Sys2Proof.Machine
end

