-- ==== Sys2Proof/Machine/Haptics.lean ====
section
/-! DEFINITION. Chapter 13: haptic channels, effects, triggers, listening, faults and scans (R459 to R471). -/

namespace Sys2Proof.Machine

/-- A channel that manufacture leaves off: not enabled. -/
def HChan.off : HChan :=
  { w0 := 0, w1 := 0, st := 0, cur := none, idx := 0, driven := 0, clipped := false, listening := false, sinceListen := 0, amp := 0, brakeBegan := 0, stop := false, cut := none, waiting := none,
    res := 0, openBad := 0, stallBad := 0, peak := 0, decay := 0, fault := 0, scan := none, touchRun := 0, trigDrop := 0 }

/-- A channel. -/
def State.chan (s : State) (c : Nat) : HChan := Tbl.at s.hap.chans HChan.off c

/-- Changes a channel. -/
def State.updChan (s : State) (c : Nat) (f : HChan → HChan) : State := { s with hap := { s.hap with chans := Tbl.put s.hap.chans c (f (s.chan c)) } }

/-- OWNER of a channel (Table 13.2). -/
def HChan.owner (h : HChan) : Nat := fld h.w0 61 56

/-- LISTEN_EVERY. -/
def HChan.every (h : HChan) : Nat := fld h.w0 55 52

/-- F_LO and F_HI. -/
def HChan.fLo (h : HChan) : Nat := fld h.w0 39 28

/-- F_HI. -/
def HChan.fHi (h : HChan) : Nat := fld h.w0 51 40

/-- VMAX. -/
def HChan.vmax (h : HChan) : Nat := fld h.w0 23 16

/-- MIN_PEAK, in 0.1 V. -/
def HChan.minPeak (h : HChan) : Nat := fld h.w1 31 16

/-- ATTACK_N. -/
def HTrig.attackN (t : HTrig) : Nat := fld t.w0 3 0

/-- SUSTAIN_N. -/
def HTrig.sustainN (t : HTrig) : Nat := fld t.w0 15 8

/-- BRAKE_N. -/
def HTrig.brakeN (t : HTrig) : Nat := fld t.w0 19 16

/-- BAND. -/
def HTrig.band (t : HTrig) : Nat := fld t.w0 21 20

/-- The pulses of a phase: 2 attack, 3 sustain, 4 brake. -/
def HTrig.count (t : HTrig) (ph : Nat) : Nat := if ph = 2 then t.attackN else if ph = 3 then t.sustainN else t.brakeN

/-- The amplitude of pulse i of a phase before VMAX (R464). -/
def HTrig.amp (t : HTrig) (ph i : Nat) : Nat :=
  let v := fld t.w1 7 0
  if ph = 2 then v * i / (t.attackN + 1) else if ph = 3 then v else fld t.w1 15 8

/-- The first phase from one on that has pulses; 5 where none is left. -/
def HTrig.phaseFrom (t : HTrig) : Nat → Nat
  | 2 => if t.attackN ≠ 0 then 2 else if t.sustainN ≠ 0 then 3 else if t.brakeN ≠ 0 then 4 else 5
  | 3 => if t.sustainN ≠ 0 then 3 else if t.brakeN ≠ 0 then 4 else 5
  | 4 => if t.brakeN ≠ 0 then 4 else 5
  | _ => 5

/-- Drives the next pulse of a phase. -/
def HChan.pulse (h : HChan) (t : HTrig) (ph i : Nat) : HChan :=
  let a := t.amp ph i
  { h with st := ph, idx := i, listening := false, amp := min a h.vmax, clipped := h.clipped || decide (h.vmax < a) }

/-- The completion of a HAP_PLAY (R465). -/
def HChan.rsp (h : HChan) (flags : Nat) : Rsp := Rsp.ok h.driven (flags + b2n h.clipped * 2) h.res

/-- Finishes a trigger's command, if it has one. -/
def State.endTrig (s : State) (t : HTrig) (r : Rsp) : State := if t.work = 0 then s else s.finishWork t.work r

/-- The channel at rest: IDLE, or OFF where it is not enabled; a paused scan repeats its step (R471). -/
def HChan.rest (h : HChan) : HChan :=
  let h1 := { h with cur := none, listening := false, stop := false, openBad := 0, stallBad := 0 }
  if !bitOf h.w0 0 then { h1 with st := 0 }
  else match h.scan with
    | some sc => { h1 with st := 5, amp := 10, scan := some { sc with pulse := 0, paused := false } }
    | none => { h1 with st := 1 }

/-- Starts an effect on a channel (R464, R468); one without pulses ends at once. -/
def State.startEffect (s : State) (c : Nat) (t : HTrig) (now : Nat) : State :=
  let ph := t.phaseFrom 2
  let s1 := s.updChan c (fun h => { h with cur := some t, driven := 0, clipped := false, stop := false, cut := none, sinceListen := 0, openBad := 0, stallBad := 0, brakeBegan := now, touchRun := if t.work = 0 then satInc h.touchRun else h.touchRun })
  if ph = 5 then (s1.updChan c HChan.rest).endTrig t ((s1.chan c).rsp 0)
  else s1.updChan c (fun h => h.pulse t ph 1)

/-- The end of an effect: its completion, then the waiting trigger or rest. -/
def State.endEffect (s : State) (c : Nat) : State :=
  let h := s.chan c
  let s1 := h.cur.elim s (fun t => s.endTrig t (h.rsp 0))
  match h.waiting with
  | some w => (s1.updChan c (fun x => { x with waiting := none })).startEffect c w s.core.now
  | none => s1.updChan c HChan.rest

/-- A trigger waits; one that waited already is skipped (R468). -/
def State.waitTrig (s : State) (c : Nat) (t : HTrig) : State :=
  let h := s.chan c
  let s1 := match h.waiting with
    | some w => if w.work = 0 then s.updChan c (fun x => { x with trigDrop := satInc x.trigDrop }) else s.endTrig w (Rsp.ok 0 1 h.res)
    | none => s
  s1.updChan c (fun x => { x with waiting := some t })

/-- A trigger cuts in (R468, 4): the effect in progress ends at its pulse in progress, at once where it listens. -/
def State.cutIn (s : State) (c : Nat) (t : HTrig) : State :=
  let h := s.chan c
  let s1 := match h.cut with
    | some w => if w.work = 0 then s.updChan c (fun x => { x with trigDrop := satInc x.trigDrop }) else s.endTrig w (Rsp.ok 0 1 h.res)
    | none => s
  let s2 := s1.updChan c (fun x => { x with cut := some t })
  if h.listening then
    match h.cur with
    | some e => (s2.updChan c (fun x => { x with cur := none })).endTrig e (h.rsp 4)
    | none => s2
  else s2

/-- A trigger on a channel (R467, R468). -/
def State.trigger (s : State) (c : Nat) (t : HTrig) : State :=
  let h := s.chan c
  if h.st = 0 ∨ h.st = 6 then
    (if t.work = 0 then s.updChan c (fun x => { x with trigDrop := satInc x.trigDrop }) else s.endTrig t (Rsp.code .failed 0x0042))
  else if h.st = 1 then s.startEffect c t s.core.now
  else if h.st = 5 then
    (if h.listening then (s.updChan c (fun x => { x with scan := x.scan.map (fun sc => { sc with paused := true }) })).startEffect c t s.core.now
     else (s.waitTrig c t).updChan c (fun x => { x with scan := x.scan.map (fun sc => { sc with paused := true }) }))
  else
    let a := (h.cur.or h.cut).elim 3 HTrig.band
    if (t.band = 0 ∧ a ≠ 0) ∨ (t.preempt ∧ ¬(a = 0 ∧ t.band ≠ 0)) then s.cutIn c t else s.waitTrig c t

/-- HAP_PULSE_END (R464): the next pulse, or a listen window. -/
def execHapPulseEnd (channel : Nat) (s : State) : Host.Outcome State Fault Refusal :=
  s.ends (
    let h := s.chan channel
    if h.listening ∨ !(decide (2 ≤ h.st) && decide (h.st ≤ 5)) then s
    else if h.st = 5 then
      match h.scan with
      | none => s
      | some sc =>
        if sc.paused then
          (match h.waiting with
            | some w => (s.updChan channel (fun x => { x with waiting := none })).startEffect channel w s.core.now
            | none => s.updChan channel HChan.rest)
        else if sc.pulse + 1 < 4 then s.updChan channel (fun x => { x with scan := some { sc with pulse := sc.pulse + 1 } })
        else s.updChan channel (fun x => { x with scan := some { sc with pulse := 4 }, listening := true })
    else
      match h.cur with
      | none => s
      | some t =>
        let s1 := s.updChan channel (fun x => { x with driven := x.driven + 1, sinceListen := x.sinceListen + 1 })
        let h1 := s1.chan channel
        if h1.cut.isSome then (s1.updChan channel (fun x => { x with cur := none, listening := true, sinceListen := 0 })).endTrig t (h1.rsp 4)
        else if h1.idx = t.count h1.st ∨ h1.every ≤ h1.sinceListen ∨ (h1.stop ∧ h1.st ≠ 4) then s1.updChan channel (fun x => { x with listening := true, sinceListen := 0 })
        else s1.updChan channel (fun x => x.pulse t x.st (x.idx + 1)))

/-- A fault of a channel (R470): drive to 0 V, FAULT, failed commands, HAP_FAULT and HAPTIC_FAULT. -/
def State.hapFault (s : State) (c kind : Nat) : State :=
  let h := s.chan c
  let slot := (h.cur.or h.cut).elim 0 HTrig.slot
  let owner := (h.cur.or h.cut).elim h.owner HTrig.owner
  let fail (t : State) (o : Option HTrig) : State := o.elim t (fun q => if q.work = 0 then t.updChan c (fun x => { x with trigDrop := satInc x.trigDrop }) else t.endTrig q (Rsp.code .failed (0x003F + kind)))
  let s1 := (h.cur.elim s (fun t => s.endTrig t (Rsp.code .failed (0x003F + kind))))
  let s2 := fail (fail s1 h.cut) h.waiting
  let s3 := h.scan.elim s2 (fun sc => s2.finishWork sc.work (Rsp.code .failed (0x003F + kind)))
  let s4 := s3.updChan c (fun x => { x with st := 6, cur := none, cut := none, waiting := none, scan := none, listening := false, amp := 0, fault := kind })
  let s5 := s4.mapCore (fun k => k.event 0xFE70 owner (uid 0x61 c 0) (c + kind * 256) (le 1 slot ++ le 2 h.peak ++ le 2 (h.res / 10)))
  s5.mapCore (fun k => k.faultRec owner 0 0x0020 slot (uid 0x61 c 0) kind)

/-- A measured half-period lies within F_LO to F_HI. -/
def HChan.inRange (h : HChan) (t : Nat) : Bool := decide (2 * t * h.fLo ≤ 10 ^ 9) && decide (10 ^ 9 ≤ 2 * t * h.fHi)

/-- What a window records (R469, R470): resonance, peak, decay ratio, runs of bad windows. -/
def HChan.window (h : HChan) (crossing : Option Nat) (peak : Nat) : HChan :=
  let decay := if h.amp = 0 then 0 else 256 * peak / (10 * h.amp)
  let bad := decide (20 ≤ h.amp) && (decide (peak < h.minPeak) || crossing.isNone)
  let stalled := (h.st == 2 || h.st == 3) && (crossing.elim false (fun t => !h.inRange t) || decide (decay < fld h.w1 39 32))
  { h with peak := peak, decay := decay, res := (match crossing with | some t => if h.inRange t then 5 * 10 ^ 9 / t else h.res | none => h.res),
           openBad := (if bad then h.openBad + 1 else 0), stallBad := (if stalled then h.stallBad + 1 else 0) }

/-- The step after a window of an effect. -/
def State.afterWindow (s : State) (c : Nat) : State :=
  let h := s.chan c
  match h.cut with
  | some t => s.startEffect c t s.core.now
  | none =>
    match h.cur with
    | none => s.updChan c HChan.rest
    | some t =>
      if h.st = 4 then (if h.peak < fld t.w1 31 16 ∨ t.brakeN ≤ h.idx then s.endEffect c else s.updChan c (fun x => x.pulse t 4 (x.idx + 1)))
      else if h.idx < t.count h.st ∧ !h.stop then s.updChan c (fun x => x.pulse t x.st (x.idx + 1))
      else
        let ph := if h.stop then t.phaseFrom 4 else t.phaseFrom (h.st + 1)
        if ph = 5 then s.endEffect c
        else (s.updChan c (fun x => { x with stop := false, brakeBegan := if ph = 4 then s.core.now else x.brakeBegan })).updChan c (fun x => x.pulse t ph 1)

/-- The step after a window of a scan (R471). -/
def State.afterScan (s : State) (c : Nat) (crossing : Option Nat) (peak : Nat) : State :=
  let h := s.chan c
  match h.scan with
  | none => s
  | some sc =>
    let bad := if 2 * peak < h.minPeak ∨ crossing.isNone then sc.bad + 1 else 0
    let (best, bp) := if sc.best = 0 ∨ sc.bestPeak < peak then (sc.freq, peak) else (sc.best, sc.bestPeak)
    if 2 ≤ bad then (s.updChan c (fun x => { x with peak := peak })).hapFault c 1
    else if sc.freq + 10 ≤ h.fHi then
      s.updChan c (fun x => { x with peak := peak, listening := false, scan := some { sc with freq := sc.freq + 10, pulse := 0, best := best, bestPeak := bp, bad := bad } })
    else (s.updChan c (fun x => { x with peak := peak, res := best * 10, scan := none }.rest)).finishWork sc.work (Rsp.ok (best * 10) 0 0)

/-- HAP_LISTEN_CLOSE (R469): the window's first zero crossing in ns from the pulse's end, none within 10 ms, and its peak in 0.1 V at the element. -/
def execHapListenClose (channel : Nat) (crossing : Option Nat) (peak : Nat) (s : State) : Host.Outcome State Fault Refusal :=
  s.ends (
    let h := s.chan channel
    if !h.listening then s
    else if h.st = 5 then s.afterScan channel crossing peak
    else
      let s1 := s.updChan channel (fun x => x.window crossing peak)
      let h1 := s1.chan channel
      if 2 ≤ h1.openBad then s1.hapFault channel 1
      else if 2 ≤ h1.stallBad then s1.hapFault channel 2
      else s1.afterWindow channel)

/-- HAP_BRAKE_TIMEOUT (R464): 12 ms after the brake began. -/
def execHapBrakeTimeout (channel : Nat) (s : State) : Host.Outcome State Fault Refusal :=
  s.ends (let h := s.chan channel; if h.st = 4 ∧ h.cut.isNone ∧ h.brakeBegan + 12 * 10 ^ 6 ≤ s.core.now then s.endEffect channel else s)

/-! ## Commands -/

/-- UNIT is a haptic channel. -/
def atChan (_ : State) (_ : Who) (p : Packet) : Bool := pkIs p 0x61

/-- The channel UNIT names. -/
def pkChan (p : Packet) : Nat := uIdx (pkUnit p)

/-- Table 13.2. -/
def chanForm (_ : State) (_ : Who) (p : Packet) : Bool :=
  pkLen p 2 && pkF p 0 63 62 == 0 && decide (1 ≤ pkF p 0 55 52) && decide (pkF p 0 55 52 ≤ 8) && decide (pkF p 0 51 40 ≤ 1200) && decide (100 ≤ pkF p 0 39 28) && decide (pkF p 0 39 28 < pkF p 0 51 40) &&
    pkF p 0 27 24 == 0 && decide (1 ≤ pkF p 0 23 16) && decide (pkF p 0 23 16 ≤ 150) && decide (1 ≤ pkF p 0 15 8) && decide (pkF p 0 15 8 ≤ 200) && decide (pkF p 0 23 16 ≤ pkF p 0 15 8) && pkF p 0 7 1 == 0 &&
    decide (pkF p 0 39 28 ≤ pkF p 1 63 52) && decide (pkF p 1 63 52 ≤ pkF p 0 51 40) && pkF p 1 51 40 == 0 && decide (1 ≤ pkF p 1 15 0) && decide (pkF p 1 15 0 ≤ 1000)

/-- Ends what a channel does for an update or a reset (R462, R54): the effect fails with the pulses driven and is braked, waiting triggers are refused, a scan fails. -/
def State.chanUpdate (s : State) (c : Nat) : State :=
  let h := s.chan c
  let refuse (t : State) (o : Option HTrig) : State := o.elim t (fun q => if q.work = 0 then t.updChan c (fun x => { x with trigDrop := satInc x.trigDrop }) else t.endTrig q (Rsp.plain .refusedUnitReset))
  let s1 := h.cur.elim s (fun t => s.endTrig t (Rsp.code .failedUnitReset h.driven))
  let s2 := refuse (refuse s1 h.cut) h.waiting
  let s3 := h.scan.elim s2 (fun sc => s2.finishWork sc.work (Rsp.plain .failedUnitReset))
  let s4 := s3.updChan c (fun x => { x with cut := none, waiting := none, scan := none })
  match h.cur with
  | some t =>
    if t.brakeN = 0 then s4.updChan c HChan.rest
    else if h.st = 4 then s4.updChan c (fun x => { x with cur := some { t with work := 0 } })
    else s4.updChan c (fun x => { x with cur := some { t with work := 0 }, brakeBegan := s.core.now, stop := false }.pulse t 4 1)
  | none => if h.st = 6 then s4 else s4.updChan c HChan.rest

/-- HAP_CHANNEL_SET (R462); a channel in FAULT stays there until HAP_CLEAR (R470). -/
def cmdHapChannelSet : Cmd :=
  { opcode := 0x0A00, forms := .both, secure := false, always := false, form := chanForm, qform := bufForm, unitOk := atChan, may := pfOnly, active := ownActive, check := noCheck,
    run := fun s _ p =>
      let c := pkChan p
      let s1 := s.updChan c (fun h => { h with w0 := pkW p 0, w1 := pkW p 1, res := pkF p 1 63 52 * 10, st := (if h.st = 0 then (if pkF p 0 0 0 = 1 then 1 else 0) else h.st) })
      let s2 := (s1.chanUpdate c).mapCore (fun k => k.bump (uid 0x61 c 0))
      .done s2 (Rsp.plain .served),
    ask := fun s w p => let h := s.chan (pkChan p); s.answerWords w p [BitVec.ofNat 64 h.w0, BitVec.ofNat 64 h.w1] }

/-- HAP_CHANNEL_SET. -/
def execHapChannelSet (port : Port) (s : State) : Host.Outcome State Fault Refusal := s.ends (cmdHapChannelSet.exec port s)

/-- HAP_EFFECT_SET (R463). -/
def cmdHapEffectSet : Cmd :=
  { opcode := 0x0A01, forms := .both, secure := false, always := false,
    form := fun _ _ p => pkLen p 2 && pkF p 0 7 4 == 0 && fld (pkW p 0) 63 22 == 0 && fld (pkW p 1) 63 32 == 0 && [pkF p 1 7 0, pkF p 1 15 8].all (fun v => decide (1 ≤ v) && decide (v ≤ 150)),
    qform := bufForm, unitOk := fun _ _ p => pkIs p 0x62,
    may := fun s w p => !w.secure && (Tbl.find s.hap.slots (pkChan p)).elim true (fun h => h.owner == w.inst), active := ownActive,
    check := fun s w p => if !s.bandIn w.inst (pkF p 0 21 20) || (pkF p 0 21 20 == 0 && !s.authed w) then some (Rsp.plain .refusedBand) else none,
    run := fun s w p => .done { s with hap := { s.hap with slots := Tbl.put s.hap.slots (pkChan p) { owner := w.inst, w0 := pkW p 0, w1 := pkW p 1 } } } (Rsp.plain .served),
    ask := fun s w p => s.answerWords w p ((Tbl.find s.hap.slots (pkChan p)).elim [] (fun h => [BitVec.ofNat 64 h.w0, BitVec.ofNat 64 h.w1])) }

/-- HAP_EFFECT_SET. -/
def execHapEffectSet (port : Port) (s : State) : Host.Outcome State Fault Refusal := s.ends (cmdHapEffectSet.exec port s)

/-- True where an issuer may play a slot on a channel (R465). -/
def State.mayPlay (s : State) (w : Who) (c slot : Nat) : Bool :=
  !w.secure && (match Tbl.find s.hap.slots slot with
    | some h => if fld h.w0 21 20 = 0 then h.owner == w.inst && s.authed w else (s.chan c).owner == w.inst
    | none => (s.chan c).owner == w.inst)

/-- The trigger of a slot. -/
def State.trigOf (s : State) (slot : Nat) (preempt : Bool) (work : Nat) : Option HTrig :=
  (Tbl.find s.hap.slots slot).map (fun h => { slot := slot, owner := h.owner, w0 := h.w0, w1 := h.w1, preempt := preempt, work := work })

/-- HAP_PLAY (R465, R468); a slot never set is out of range. -/
def cmdHapPlay : Cmd :=
  { opcode := 0x0A02, forms := .setOnly, secure := false, always := false, form := fun s _ p => pkLen p 1 && fld (pkW p 0) 63 9 == 0 && Tbl.has s.hap.slots (pkF p 0 7 0), qform := bufForm, unitOk := atChan,
    may := fun s w p => s.mayPlay w (pkChan p) (pkF p 0 7 0), active := ownActive, check := noCheck,
    run := fun s _ p =>
      let c := pkChan p
      let st := (s.chan c).st
      if st = 0 ∨ st = 6 then .done s (Rsp.code .failed 0x0042)
      else
        let (s1, n) := s.newWork
        match s.trigOf (pkF p 0 7 0) (bitOf (pkW p 0) 8) n with
        | none => .done s (Rsp.plain .rejectedMalformed)
        | some t => if t.phaseFrom 2 = 5 ∧ st = 1 then .done s (Rsp.ok 0 0 (s.chan c).res) else .silent (s1.trigger c t) (.work n),
    ask := noAsk }

/-- HAP_PLAY. -/
def execHapPlay (port : Port) (s : State) : Host.Outcome State Fault Refusal := s.ends (cmdHapPlay.exec port s)

/-- HAP_STOP (R464): the owner of the channel, for a band A effect the one who may play its slot. -/
def cmdHapStop : Cmd :=
  { opcode := 0x0A03, forms := .setOnly, secure := false, always := false, form := fun _ _ p => pkLen p 0, qform := bufForm, unitOk := atChan,
    may := fun s w p => (match (s.chan (pkChan p)).cur with
      | some t => if t.band = 0 then !w.secure && t.owner == w.inst && s.authed w else w.is (s.chan (pkChan p)).owner
      | none => w.is (s.chan (pkChan p)).owner),
    active := ownActive, check := noCheck,
    run := fun s _ p => .done (s.updChan (pkChan p) (fun h => if (h.st = 2 ∨ h.st = 3) ∧ h.cur.isSome then { h with stop := true } else h)) (Rsp.plain .served), ask := noAsk }

/-- HAP_STOP. -/
def execHapStop (port : Port) (s : State) : Host.Outcome State Fault Refusal := s.ends (cmdHapStop.exec port s)

/-- A touch region in force. -/
def State.tregion (s : State) (t k : Nat) : Option TRegion := (Tbl.find s.tch.surfs t).bind (fun x => Tbl.find x.regions k)

/-- HAP_TOUCH_BIND (R466). -/
def cmdHapTouchBind : Cmd :=
  { opcode := 0x0A04, forms := .both, secure := false, always := false,
    form := fun s _ p => pkLen p 1 && pkF p 0 7 3 == 0 && pkF p 0 15 14 == 0 && fld (pkW p 0) 63 26 == 0 && (s.tregion (pkF p 0 2 0) (pkF p 0 13 8)).isSome && (bitOf (pkW p 0) 25 || Tbl.has s.hap.slots (pkF p 0 23 16)),
    qform := bufForm, unitOk := atChan,
    may := fun s w p => !w.secure && (pkQuery p || ((s.tregion (pkF p 0 2 0) (pkF p 0 13 8)).elim false (fun r => r.owner == w.inst) && (bitOf (pkW p 0) 25 || s.mayPlay w (pkChan p) (pkF p 0 23 16)))),
    active := ownActive, check := noCheck,
    run := fun s w p =>
      let k := pkF p 0 2 0 * 64 + pkF p 0 13 8
      let b : HBind := { inst := w.inst, channel := pkChan p, slot := pkF p 0 23 16, preempt := bitOf (pkW p 0) 24 }
      let bs := if bitOf (pkW p 0) 25 then Tbl.del s.hap.binds k else Tbl.put s.hap.binds k b
      .done { s with hap := { s.hap with binds := bs } } (Rsp.plain .served),
    ask := fun s w p =>
      let mine := Tbl.keep s.hap.binds (fun k b => b.channel == pkChan p && (s.tregion (k / 64) (k % 64)).elim false (fun r => r.owner == w.inst))
      s.answerWords w p (mine.map (fun e => BitVec.ofNat 64 (e.1 / 64 + e.1 % 64 * 256 + e.2.slot * 65536 + b2n e.2.preempt * 2 ^ 24))) }

/-- HAP_TOUCH_BIND. -/
def execHapTouchBind (port : Port) (s : State) : Host.Outcome State Fault Refusal := s.ends (cmdHapTouchBind.exec port s)

/-- HAP_SCAN (R471). -/
def cmdHapScan : Cmd :=
  { opcode := 0x0A05, forms := .setOnly, secure := false, always := false, form := fun _ _ p => pkLen p 0, qform := bufForm, unitOk := atChan, may := pfOnly, active := ownActive, check := noCheck,
    run := fun s _ p =>
      let c := pkChan p
      if (s.chan c).st ≠ 1 then .delayed s (Rsp.plain .delayedUnitBusy) (.unit (uKey (pkUnit p))) false
      else
        let (s1, n) := s.newWork
        .silent (s1.updChan c (fun h => { h with st := 5, amp := 10, listening := false, scan := some { work := n, freq := h.fLo, pulse := 0, best := 0, bestPeak := 0, bad := 0, paused := false } })) (.work n),
    ask := noAsk }

/-- HAP_SCAN. -/
def execHapScan (port : Port) (s : State) : Host.Outcome State Fault Refusal := s.ends (cmdHapScan.exec port s)

/-- HAP_CLEAR (R470). -/
def cmdHapClear : Cmd :=
  { opcode := 0x0A06, forms := .setOnly, secure := false, always := false, form := fun _ _ p => pkLen p 0, qform := bufForm, unitOk := atChan, may := pfOrSec, active := ownActive, check := noCheck,
    run := fun s _ p => .done (s.updChan (pkChan p) (fun h => if h.st = 6 then { h with fault := 0 }.rest else h)) (Rsp.plain .served), ask := noAsk }

/-- HAP_CLEAR. -/
def execHapClear (port : Port) (s : State) : Host.Outcome State Fault Refusal := s.ends (cmdHapClear.exec port s)

/-- HAP_STATUS[c] (Table 13.4). -/
def HChan.status (h : HChan) : Nat := h.st * 2 ^ 29 + b2n h.waiting.isSome * 2 ^ 28 + h.fault * 2 ^ 26 + h.res / 10 * 2 ^ 14 + (h.cur.or h.cut).elim 0 HTrig.slot

/-- HAP_STATUS: the PF; the channel's OWNER. -/
def cmdHapStatus : Cmd :=
  { opcode := 0x0A07, forms := .queryOnly, secure := false, always := false, form := fun _ _ p => pkLen p 0, qform := fun _ _ p => pkLen p 0, unitOk := atChan,
    may := fun s w p => !w.secure && (w.inst == 0 || w.inst == (s.chan (pkChan p)).owner), active := ownActive, check := noCheck, run := noRun,
    ask := fun s _ p => let h := s.chan (pkChan p); (s, Rsp.ok h.status h.touchRun h.trigDrop) }

/-- HAP_STATUS. -/
def execHapStatus (port : Port) (s : State) : Host.Outcome State Fault Refusal := s.ends (cmdHapStatus.exec port s)

/-- A touch trigger of a bound region (R466, R467). -/
def State.touchTrigger (s : State) (t k : Nat) : State :=
  match Tbl.find s.hap.binds (t * 64 + k) with
  | none => s
  | some b => (s.trigOf b.slot b.preempt 0).elim s (s.trigger b.channel)

end Sys2Proof.Machine
end

