-- ==== Sys2Proof/Machine/Touch.lean ====
section
/-! DEFINITION. Chapter 12: touch surfaces, raw-frame ports, baselines, contacts, reports, regions and line faults (R434 to R458). -/

namespace Sys2Proof.Machine

/-- A surface as manufacture leaves it: OFF. -/
def TSurf.off : TSurf :=
  { words := [], st := 0, frame := 0, sums := [], taken := 0, base := [], suspect := [], learn := [], contacts := [], freed := [], lineBad := [], lineFit := [], lines := [], reported := [], noInterp := [],
    counts := none, self := none, lastRf := 0, lastCount := none, cleanSince := 0, regions := [], nextRegions := [], rings := [], handover := [], rebase := none }

/-- A surface. -/
def State.tsurf (s : State) (t : Nat) : TSurf := Tbl.at s.tch.surfs TSurf.off t

/-- Changes a surface. -/
def State.updTsurf (s : State) (t : Nat) (f : TSurf → TSurf) : State := { s with tch := { s.tch with surfs := Tbl.put s.tch.surfs t (f (s.tsurf t)) } }

/-- A word of Table 12.2. -/
def TSurf.w (x : TSurf) (n : Nat) : Nat := x.words.getD n 0

/-- Bits of a word of Table 12.2. -/
def TSurf.f (x : TSurf) (n hi lo : Nat) : Nat := fld (x.w n) hi lo

/-- DRIVE. -/
def TSurf.drive (x : TSurf) : Nat := x.f 0 7 0

/-- SENSE. -/
def TSurf.sense (x : TSurf) : Nat := x.f 0 15 8

/-- SELF. -/
def TSurf.hasSelf (x : TSurf) : Bool := bitOf (x.w 0) 16

/-- Nodes of a surface. -/
def TSurf.nodes (x : TSurf) : Nat := x.drive * x.sense

/-- RATE_HZ. -/
def TSurf.rate (x : TSurf) : Nat := x.f 0 27 20

/-- A small surface (R447). -/
def TSurf.small (x : TSurf) : Bool := decide (min x.drive x.sense ≤ 40) && decide (max x.drive x.sense ≤ 64)

/-- TOUCH_THRESH. -/
def TSurf.thresh (x : TSurf) : Nat := x.f 1 15 0

/-- The contact threshold (R448). -/
def TSurf.contactThresh (x : TSurf) : Nat := if bitOf (x.w 0) 17 then x.thresh / 2 else x.thresh

/-- ADAPT_SHIFT; 0 selects 6. -/
def TSurf.shift (x : TSurf) : Nat := if x.f 2 39 36 = 0 then 6 else x.f 2 39 36

/-- REST_LIMIT_S in ns. -/
def TSurf.restNs (x : TSurf) : Nat := x.f 2 31 0 * 10 ^ 9

/-- ABSORB. -/
def TSurf.absorb (x : TSurf) : Bool := bitOf (x.w 2) 32

/-- X and Y of a node in whole nodes, after SWAP_XY, FLIP_X and FLIP_Y: X runs along the sense lines' index unless swapped (log entry 50). -/
def TSurf.xy (x : TSurf) (i : Nat) : Nat × Nat :=
  let d := i / x.sense
  let e := i % x.sense
  let (a, b, na, nb) := if bitOf (x.w 0) 31 then (d, e, x.drive, x.sense) else (e, d, x.sense, x.drive)
  (if bitOf (x.w 0) 29 then na - 1 - a else a, if bitOf (x.w 0) 30 then nb - 1 - b else b)

/-- Nodes within n of one another in all 8 directions. -/
def TSurf.near (x : TSurf) (n i j : Nat) : Bool := decide (dist (i / x.sense) (j / x.sense) ≤ n) && decide (dist (i % x.sense) (j % x.sense) ≤ n)

/-- Key of a line: sense lines carry bit 15. -/
def lineKey (sense : Bool) (n : Nat) : Nat := n + b2n sense * 0x8000

/-- The lines of a surface. -/
def TSurf.allLines (x : TSurf) : List Nat := (List.range x.drive).map (lineKey false) ++ (List.range x.sense).map (lineKey true)

/-- How many lines of a line's kind there are. -/
def TSurf.kindLines (x : TSurf) (l : Nat) : Nat := if 0x8000 ≤ l then x.sense else x.drive

/-- The lines next to a line. -/
def TSurf.besides (x : TSurf) (l : Nat) : List Nat :=
  (if l % 0x8000 = 0 then [] else [l - 1]) ++ (if l % 0x8000 + 1 < x.kindLines l then [l + 1] else [])

/-- The nodes of a line. -/
def TSurf.lineNodes (x : TSurf) (l : Nat) : List Nat :=
  if 0x8000 ≤ l then (List.range x.drive).map (fun d => d * x.sense + (l - 0x8000)) else (List.range x.sense).map (fun e => l * x.sense + e)

/-- A sum of natural numbers. -/
def sumN (l : List Nat) : Nat := l.foldl (· + ·) 0

/-- A sum of integers. -/
def sumI (l : List Int) : Int := l.foldl (· + ·) 0

/-- The baseline of a node. -/
def TSurf.baseOf (x : TSurf) (i : Nat) : Nat := x.base.getD i 0

/-- A line's mean baseline differs from the mean of the adjacent lines' means by more than ANOMALY_LIMIT (R458), compared without rounding. -/
def TSurf.misfits (x : TSurf) (l : Nat) : Bool :=
  let total (m : Nat) : Nat := sumN ((x.lineNodes m).map x.baseOf)
  let bs := x.besides l
  if bs.isEmpty then false
  else decide (bs.length * (x.lineNodes l).length * x.f 1 47 32 < dist (bs.length * total l) (sumN (bs.map total)))

/-- The lines that are faulty now: by their baseline, or by the front end's report (R440). -/
def TSurf.faulty (x : TSurf) : List Nat := x.lines ++ x.reported.filter (fun l => !x.lines.contains l)

/-- One pass of interpolation over the lines of one kind (R458). -/
def TSurf.interpolate (x : TSurf) (sense : Bool) (ds : List Int) : List Int :=
  (List.range ds.length).map (fun i =>
    let l := lineKey sense (if sense then i % x.sense else i / x.sense)
    if !x.faulty.contains l then ds.getD i 0
    else
      let bs := x.besides l
      if bs.any x.faulty.contains then 0
      else
        let vs := bs.map (fun m => ds.getD (if m < l then (if sense then i - 1 else i - x.sense) else (if sense then i + 1 else i + x.sense)) 0)
        if vs.isEmpty then ds.getD i 0 else sumI vs / (vs.length : Int))

/-- The deltas of a frame: count less baseline, faulty lines interpolated. -/
def TSurf.deltas (x : TSurf) (cs : List Nat) : List Int :=
  x.interpolate false (x.interpolate true ((List.range x.nodes).map (fun i => (cs.getD i 0 : Int) - (x.baseOf i : Int))))

/-- A node takes part in no contact while it is re-acquired or absorbed (R445, R453). -/
def TSurf.learning (x : TSurf) (i : Nat) : Bool := Tbl.has x.learn i

/-- Nodes that begin to be re-acquired (R445). -/
def TSurf.startLearn (x : TSurf) (ds : List Int) : TSurf :=
  let new := (List.range ds.length).filter (fun i =>
    !x.learning i && (decide (ds.getD i 0 ≤ -(x.f 1 31 16 : Int)) || (Tbl.find x.suspect i).elim false (fun v => decide ((x.thresh : Int) < v - ds.getD i 0))))
  { x with learn := new.foldl (fun t i => Tbl.put t i { sum := 0, seen := 0, need := 2 }) x.learn }

/-- Grows a connected set of nodes. -/
def growSet (adj : Nat → Nat → Bool) : Nat → List Nat → List Nat → List Nat × List Nat
  | 0, comp, rest => (comp, rest)
  | f + 1, comp, rest =>
    let more := rest.filter (fun j => comp.any (adj j))
    if more.isEmpty then (comp, rest) else growSet adj f (comp ++ more) (rest.filter (fun j => !more.contains j))

/-- The connected sets of a list of nodes. -/
def components (adj : Nat → Nat → Bool) : Nat → List Nat → List (List Nat)
  | 0, _ => []
  | _, [] => []
  | f + 1, i :: rest =>
    let r := growSet adj rest.length [i] rest
    r.1 :: components adj f r.2

/-- The connected sets of nodes at or above the contact threshold. -/
def TSurf.found (x : TSurf) (ds : List Int) : List (List Nat) :=
  let hot := (List.range ds.length).filter (fun i => !x.learning i && decide ((x.contactThresh : Int) ≤ ds.getD i 0))
  components (x.near 1) (hot.length + 1) hot

/-- More than 12 nodes, or more than 5 across in either direction, is a palm (R447). -/
def TSurf.palm (x : TSurf) (ns : List Nat) : Bool :=
  let span (f : Nat → Nat) : Nat := (ns.map f).foldl max 0 - (ns.map f).foldl min 100000 + 1
  decide (12 < ns.length) || decide (5 < span (fun i => i / x.sense)) || decide (5 < span (fun i => i % x.sense))

/-- The node of largest delta, the first of them in node order. -/
def peakOf (ds : List Int) : List Nat → Nat
  | [] => 0
  | i :: is => is.foldl (fun p j => if ds.getD p 0 < ds.getD j 0 then j else p) i

/-- The position of a contact in 1/256 node (Table 12.5). -/
def TSurf.position (x : TSurf) (ds : List Int) (pk : Nat) : Nat × Nat :=
  if x.small then (256 * (x.xy pk).1 + 128, 256 * (x.xy pk).2 + 128)
  else
    let ns := (List.range ds.length).filter (fun i => x.near 1 pk i && decide (0 < ds.getD i 0))
    let d (i : Nat) : Nat := (ds.getD i 0).toNat
    let t := sumN (ns.map d)
    let c (f : Nat → Nat) : Nat := if t = 0 then 256 * f pk + 128 else (256 * sumN (ns.map (fun i => d i * f i)) + 128 * t + t / 2) / t
    (c (fun i => (x.xy i).1), c (fun i => (x.xy i).2))

/-- A contact not yet matched. -/
def TSurf.contactOf (x : TSurf) (ds : List Int) (now : Nat) (ns : List Nat) : TContact :=
  let pk := peakOf ds ns
  let (px, py) := x.position ds pk
  let d := (ds.getD pk 0).toNat
  { id := 0xFF, x := px, y := py, nodes := ns, peak := pk, strength := d, downX := px, downY := py, region := 0xFF, inst := none, start := ns.any (fun i => Tbl.has x.suspect i), resting := false,
    interp := ns.any (fun i => x.faulty.contains (lineKey true (i % x.sense)) || x.faulty.contains (lineKey false (i / x.sense))), glove := decide (d < x.thresh), hover := 0, since := now, silent := false }

/-- An object above the glass (R449). -/
def hoverOf (now : Nat) (o : Nat × Nat × Nat) : TContact :=
  { id := 0xFF, x := o.1, y := o.2.1, nodes := [], peak := 0, strength := 0, downX := o.1, downY := o.2.1, region := 0xFF, inst := none, start := false, resting := false, interp := false, glove := false, hover := max 1 o.2.2,
    since := now, silent := false }

/-- True where a contact of the previous frame may go on as one of this frame: a hover object may become a contact, a contact does not become a hover object. -/
def mayMatch (a b : TContact) : Bool := a.hover != 0 || b.hover == 0

/-- Candidate matches of R450: indices of previous and new contact and the squared distance, up to 4 nodes. -/
def pairsOf (prev new : List TContact) : List (Nat × Nat × Nat) :=
  (List.range prev.length).flatMap (fun i => (List.range new.length).filterMap (fun j =>
    match prev[i]?, new[j]? with
    | some a, some b =>
      let q := dist a.x b.x ^ 2 + dist a.y b.y ^ 2
      if mayMatch a b && decide (q ≤ 1024 ^ 2) then some (i, j, q) else none
    | _, _ => none))

/-- The candidate of least distance, the first of them. -/
def leastPair : List (Nat × Nat × Nat) → Option (Nat × Nat × Nat)
  | [] => none
  | p :: ps => some (ps.foldl (fun a b => if b.2.2 < a.2.2 then b else a) p)

/-- Matches by ascending distance, each contact at most once. -/
def matchPairs : Nat → List (Nat × Nat × Nat) → List (Nat × Nat)
  | 0, _ => []
  | f + 1, ps =>
    match leastPair ps with
    | none => []
    | some (i, j, _) => (i, j) :: matchPairs f (ps.filter (fun q => q.1 != i && q.2.1 != j))

/-- A contact that goes on: identity, DOWN position, route, flags and age are those of the previous frame. -/
def TContact.follow (new old : TContact) : TContact :=
  if old.hover ≠ 0 ∧ new.hover = 0 then { new with id := old.id }
  else { new with id := old.id, downX := old.downX, downY := old.downY, region := old.region, inst := old.inst, start := old.start || new.start, resting := old.resting, since := old.since, silent := old.silent }

/-- In small mode: the contact of the previous frame whose peak lay within 2 nodes (R447, R452). -/
def TSurf.prevSmall (x : TSurf) (c : TContact) : Option TContact := x.contacts.find? (fun o => x.near 2 o.peak c.peak)

/-- The instance that is certified (R504): it holds a session under the slot that carries CERTIFIED. -/
def State.certifiedInst (s : State) : Option Nat :=
  (s.core.slices.find? (fun e => e.2.auth.elim false (fun a => (Tbl.find s.sec.sessionKeys a.slot).elim false SessKey.certified))).map (fun e => e.1 / 256)

/-- An instance that holds a band A session (R125). -/
def State.bandASession (s : State) (inst : Nat) : Bool := s.core.slices.any (fun e => e.1 / 256 == inst && e.2.auth.isSome)

/-- An instance that may own a critical region: the certified one, with its band A session (R454). -/
def State.mayOwnCritical (s : State) (inst : Nat) : Bool := s.certifiedInst == some inst && s.bandASession inst

/-- A position in a region's rectangle. -/
def TRegion.holds (r : TRegion) (px py : Nat) : Bool :=
  let nx := px / 256
  let ny := py / 256
  decide (fld r.rect 15 0 ≤ nx) && decide (nx < fld r.rect 15 0 + fld r.rect 47 32) && decide (fld r.rect 31 16 ≤ ny) && decide (ny < fld r.rect 31 16 + fld r.rect 63 48)

/-- The region that a position is routed by (R455): critical regions, then others, each in descending index. -/
def TSurf.regionAt (x : TSurf) (px py : Nat) : Option (Nat × TRegion) :=
  let hit := x.regions.reverse.filter (fun e => e.2.holds px py)
  (hit.find? (fun e => e.2.critical)).or hit.head?

/-- The route of a position: region, 0xFF for the default route, and the instance, none where the contact is dropped (R454, R455, R504). -/
def State.touchRoute (s : State) (x : TSurf) (px py : Nat) : Nat × Option Nat :=
  match x.regionAt px py with
  | some (k, r) => (k, if r.critical && s.certifiedInst != some r.owner then none else some r.owner)
  | none => (0xFF, if bitOf (x.w 0) 38 then some (x.f 0 37 32) else none)

/-- A report entry (Table 12.6) without PHASE. -/
def touchEntry (type t id state flags region area px py strength height frame dt : Nat) : List Byte :=
  [BitVec.ofNat 8 type, BitVec.ofNat 8 t, BitVec.ofNat 8 id, BitVec.ofNat 8 state, BitVec.ofNat 8 flags, BitVec.ofNat 8 region, BitVec.ofNat 8 (min area 255), 0] ++ le 2 px ++ le 2 py ++ le 2 (min strength 65535) ++ le 1 height ++ [0]
    ++ le 4 frame ++ le 8 dt ++ [0, 0, 0, 0]

/-- FLAGS of a contact. -/
def TContact.flags (c : TContact) : Nat := b2n c.start + b2n c.resting * 2 + b2n c.interp * 16 + b2n c.glove * 32

/-- A report: the instance it goes to, none for every subscribed slice, and its entry. -/
structure TReport where
  inst : Option Nat
  bytes : List Byte
  deriving DecidableEq, Repr

/-- The report of a contact: nothing where it is silent or routed to nobody. -/
def TContact.report (c : TContact) (t state extra frame now : Nat) : List TReport :=
  match c.inst with
  | some i => if c.silent then [] else [{ inst := some i, bytes := touchEntry 1 t c.id state (c.flags + extra) c.region c.nodes.length c.x c.y c.strength c.hover frame now }]
  | none => []

/-- An event report (Table 12.6, R458). -/
def touchEvent (inst : Option Nat) (t kind x frame now : Nat) : TReport := { inst := inst, bytes := touchEntry 3 t kind 0 0 0 0 x 0 0 0 frame now }

/-- Writes one entry to the report ring of a slice, or counts it lost (R451, R119). -/
def State.touchPut (s : State) (t key : Nat) (bytes : List Byte) : State × Bool :=
  match Tbl.find (s.tsurf t).rings key, Tbl.find s.core.slices key with
  | some r, some sl =>
    let inst := key / 256
    let lose (q : State) : State := q.updTsurf t (fun x => { x with rings := Tbl.upd x.rings key (fun g => { g with lost := satInc g.lost }) })
    match Core.dmaRead inst sl 4 s.core r.head with
    | (c1, .error f) => (lose { s with core := c1.dtuFault inst (key % 256) f.1 f.2 false }, false)
    | (c1, .ok hd) =>
      let s1 : State := { s with core := c1 }
      if ringRoom (2 ^ r.log2) (ofLe hd) r.pos.next = 0 then (lose s1, false)
      else
        match Core.dmaWrite inst sl (withPhase r.pos.phase bytes) s1.core (r.base + r.pos.next) with
        | (c2, some f) => (lose { s1 with core := c2.dtuFault inst (key % 256) f.1 f.2 true }, false)
        | (c2, none) => (({ s1 with core := c2.raise inst r.vector }).updTsurf t (fun x => { x with rings := Tbl.upd x.rings key (fun g => { g with pos := ringStep (2 ^ g.log2) g.pos }) }), true)
  | _, _ => (s, false)

/-- Writes the reports of one slice, and FRAME_END where it received an entry and the frame ended. -/
def State.touchSlice (s : State) (t key frame : Nat) (ends : Bool) (rs : List TReport) : State :=
  let mine := rs.filter (fun r => r.inst.elim true (fun i => key / 256 == i))
  let (s1, got) := mine.foldl (fun a r => let p := a.1.touchPut t key r.bytes; (p.1, a.2 || p.2)) (s, false)
  if ends && got then
    let lost := (Tbl.find (s1.tsurf t).rings key).elim 0 TRing.lost
    let p := s1.touchPut t key (touchEntry 2 t 0 0 0 0 0 (lost % 65536) (lost / 65536) 0 0 frame s1.core.now)
    if p.2 then p.1.updTsurf t (fun x => { x with rings := Tbl.upd x.rings key (fun g => { g with lost := 0 }) }) else p.1
  else s1

/-- Writes reports to every subscribed slice. -/
def State.touchReports (s : State) (t frame : Nat) (ends : Bool) (rs : List TReport) : State :=
  if rs.isEmpty then s else (Tbl.keys (s.tsurf t).rings).foldl (fun a key => a.touchSlice t key frame ends rs) s

/-- Ends every contact with UP and CANCELLED. -/
def TSurf.cancelAll (x : TSurf) (t now : Nat) : TSurf × List TReport :=
  ({ x with contacts := [], freed := x.contacts.foldl (fun f c => if c.id = 0xFF then f else Tbl.put f c.id x.frame) x.freed }, x.contacts.flatMap (fun c => c.report t 2 8 x.frame now))

/-- An anomaly: counted and journaled (R458, Table 12.7). -/
def State.anomaly (s : State) (t kind line : Nat) : State :=
  let s1 : State := { s with tch := { s.tch with anomaly := Tbl.inc s.tch.anomaly t } }
  s1.mapCore (fun c => c.event 0xFE60 0 (uid 0x60 t 0) (t + kind * 256) (le 2 line ++ le 4 (s.tsurf t).frame))

/-! ## Transitions that come due -/

/-- The configuration that a stored baseline belongs to (R444). -/
def TSurf.config (x : TSurf) : List Nat := [x.w 0, x.w 1]

/-- STARTUP has taken its 8 frames: the baselines against the stored ones (R444). -/
def State.startupDone (s : State) (t : Nat) : State :=
  let x := s.tsurf t
  if x.st ≠ 1 ∨ x.taken < 8 then s
  else
    let avg := x.sums.map (· / 8)
    let stored := match Tbl.find s.peat.baselines t with
      | some vs => if vs.take 2 = x.config ∧ vs.length = x.nodes + 2 then some (vs.drop 2) else none
      | none => none
    let sus : Tbl Int := match stored with
      | some vs => (List.range avg.length).foldl (fun m i => if x.f 1 63 48 < dist (avg.getD i 0) (vs.getD i 0) then Tbl.put m i ((avg.getD i 0 : Int) - (vs.getD i 0 : Int)) else m) []
      | none => []
    let base := (List.range avg.length).map (fun i => if Tbl.has sus i then (stored.getD []).getD i 0 else avg.getD i 0)
    (s.updTsurf t (fun y => { y with st := 2, base := base, suspect := sus, sums := [], taken := 0, cleanSince := s.core.now })).mapCore
      (fun c => c.event 0xFE62 0 (uid 0x60 t 0) t (le 2 sus.length ++ le 1 (b2n stored.isSome)))

/-- REBASE has taken its 4 frames (R457). -/
def State.rebaseDone (s : State) (t : Nat) : State :=
  let x := s.tsurf t
  if x.st ≠ 3 ∨ x.taken < 4 then s
  else
    let s1 := s.updTsurf t (fun y => { y with st := 2, base := x.sums.map (· / 4), suspect := [], learn := [], sums := [], taken := 0, rebase := none })
    x.rebase.elim s1 (fun r => s1.finishWork r.2 (Rsp.plain .served))

/-- Nodes whose frames are complete take their mean; need is 2 for re-acquired, 4 for absorbed nodes (R445, R453). -/
def TSurf.learnt (x : TSurf) (need : Nat) : TSurf :=
  let done := Tbl.keep x.learn (fun _ l => l.need == need && decide (l.need ≤ l.seen))
  { x with base := (List.range x.base.length).map (fun i => match Tbl.find done i with | some l => l.sum / l.seen | none => x.baseOf i),
           suspect := Tbl.keep x.suspect (fun i _ => !Tbl.has done i), learn := Tbl.keep x.learn (fun i _ => !Tbl.has done i) }

/-- Declares one line faulty (R458): kind 1, and kind 4 where the line next to it is faulty too. -/
def State.lineFault (s : State) (t l : Nat) : State :=
  let x := s.tsurf t
  let s1 := (s.updTsurf t (fun y => { y with lines := if y.lines.contains l then y.lines else y.lines ++ [l], lineFit := Tbl.put y.lineFit l 0 })).anomaly t 1 l
  let s2 := s1.touchReports t x.frame false [touchEvent none t 1 l x.frame s.core.now]
  if (x.besides l).any x.lines.contains then ((s2.updTsurf t (fun y => { y with noInterp := y.noInterp ++ [l] })).anomaly t 4 l).touchReports t x.frame false [touchEvent none t 4 l x.frame s.core.now] else s2

/-- The lines that have been out of line for 16 frames, or that the front end reports, and are not yet declared. -/
def TSurf.newFaults (x : TSurf) : List Nat := x.allLines.filter (fun l => !x.lines.contains l && (decide (16 ≤ Tbl.cnt x.lineBad l) || x.reported.contains l))

/-- Declares the lines that are due. -/
def State.lineFaults (s : State) (t : Nat) : State := (s.tsurf t).newFaults.foldl (fun a l => a.lineFault t l) s

/-- Lines that fit again for 16 frames stop being interpolated; kind 1 with bit 14 reports it (R458). -/
def State.lineRecovers (s : State) (t : Nat) : State :=
  let x := s.tsurf t
  (x.lines.filter (fun l => decide (16 ≤ Tbl.cnt x.lineFit l))).foldl (fun a l =>
    ((a.updTsurf t (fun y => { y with lines := y.lines.filter (· != l), noInterp := y.noInterp.filter (· != l), lineBad := Tbl.put y.lineBad l 0 })).anomaly t 1 (l + 0x4000)).touchReports t x.frame false
      [touchEvent none t 1 (l + 0x4000) x.frame s.core.now]) s

/-- Contacts present for REST_LIMIT_S become RESTING; with ABSORB they end with UP and ABSORBED and their nodes begin to learn (R452, R453). -/
def State.restContacts (s : State) (t : Nat) : State × List TReport :=
  let x := s.tsurf t
  let now := s.core.now
  let due (c : TContact) : Bool := decide (x.restNs ≠ 0) && !c.resting && c.hover == 0 && decide (x.restNs ≤ now - c.since)
  let rested := x.contacts.map (fun c => if due c then { c with resting := true } else c)
  if !x.absorb then (s.updTsurf t (fun y => { y with contacts := rested }), [])
  else
    let gone := (x.contacts.filter due).map (fun c => { c with resting := true })
    let s1 := s.updTsurf t (fun y =>
      { y with contacts := y.contacts.filter (fun c => !due c), freed := gone.foldl (fun f c => if c.id = 0xFF then f else Tbl.put f c.id y.frame) y.freed,
               learn := (gone.flatMap (fun c => c.nodes)).foldl (fun m i => Tbl.put m i { sum := 0, seen := 0, need := 4 }) y.learn })
    let s2 := gone.foldl (fun a c =>
      if c.region < 64 && (Tbl.find x.regions c.region).elim false (fun r => r.critical) then
        a.mapCore (fun k => k.event 0xFE61 (c.inst.getD 0) (uid 0x60 t 0) (t + c.region * 256) (le 2 c.x ++ le 2 c.y ++ le 4 ((now - c.since) / 10 ^ 9)))
      else a) s1
    (s2, gone.flatMap (fun c => c.report t 2 4 x.frame now))

/-! ## A scan frame -/

/-- Puts the region changes that wait into force (R454). -/
def TSurf.applyRegions (x : TSurf) : TSurf :=
  { x with regions := x.nextRegions.foldl (fun m e => match e.2 with | some r => Tbl.put m e.1 r | none => Tbl.del m e.1) x.regions, nextRegions := [] }

/-- Hands a region over (R456): the new owner, its event, the old owner's binding gone, the command served. -/
def State.handOver (s : State) (t k inst work : Nat) : State × List TReport :=
  let x := s.tsurf t
  let s1 := s.updTsurf t (fun y => { y with regions := Tbl.upd y.regions k (fun r => { r with owner := inst }), handover := y.handover.filter (fun h => h.2.2.2 != work) })
  let s2 : State := { s1 with hap := { s1.hap with binds := Tbl.keep s1.hap.binds (fun key b => !(key == t * 64 + k && b.inst != inst)) } }
  (s2.finishWork work (Rsp.plain .served), [touchEvent (some inst) t 3 k x.frame s.core.now])

/-- A surface begins REBASE (R457). -/
def TSurf.beginRebase (x : TSurf) : TSurf := { x with st := 3, sums := [], taken := 0, learn := [] }

/-- The changes that take effect as a frame begins: regions, hand-overs with FORCE, REBASE with FORCE. -/
def State.frameBegins (s : State) (t : Nat) : State × List TReport :=
  let s1 := s.updTsurf t TSurf.applyRegions
  let forced := (s1.tsurf t).handover.filter (fun h => h.2.2.1)
  let (s2, rs) := forced.foldl (fun a h =>
    let x := a.1.tsurf t
    let ups := (x.contacts.filter (fun c => c.region == h.1)).flatMap (fun c => c.report t 2 8 x.frame s.core.now)
    let q := (a.1.updTsurf t (fun y => { y with contacts := y.contacts.map (fun c => if c.region = h.1 then { c with silent := true } else c) })).handOver t h.1 h.2.1 h.2.2.2
    (q.1, a.2 ++ ups ++ q.2)) (s1, [])
  match (s2.tsurf t).rebase with
  | some (true, _) =>
    let c := (s2.tsurf t).cancelAll t s.core.now
    (s2.updTsurf t (fun _ => c.1.beginRebase), rs ++ c.2)
  | _ => (s2, rs)

/-- Takes one frame of STARTUP or REBASE. -/
def TSurf.sumFrame (x : TSurf) (cs : List Nat) : TSurf :=
  { x with sums := (List.range x.nodes).map (fun i => x.sums.getD i 0 + cs.getD i 0), taken := x.taken + 1 }

/-- Routes a contact for this frame, in small mode afresh, in large mode once; a contact that moves into a critical region goes silent (R455). Answers the contact, its reports, whether it went unrouted. -/
def State.routeContact (s : State) (t : Nat) (x : TSurf) (old : Option TContact) (c : TContact) : TContact × List TReport × Bool :=
  let now := s.core.now
  let isNew := old.elim true (fun o => o.hover != 0 && c.hover == 0)
  let (k, i) := s.touchRoute x c.x c.y
  if x.small ∨ isNew ∨ c.hover ≠ 0 then
    let c1 := { c with region := k, inst := i }
    let state := if c.hover ≠ 0 then 3 else if isNew then 0 else 1
    (c1, c1.report t state 0 x.frame now, i.isNone && !c.silent && (x.small || isNew))
  else if k < 64 && c.region < 64 && c.region != k && (Tbl.find x.regions k).elim false (fun r => r.critical) && !(Tbl.find x.regions c.region).elim false (fun r => r.critical) then
    ({ c with silent := true }, c.report t 2 8 x.frame now, false)
  else (c, c.report t 1 0 x.frame now, false)

/-- The lowest identity free for at least 2 frames (R450). -/
def lowestId (used : List Nat) (freed : Tbl Nat) (frame : Nat) : Nat → Nat → Option Nat
  | 0, _ => none
  | f + 1, n => if !used.contains n && (Tbl.find freed n).elim true (fun g => decide (g + 2 ≤ frame)) then some n else lowestId used freed frame f (n + 1)

/-- Gives new contacts identities in order; one that finds none waits for the next frame. -/
def giveIds (freed : Tbl Nat) (frame : Nat) : List Nat → List (Option TContact × TContact) → List (Option TContact × TContact)
  | _, [] => []
  | used, (some o, c) :: cs => (some o, c) :: giveIds freed frame used cs
  | used, (none, c) :: cs =>
    match lowestId used freed frame 20 0 with
    | some n => (none, { c with id := n }) :: giveIds freed frame (n :: used) cs
    | none => giveIds freed frame used cs

/-- Inserts by descending peak delta, after its equals. -/
def insertPeak (e : Option TContact × TContact) : List (Option TContact × TContact) → List (Option TContact × TContact)
  | [] => [e]
  | d :: ds => if e.2.strength > d.2.strength then e :: d :: ds else d :: insertPeak e ds

/-- The contacts kept, those with an identity first (small mode gives none), then by descending peak delta; and how many are in excess (R447). -/
def keepMost (limit : Nat) (small : Bool) (cs : List (Option TContact × TContact)) : List (Option TContact × TContact) × Nat :=
  let old := cs.filter (fun e => e.1.isSome && !small)
  let new := (cs.filter (fun e => e.1.isNone || small)).foldl (fun l e => insertPeak e l) []
  ((old ++ new).take limit, (old ++ new).length - limit)

/-- The contacts of a frame with those they follow; and the previous contacts that ended: by a palm, or without a match. -/
def TSurf.followed (x : TSurf) (ds : List Int) (now : Nat) (sets : List (List Nat)) : List (Option TContact × TContact) × List TContact × List TContact :=
  let hov := if bitOf (x.w 0) 18 && !x.small then (Config.hover x.words (x.self.getD [])).map (hoverOf now) else []
  let fingers := (sets.filter (fun ns => !x.palm ns)).map (x.contactOf ds now)
  let palms := (sets.filter x.palm).map (x.contactOf ds now)
  if x.small then
    let inPalm (o : TContact) : Bool := palms.any (fun p => x.near 2 o.peak p.peak || p.nodes.contains o.peak)
    (fingers.map (fun c => match x.prevSmall c with | some o => (some o, { c.follow o with id := 0xFF }) | none => (none, c)),
      x.contacts.filter (fun o => inPalm o && !fingers.any (fun c => x.near 2 o.peak c.peak)), [])
  else
    let new := fingers ++ hov
    let all := new ++ palms
    let ms := matchPairs (x.contacts.length + 1) (pairsOf x.contacts all)
    let oldOf (j : Nat) : Option TContact := (ms.find? (fun m => m.2 == j)).bind (fun m => x.contacts[m.1]?)
    ((List.range new.length).filterMap (fun j => new[j]?.map (fun c => match oldOf j with | some o => (some o, c.follow o) | none => (none, c))),
      (List.range x.contacts.length).filterMap (fun i => if ms.any (fun m => m.1 == i && decide (new.length ≤ m.2)) then x.contacts[i]? else none),
      (List.range x.contacts.length).filterMap (fun i => if ms.any (fun m => m.1 == i) then none else x.contacts[i]?))

/-- Adapts the baselines (R443): nodes not frozen by their own step, frozen ones by the mean step of the free nodes at distance 2, else of all free nodes; with none at all the step is not stated (free value). Learning nodes add their counts. -/
def TSurf.adapt (x : TSurf) (cs : List Nat) (sets : List (List Nat)) (unstated : Int) : TSurf :=
  let absorbing := Tbl.keys (Tbl.keep x.learn (fun _ l => l.need == 4))
  let held := sets.flatMap (fun ns => ns) ++ absorbing
  let frozen := (List.range x.nodes).filter (fun i => held.any (x.near 1 i))
  let own (i : Nat) : Int := ((cs.getD i 0 : Int) - (x.baseOf i : Int)) / (2 ^ x.shift : Int)
  let free := (List.range x.nodes).filter (fun i => !frozen.contains i && !x.learning i)
  let mean (l : List Nat) : Int := (sumI (l.map own)).tdiv (l.length : Int)
  let step (i : Nat) : Int :=
    if !frozen.contains i then own i
    else
      let ring := free.filter (fun j => x.near 2 i j && !x.near 1 i j)
      if !ring.isEmpty then mean ring else if !free.isEmpty then mean free else unstated
  { x with base := (List.range x.nodes).map (fun i => if x.learning i then x.baseOf i else ((x.baseOf i : Int) + step i).toNat),
           learn := Tbl.mapVals x.learn (fun i l => { l with sum := l.sum + cs.getD i 0, seen := l.seen + 1 }) }

/-- Counts the frames in which lines are out of line and in line (R458). -/
def TSurf.countLines (x : TSurf) : TSurf :=
  { x with lineBad := x.allLines.foldl (fun m l => Tbl.put m l (if x.misfits l && !x.lines.contains l then Tbl.cnt m l + 1 else 0)) x.lineBad,
           lineFit := x.allLines.foldl (fun m l => Tbl.put m l (if x.lines.contains l && !x.misfits l && !x.reported.contains l then Tbl.cnt m l + 1 else 0)) x.lineFit }

/-- Hand-overs of regions that route no contact (R456), those with FORCE only where all are asked for. -/
def State.handOvers (s : State) (t : Nat) (all : Bool) : State × List TReport :=
  let free := (s.tsurf t).handover.filter (fun h => (all || !h.2.2.1) && !(s.tsurf t).contacts.any (fun c => c.region == h.1))
  free.foldl (fun a h => let q := a.1.handOver t h.1 h.2.1 h.2.2.2; (q.1, a.2 ++ q.2)) (s, [])

/-- What waits for a frame with no contact: hand-overs and REBASE (R456, R457). -/
def State.frameEnds (s : State) (t : Nat) (cs : List Nat) : State × List TReport :=
  let (s1, rs) := s.handOvers t false
  match (s1.tsurf t).rebase with
  | some (false, _) => (if (s1.tsurf t).contacts.isEmpty then s1.updTsurf t (fun x => x.beginRebase.sumFrame cs) else s1, rs)
  | _ => (s1, rs)

/-- One scan frame of an ACTIVE surface: contacts found, matched, routed and reported; then the baseline adapts. -/
def State.activeFrame (s : State) (t : Nat) (cs : List Nat) (before : List TReport) : State :=
  let now := s.core.now
  let x0 := s.tsurf t
  let ds := x0.deltas cs
  let fresh := x0.startLearn ds
  let begun := (Tbl.keys fresh.learn).filter (fun i => !x0.learning i)
  let sets := fresh.found ds
  let large := x0.small && decide (x0.nodes < 4 * sumN (sets.map List.length))
  let (cand, palmed, lost) := fresh.followed ds now (if large then [] else sets)
  let kept := keepMost (if x0.small then 5 else 20) x0.small cand
  let named := if x0.small then kept.1 else giveIds x0.freed x0.frame (x0.contacts.map (fun c => c.id)) kept.1
  let routed := named.map (fun e => (e.1, s.routeContact t x0 e.1 e.2))
  let dropped := cand.filterMap (fun e => e.1.bind (fun o => if x0.small || named.any (fun n => n.2.id == o.id) then none else some o))
  let ups := palmed.flatMap (fun c => c.report t 2 8 x0.frame now) ++ (lost ++ dropped).flatMap (fun c => if x0.small then [] else c.report t 2 0 x0.frame now)
  let gone := palmed ++ lost ++ dropped
  let s1 := s.updTsurf t (fun _ =>
    { fresh with contacts := routed.map (fun e => e.2.1), freed := gone.foldl (fun f c => if c.id = 0xFF then f else Tbl.put f c.id x0.frame) fresh.freed })
  let s2 : State := { s1 with tch := { s1.tch with excess := Tbl.addTo s1.tch.excess t kept.2, unrouted := Tbl.addTo s1.tch.unrouted t (routed.filter (fun e => e.2.2.2)).length } }
  let (s3, absorbed) := s2.restContacts t
  let live := routed.flatMap (fun e =>
    match (s3.tsurf t).contacts.find? (fun c => c.peak == e.2.1.peak && c.id == e.2.1.id && c.hover == e.2.1.hover) with
    | none => []
    | some c => if c.resting && !e.2.1.resting then c.report t 1 0 x0.frame now else e.2.2.1)
  let downs := routed.filter (fun e => e.2.1.hover == 0 && !e.2.1.start && !e.2.1.silent && e.2.1.inst.isSome && e.1.elim true (fun o => o.hover != 0) && decide (e.2.1.region < 64))
  let s4 := downs.foldl (fun a e => a.touchTrigger t e.2.1.region) s3
  let (s5, after) := s4.frameEnds t cs
  let unstated : Int := (s5.core.free % 65536 : Nat)
  let s6 := (s5.mapCore (fun c => c.useFree 1)).updTsurf t (fun x =>
    let keepNew := Tbl.keep x.learn (fun i _ => begun.contains i)
    let y := ({ x with learn := Tbl.keep x.learn (fun i _ => !begun.contains i) } : TSurf).adapt cs sets unstated
    let z := { y with learn := keepNew.foldl (fun m (e : Nat × TLearn) => Tbl.put m e.1 e.2) y.learn, base := (List.range y.base.length).map (fun i => if begun.contains i then x.baseOf i else y.baseOf i) }
    { z.countLines with cleanSince := if z.contacts.isEmpty ∧ z.suspect.isEmpty then z.cleanSince else now })
  s6.touchReports t x0.frame true (before ++ ups ++ live ++ absorbed ++ after)

/-- TOUCH_SCAN_FRAME (R441): the node counts of an integrated front end, with the self-capacitance values where SELF is set; a raw-frame surface takes the frames its port received. -/
def execTouchScanFrame (surface : Nat) (counts own : List Nat) (s : State) : Host.Outcome State Fault Refusal :=
  s.ends (
    let x0 := s.tsurf surface
    let raw := decide (2 ≤ surface)
    let cs := if raw then x0.counts else some counts
    let se := if raw then x0.self else some own
    match cs with
    | none => s
    | some cs =>
      if 8 ≤ surface ∨ x0.st = 0 ∨ x0.st = 4 ∨ (x0.hasSelf && se.isNone) then s
      else
        let s1 := ((((s.startupDone surface).rebaseDone surface).lineFaults surface).lineRecovers surface).updTsurf surface (fun x => ((x.learnt 2).learnt 4))
        let s2 := s1.updTsurf surface (fun x => { x with self := se, counts := none })
        let (s3, before) := if (s2.tsurf surface).st = 2 then s2.frameBegins surface else (s2.updTsurf surface TSurf.applyRegions, [])
        let s4 := if (s3.tsurf surface).st = 2 then s3.activeFrame surface cs before else (let h := (s3.updTsurf surface (fun x => x.sumFrame cs)).handOvers surface true; h.1.touchReports surface x0.frame true (before ++ h.2))
        s4.updTsurf surface (fun x => { x with frame := (x.frame + 1) % 2 ^ 32, self := none }))

/-- TOUCH_STARTUP_DONE (R444). -/
def execTouchStartupDone (surface : Nat) (s : State) : Host.Outcome State Fault Refusal := s.ends (s.startupDone surface)

/-- TOUCH_REBASE_DONE (R457). -/
def execTouchRebaseDone (surface : Nat) (s : State) : Host.Outcome State Fault Refusal := s.ends (s.rebaseDone surface)

/-- TOUCH_REACQUIRE_DONE (R445). -/
def execTouchReacquireDone (surface : Nat) (s : State) : Host.Outcome State Fault Refusal := s.ends (s.updTsurf surface (fun x => x.learnt 2))

/-- TOUCH_ABSORB_DONE (R453). -/
def execTouchAbsorbDone (surface : Nat) (s : State) : Host.Outcome State Fault Refusal := s.ends (s.updTsurf surface (fun x => x.learnt 4))

/-- TOUCH_LINE_FAULT (R458). -/
def execTouchLineFault (surface : Nat) (s : State) : Host.Outcome State Fault Refusal := s.ends (s.lineFaults surface)

/-- TOUCH_LINE_RECOVER (R458). -/
def execTouchLineRecover (surface : Nat) (s : State) : Host.Outcome State Fault Refusal := s.ends (s.lineRecovers surface)

/-- TOUCH_CONTACT_RESTING (R452, R453). -/
def execTouchContactResting (surface : Nat) (s : State) : Host.Outcome State Fault Refusal :=
  s.ends (let r := s.restContacts surface; r.1.touchReports surface (s.tsurf surface).frame false r.2)

/-- Stores a surface's baseline (R446). -/
def State.storeBaseline (s : State) (t : Nat) : State :=
  let x := s.tsurf t
  { s.updTsurf t (fun y => { y with cleanSince := s.core.now }) with peat := { s.peat with baselines := Tbl.put s.peat.baselines t (x.config ++ x.base) } }

/-- TOUCH_BASELINE_STORE (R446): ACTIVE for 10 minutes with no contact and no suspect node. -/
def execTouchBaselineStore (surface : Nat) (s : State) : Host.Outcome State Fault Refusal :=
  s.ends (
    let x := s.tsurf surface
    if x.st = 2 ∧ x.contacts.isEmpty ∧ x.suspect.isEmpty ∧ x.cleanSince + 600 * 10 ^ 9 ≤ s.core.now then s.storeBaseline surface else s)

/-- TOUCH_SURFACE_LOST (R442). -/
def execTouchSurfaceLost (surface : Nat) (s : State) : Host.Outcome State Fault Refusal :=
  s.ends (
    let x := s.tsurf surface
    if surface < 2 ∨ 8 ≤ surface ∨ x.st = 0 ∨ x.st = 4 ∨ x.rate = 0 ∨ s.core.now < x.lastRf + max (3 * 10 ^ 9 / x.rate) (10 ^ 8) then s
    else
      let c := x.cancelAll surface s.core.now
      let s1 := (s.updTsurf surface (fun _ => { c.1 with st := 4, sums := [], taken := 0 })).touchReports surface x.frame false (c.2 ++ [touchEvent none surface 2 0 x.frame s.core.now])
      s1.anomaly surface 2 0)

/-- Puts a surface into STARTUP (Table 12.4). -/
def TSurf.startup (x : TSurf) : TSurf :=
  { x with st := 1, frame := 0, sums := [], taken := 0, suspect := [], learn := [], contacts := [], freed := [], lineBad := [], lineFit := [], lines := [], reported := [], noInterp := [], counts := none, self := none }

/-- RAW_FRAME_RECEIVE (R438 to R440): the bytes of a frame on port index and the bytes that RF_FS spanned. -/
def execRawFrameReceive (index : Nat) (frame : List Byte) (span : Nat) (s : State) : Host.Outcome State Fault Refusal :=
  s.ends (
    if 6 ≤ index then s
    else
      let t := index + 2
      let x := s.tsurf t
      let b (n : Nat) : Nat := (frame.getD n 0).toNat
      let type := b 3
      let n := if type = 1 then x.drive + x.sense else x.nodes
      let size := 14 + 2 * n
      let ok := ofBe (frame.take 2) == 0x7E5A && b 2 / 16 == 1 && decide (type ≤ 1) && b 6 == x.drive && b 7 == x.sense && frame.length == size && span == size &&
        ofBe ((frame.drop (size - 2)).take 2) == crc16 (frame.take (size - 2))
      if !ok then { s with tch := { s.tch with rfErr := Tbl.inc s.tch.rfErr index } }
      else if x.st = 0 then s
      else
        let count := ofBe ((frame.drop 4).take 2)
        let values := (List.range n).map (fun i => ofBe ((frame.drop (12 + 2 * i)).take 2))
        let flags := ofBe ((frame.drop 8).take 2)
        let line := ofBe ((frame.drop 10).take 2)
        let gap := x.lastCount.elim false (fun c => (c + 1) % 65536 != count)
        let s1 : State := if gap then { s with tch := { s.tch with rfGap := Tbl.inc s.tch.rfGap index } } else s
        let y := if x.st = 4 then x.startup else x
        let z := if type = 1 then { y with self := some values, lastCount := some count }
          else { y with counts := some values, lastCount := some count, reported := if bitOf flags 2 then [lineKey (bitOf line 15) (line % 256)] else [] }
        s1.updTsurf t (fun _ => { z with lastRf := s.core.now }))

/-! ## Commands -/

/-- UNIT is a touch surface. -/
def atSurf (_ : State) (_ : Who) (p : Packet) : Bool := pkIs p 0x60

/-- The surface UNIT names. -/
def pkSurf (p : Packet) : Nat := uIdx (pkUnit p)

/-- Table 12.2 and the scan load of R436. -/
def surfForm (_ : State) (_ : Who) (p : Packet) : Bool :=
  let d := pkF p 0 7 0
  let e := pkF p 0 15 8
  let load := d * e + (if bitOf (pkW p 0) 16 then d + e else 0)
  pkLen p 3 && fld (pkW p 0) 63 39 == 0 && pkF p 0 19 19 == 0 && decide (30 ≤ pkF p 0 27 20) && decide (pkF p 0 27 20 ≤ 240) && (decide (load ≤ 9216) || decide (pkF p 0 27 20 ≤ 120)) &&
    (!bitOf (pkW p 0) 18 || bitOf (pkW p 0) 16) && decide (1 ≤ d) && decide (1 ≤ e) && (if pkSurf p < 2 then decide (d ≤ 72) && decide (e ≤ 128) else true) && decide (d * e ≤ 16384) &&
    decide (1 ≤ pkF p 1 63 48) && decide (1 ≤ pkF p 1 47 32) && decide (1 ≤ pkF p 1 31 16) && decide (2 ≤ pkF p 1 15 0) &&
    fld (pkW p 2) 63 40 == 0 && (pkF p 2 39 36 == 0 || (decide (4 ≤ pkF p 2 39 36) && decide (pkF p 2 39 36 ≤ 12))) && pkF p 2 35 33 == 0 && decide (pkF p 2 31 0 ≤ 86400)

/-- Ends what a surface does for an update or a reset (R437, R42): contacts cancelled, waiting commands refused, STARTUP or OFF. -/
def State.surfUpdate (s : State) (t : Nat) : State :=
  let x := s.tsurf t
  let c := x.cancelAll t s.core.now
  let s1 := (s.updTsurf t (fun _ => c.1)).touchReports t x.frame false c.2
  let s2 := x.handover.foldl (fun a h => a.finishWork h.2.2.2 (Rsp.plain .refusedUnitReset)) s1
  let s3 := x.rebase.elim s2 (fun r => s2.finishWork r.2 (Rsp.plain (if x.st = 3 then .failedUnitReset else .refusedUnitReset)))
  s3.updTsurf t (fun y => { y.startup with st := b2n (bitOf (y.w 0) 28), handover := [], rebase := none, lastCount := none, lastRf := s.core.now })

/-- TOUCH_SURFACE_SET (R437). -/
def cmdTouchSurfaceSet : Cmd :=
  { opcode := 0x0900, forms := .both, secure := false, always := false, form := surfForm, qform := bufForm, unitOk := atSurf, may := pfOnly, active := ownActive, check := noCheck,
    run := fun s _ p =>
      let t := pkSurf p
      let c := (s.tsurf t).cancelAll t s.core.now
      let s0 := (s.updTsurf t (fun _ => c.1)).touchReports t (s.tsurf t).frame false c.2
      let s1 := (s0.updTsurf t (fun x => { x with words := [pkW p 0, pkW p 1, pkW p 2] })).surfUpdate t
      .done (s1.mapCore (fun k => k.bump (uid 0x60 t 0))) (Rsp.plain .served),
    ask := fun s w p => let x := s.tsurf (pkSurf p); s.answerWords w p ((List.range 3).map (fun i => BitVec.ofNat 64 (x.w i))) }

/-- TOUCH_SURFACE_SET. -/
def execTouchSurfaceSet (port : Port) (s : State) : Host.Outcome State Fault Refusal := s.ends (cmdTouchSurfaceSet.exec port s)

/-- A region as the changes that wait leave it. -/
def TSurf.regionNext (x : TSurf) (k : Nat) : Option TRegion := Tbl.find x.applyRegions.regions k

/-- A critical region, in force or about to be. -/
def TSurf.isCritical (x : TSurf) (k : Nat) : Bool := (x.regionNext k).elim false (fun r => r.critical) || (Tbl.find x.regions k).elim false (fun r => r.critical)

/-- TOUCH_REGION_SET (R454). -/
def cmdTouchRegionSet : Cmd :=
  { opcode := 0x0901, forms := .both, secure := false, always := false, form := fun _ _ p => pkLen p 2 && pkF p 0 7 6 == 0 && pkF p 0 15 14 == 0 && fld (pkW p 0) 63 18 == 0, qform := bufForm, unitOk := atSurf,
    may := fun s w p => if pkQuery p then pfOrSec s w p else if bitOf (pkW p 0) 17 || (s.tsurf (pkSurf p)).isCritical (pkF p 0 5 0) then w.secure else pfOnly s w p,
    active := ownActive,
    check := fun s _ p => if bitOf (pkW p 0) 17 && !bitOf (pkW p 0) 16 && !s.mayOwnCritical (pkF p 0 13 8) then some (Rsp.plain .refusedBand) else none,
    run := fun s _ p =>
      let r : TRegion := { owner := pkF p 0 13 8, rect := pkW p 1, critical := bitOf (pkW p 0) 17 }
      .done (s.updTsurf (pkSurf p) (fun x => { x with nextRegions := x.nextRegions ++ [(pkF p 0 5 0, if bitOf (pkW p 0) 16 then none else some r)] })) (Rsp.plain .served),
    ask := fun s w p => s.answerWords w p ((s.tsurf (pkSurf p)).regions.flatMap (fun e => [BitVec.ofNat 64 (e.1 + e.2.owner * 256 + b2n e.2.critical * 2 ^ 17), BitVec.ofNat 64 e.2.rect])) }

/-- TOUCH_REGION_SET. -/
def execTouchRegionSet (port : Port) (s : State) : Host.Outcome State Fault Refusal := s.ends (cmdTouchRegionSet.exec port s)

/-- TOUCH_HANDOVER (R456). -/
def cmdTouchHandover : Cmd :=
  { opcode := 0x0902, forms := .setOnly, secure := false, always := false,
    form := fun s _ p => pkLen p 1 && pkF p 0 7 6 == 0 && pkF p 0 15 14 == 0 && fld (pkW p 0) 63 17 == 0 && Tbl.has (s.tsurf (pkSurf p)).regions (pkF p 0 5 0), qform := bufForm, unitOk := atSurf,
    may := fun s w p =>
      let x := s.tsurf (pkSurf p)
      if x.isCritical (pkF p 0 5 0) then w.secure
      else !w.secure && (w.inst == 0 || (!bitOf (pkW p 0) 16 && (Tbl.find x.regions (pkF p 0 5 0)).elim false (fun r => r.owner == w.inst))),
    active := ownActive,
    check := fun s _ p => if (s.tsurf (pkSurf p)).isCritical (pkF p 0 5 0) && !s.mayOwnCritical (pkF p 0 13 8) then some (Rsp.plain .refusedBand) else none,
    run := fun s _ p =>
      let t := pkSurf p
      let (s1, n) := s.newWork
      let s2 := s1.updTsurf t (fun x => { x with handover := x.handover ++ [(pkF p 0 5 0, pkF p 0 13 8, bitOf (pkW p 0) 16, n)] })
      if (s.tsurf t).st = 0 then .done ((s2.handOver t (pkF p 0 5 0) (pkF p 0 13 8) n).1) (Rsp.plain .served)
      else if bitOf (pkW p 0) 16 then .silent s2 (.work n) else .delayed s2 (Rsp.plain .delayedUnitBusy) (.work n) true,
    ask := noAsk }

/-- TOUCH_HANDOVER. -/
def execTouchHandover (port : Port) (s : State) : Host.Outcome State Fault Refusal := s.ends (cmdTouchHandover.exec port s)

/-- TOUCH_SUBSCRIBE (R451): one ring of a slice per surface. -/
def cmdTouchSubscribe : Cmd :=
  { opcode := 0x0903, forms := .both, secure := false, always := false,
    form := fun _ _ p => pkLen p 3 && ringSizeOk (pkF p 1 4 0) && pkF p 1 7 5 == 0 && fld (pkW p 1) 63 16 == 0, qform := bufForm, unitOk := atSurf, may := fun _ w _ => !w.secure, active := ownActive, check := noCheck,
    run := fun s w p =>
      let r : TRing := { base := pkW p 0, log2 := pkF p 1 4 0, vector := pkF p 1 15 8, head := pkW p 2, pos := { next := 0, phase := true }, lost := 0 }
      .done (s.updTsurf (pkSurf p) (fun x => { x with rings := Tbl.put x.rings (sliceKey w.inst w.slice) r })) (Rsp.plain .served),
    ask := fun s w p => s.answerWords w p ((Tbl.find (s.tsurf (pkSurf p)).rings (sliceKey w.inst w.slice)).elim [] (fun r => [BitVec.ofNat 64 r.base, BitVec.ofNat 64 (r.log2 + r.vector * 256), BitVec.ofNat 64 r.head])) }

/-- TOUCH_SUBSCRIBE. -/
def execTouchSubscribe (port : Port) (s : State) : Host.Outcome State Fault Refusal := s.ends (cmdTouchSubscribe.exec port s)

/-- TOUCH_REBASE (R457). -/
def cmdTouchRebase : Cmd :=
  { opcode := 0x0904, forms := .setOnly, secure := false, always := false, form := fun _ _ p => pkLen p 1 && fld (pkW p 0) 63 1 == 0, qform := bufForm, unitOk := atSurf, may := pfOrSec, active := ownActive,
    check := fun s w p =>
      let x := s.tsurf (pkSurf p)
      if bitOf (pkW p 0) 0 && !w.secure && x.contacts.any (fun c => decide (c.region < 64) && (Tbl.find x.regions c.region).elim false (fun r => r.critical)) then some (Rsp.plain .refusedLocked) else none,
    run := fun s _ p =>
      let t := pkSurf p
      let x := s.tsurf t
      if x.rebase.isSome then .delayed s (Rsp.plain .delayedUnitBusy) (.unit (uKey (pkUnit p))) false
      else
        let (s1, n) := s.newWork
        let s2 := s1.updTsurf t (fun y => if bitOf (pkW p 0) 0 || !(y.contacts.isEmpty && y.st == 2) then { y with rebase := some (bitOf (pkW p 0) 0, n) } else { y.beginRebase with rebase := some (false, n) })
        if bitOf (pkW p 0) 0 || (x.contacts.isEmpty && x.st == 2) then .silent s2 (.work n) else .delayed s2 (Rsp.plain .delayedUnitBusy) (.work n) true,
    ask := noAsk }

/-- TOUCH_REBASE. -/
def execTouchRebase (port : Port) (s : State) : Host.Outcome State Fault Refusal := s.ends (cmdTouchRebase.exec port s)

/-- TCH_STATUS[t] (Table 12.8). -/
def TSurf.status (x : TSurf) : Nat :=
  x.st * 2 ^ 29 + b2n (x.st != 0 && !x.small) * 2 ^ 28 + min x.contacts.length 31 * 2 ^ 23 + x.suspect.length % 2 ^ 14 * 512 + min x.faulty.length 31 * 16

/-- TOUCH_STATUS (R458): the PF and subscribed instances. -/
def cmdTouchStatus : Cmd :=
  { opcode := 0x0905, forms := .queryOnly, secure := false, always := false, form := fun _ _ p => pkLen p 0, qform := fun _ _ p => pkLen p 0, unitOk := atSurf,
    may := fun s w p => !w.secure && (w.inst == 0 || (s.tsurf (pkSurf p)).rings.any (fun e => e.1 / 256 == w.inst)), active := ownActive, check := noCheck, run := noRun,
    ask := fun s _ p => (s, Rsp.ok (s.tsurf (pkSurf p)).status (s.tsurf (pkSurf p)).frame (Tbl.cnt s.tch.anomaly (pkSurf p))) }

/-- TOUCH_STATUS. -/
def execTouchStatus (port : Port) (s : State) : Host.Outcome State Fault Refusal := s.ends (cmdTouchStatus.exec port s)

end Sys2Proof.Machine
end

