-- ==== Sys2Proof/Machine/Audio.lean ====
section
/-! DEFINITION. Chapter 14: source ports, buses, sinks, the 8-sample block, ducking, the headset jack (R472 to R493). -/

namespace Sys2Proof.Machine

/-! ## Arithmetic -/

/-- The root of the gain scale: 2,000 steps of 0.01 dB make a factor of 10. -/
def romPow : Nat := 2000

/-- The gain ROM (R480): round(2^24 × 10^(G / 2,000)), found bit by bit without rounding error; 0 for −12,000. -/
def gainRom (g : Int) : Nat :=
  if g ≤ -12000 then 0
  else (List.range 28).foldl (fun a i =>
    let b := a + 2 ^ (27 - i)
    if (2 * b - 1) ^ romPow * (if g < 0 then 10 ^ (-g).toNat else 1) ≤ 2 ^ (25 * romPow) * (if g < 0 then 1 else 10 ^ g.toNat) then b else a) 0

/-- The terms of the sine series in units of 2^-100, summed. -/
def sinSum (x2 : Int) : Nat → Int → Int → Int → Int
  | 0, _, _, acc => acc
  | f + 1, m, t, acc =>
    let t1 := -(t * x2 / 2 ^ 100) / (m * (m + 1))
    sinSum x2 f (m + 2) t1 (acc + t1)

/-- The sine ROM (R483): round(2^24 × sin(π i / 2,048)), with π to 100 fractional bits. -/
def sineRom (i : Nat) : Int :=
  let x : Int := 3982441812995697363688351113952 * (i : Int) / 2048
  (sinSum (x * x / 2 ^ 100) 25 2 x x * 2 ^ 24 + 2 ^ 99) / 2 ^ 100

/-- A sum of products brought back to 32 bits (R480); true where it saturates. -/
def saturate (acc : Int) : Int × Bool :=
  let v := (acc + 2 ^ 23) / 2 ^ 24
  if v > 2 ^ 31 - 1 then (2 ^ 31 - 1, true) else if v < -(2 ^ 31) then (-(2 ^ 31), true) else (v, false)

/-- A sample reduced to n bits (R485). -/
def reduceTo (n : Nat) (v : Int) : Int := min (2 ^ 31 - 1) (v + 2 ^ (31 - n)) / 2 ^ (32 - n)

/-- The gain of a ramp i samples on (R481). -/
def Ramp.at (r : Ramp) (i : Nat) : Int := if r.n + i < r.total then r.g0 + ((r.g1 - r.g0) * ((r.n + i : Nat) : Int)).tdiv (r.total : Int) else r.g1

/-- A ramp that has arrived. -/
def Ramp.still (g : Int) : Ramp := { g0 := g, g1 := g, n := 0, total := 0 }

/-- A ramp after a block. -/
def Ramp.step (r : Ramp) : Ramp := if r.n + 8 < r.total then { r with n := r.n + 8 } else Ramp.still r.g1

/-- A fresh ramp to a gain from the gain of the sample it replaces (R481). -/
def Ramp.to (r : Ramp) (g : Int) (total : Nat) : Ramp := if r.g1 = g then r else { g0 := r.at 0, g1 := g, n := 0, total := total }

/-- Two signals crossing at equal power (R483). -/
def crossAt (n total : Nat) (old new : Int) : Int :=
  let i := 1024 * n / total
  (old * sineRom (1024 - i) + new * sineRom i + 2 ^ 23) / 2 ^ 24

/-- A sample of a block. -/
def sampleAt (fs : List (List Int)) (n c : Nat) : Int := (fs.getD n []).getD c 0

/-- A signed 16-bit field. -/
def s16 (v : Nat) : Int := sxt 16 v

/-- Milliseconds, 0 for 10. -/
def msOr10 (v : Nat) : Nat := if v = 0 then 10 else v

/-! ## Rates, ports -/

/-- The DT of an internal sample (R473); at 44.1 kHz the clock is not aligned to device time and gives none. -/
def Aud.sampleDt (a : Aud) (k : Nat) : Option Nat := if a.mode = 1 then none else if a.mode = 3 then some (k * 31250 / 3) else some (k * 62500 / 3)

/-- The number of the first block after an instant. -/
def Aud.kAfter (a : Aud) (now : Nat) : Nat := if a.mode = 1 then 0 else 8 * ((now * (a.rate / 1000) / 1000000 + 8) / 8)

/-- A stream that feeds a source port: its receiver (Table 11.3). -/
def State.streamOf (s : State) (p : Nat) : Option Recv :=
  (s.ing.recvs.find? (fun e => e.2.st != 0 && fld (e.2.words.getD 0 0) 1 0 == 2 && fld (e.2.words.getD 4 0) 21 16 == p)).map Prod.snd

/-- TDM port i is a slave. -/
def Aud.tdmSlave (a : Aud) (i : Nat) : Bool := !bitOf (Tbl.cnt a.tdm i) 0

/-- What an open source port is: owner, band, channels, rate. -/
structure SrcInfo where
  owner : Nat
  band : Nat
  channels : Nat
  rate : Nat
  deriving DecidableEq, Repr

/-- The rate a port without a ring has by itself. -/
def Aud.portRate (a : Aud) (p : Nat) : Nat := if p = 40 ∨ p = 41 then (if a.tdmSlave (p - 40) then fld (Tbl.cnt a.tdm (p - 40)) 33 16 else 48000) else a.rate

/-- An open source port. -/
def State.srcInfo (s : State) (p : Nat) : Option SrcInfo :=
  if 24 ≤ p ∧ p < 40 then
    (s.streamOf p).map (fun r => let w := r.words.getD 4 0; { owner := r.owner.getD 0, band := fld (r.words.getD 0 0) 5 4, channels := fld w 7 0, rate := if bitOf w 8 then 96000 else 48000 })
  else
    match Tbl.find s.aud.srcs p with
    | some x => if x.st = 0 then none else some { owner := x.owner, band := fld x.w0 41 40, channels := fld x.w0 4 0, rate := if p < 24 then fld x.w0 33 16 else s.aud.portRate p }
    | none => none

/-- A source that passes a converter (R476, R489). -/
def State.converted (s : State) (p : Nat) : Bool :=
  s.aud.mode == 0 && (match s.srcInfo p with
    | some i => i.rate != 48000 || (decide (24 ≤ p) && decide (p < 40)) || ((p == 40 || p == 41) && s.aud.tdmSlave (p - 40))
    | none => false)

/-- A source port as it opens. -/
def ASrc.fresh (owner slice w0 w1 w2 : Nat) : ASrc :=
  { st := 1, owner := owner, slice := slice, w0 := w0, w1 := w1, w2 := w2, read := 0, ahead := none, hist := [], last := [], dip := 0 }

/-- A bus never set. -/
def ABus.fresh : ABus := { owner := none, w0 := 0, set := false, inputs := [], next := none, duck := Ramp.still 0, ducking := false, lastActive := 0, out := [], dip := 0 }

/-- A sink never set. -/
def ASink.fresh : ASink :=
  { owner := none, words := [], slice := 0, inst := 0, next := none, gain := Ramp.still (-12000), old := none, xn := 0, xtotal := 0, write := 0, out := [], muted := true, dip := 0 }

/-- A bus. -/
def State.abus (s : State) (b : Nat) : ABus := Tbl.at s.aud.buses ABus.fresh b

/-- A sink. -/
def State.asink (s : State) (k : Nat) : ASink := Tbl.at s.aud.sinks ASink.fresh k

/-- Changes a source. -/
def State.updSrc (s : State) (p : Nat) (f : ASrc → ASrc) : State := { s with aud := { s.aud with srcs := Tbl.upd s.aud.srcs p f } }

/-- Changes a bus. -/
def State.updBus (s : State) (b : Nat) (f : ABus → ABus) : State := { s with aud := { s.aud with buses := Tbl.put s.aud.buses b (f (s.abus b)) } }

/-- Changes a sink. -/
def State.updSink (s : State) (k : Nat) (f : ASink → ASink) : State := { s with aud := { s.aud with sinks := Tbl.put s.aud.sinks k (f (s.asink k)) } }

/-- Starts the fade out and in of R477 on a unit that UNIT_RESET names (Table 1.13). -/
def State.audReset (s : State) (u : Nat) : State :=
  let i := uIdx u
  match uCls u with
  | 0x70 => s.updSrc i (fun x => { x with dip := 2 })
  | 0x71 => s.updSink i (fun x => { x with dip := 2 })
  | 0x72 => s.updBus i (fun x => { x with dip := 2 })
  | 0x73 => s.updSink 10 (fun x => { x with dip := 2 })
  | _ => (s.updSrc (40 + i) (fun x => { x with dip := 2 })).updSink (8 + i) (fun x => { x with dip := 2 })

/-- Scales a block for a fade: 2 out, 1 in, 0 none. -/
def fadeBlock (dip : Nat) (fs : List (List Int)) : List (List Int) :=
  if dip = 0 then fs else (List.range 8).map (fun n => (fs.getD n []).map (fun v => (v * (if dip = 2 then 7 - (n : Int) else (n : Int) + 1)).tdiv 8))

/-- The block of a source without samples: its last frame fades linearly to zero (R477). -/
def fadeOut (last : List Int) : List (List Int) := (List.range 8).map (fun n => last.map (fun v => (v * (7 - (n : Int))).tdiv 8))

/-! ## Host rings -/

/-- Reads n bytes of a ring from an offset. -/
def State.ringRead (s : State) (inst slice base size off n : Nat) : State × Option (List Byte) :=
  match Tbl.find s.core.slices (sliceKey inst slice) with
  | none => (s, none)
  | some sl =>
    let n1 := min n (size - off)
    let read (c : Core) (a m : Nat) : Core × Option (List Byte) :=
      match Core.dmaRead inst sl m c a with
      | (c1, .ok bs) => (c1, some bs)
      | (c1, .error f) => (c1.dtuFault inst slice f.1 f.2 false, none)
    let (c1, a) := read s.core (base + off) n1
    let (c2, b) := read c1 base (n - n1)
    ({ s with core := c2 }, a.bind (fun x => b.map (fun y => x ++ y)))

/-- Writes bytes to a ring at an offset. -/
def State.ringWrite (s : State) (inst slice base size off : Nat) (bs : List Byte) : State :=
  match Tbl.find s.core.slices (sliceKey inst slice) with
  | none => s
  | some sl =>
    let put (c : Core) (a : Nat) (v : List Byte) : Core :=
      match Core.dmaWrite inst sl v c a with
      | (c1, none) => c1
      | (c1, some f) => c1.dtuFault inst slice f.1 f.2 true
    { s with core := put (put s.core (base + off) (bs.take (size - off))) base (bs.drop (size - off)) }

/-- Bytes of a sample of a width code. -/
def widthBytes (w : Nat) : Nat := if w = 0 then 2 else 4

/-- A sample from its bytes (R475). -/
def sampleIn (w : Nat) (bs : List Byte) : Int :=
  let v := ofLe bs
  if w = 0 then s16 v * 65536 else if w = 1 then sxt 32 (v - v % 256) else sxt 32 v

/-- Cuts samples into frames of ch channels, n frames. -/
def framesOf (ch : Nat) : Nat → List Int → List (List Int)
  | 0, _ => []
  | n + 1, l => l.take ch :: framesOf ch n (l.drop ch)

/-- Samples from bytes. -/
def samplesIn (w : Nat) : Nat → List Byte → List Int
  | 0, _ => []
  | n + 1, bs => sampleIn w (bs.take (widthBytes w)) :: samplesIn w n (bs.drop (widthBytes w))

/-- Input frames that a block from internal sample k takes at a rate: pulled at exactly RATE_HZ (R476). -/
def Aud.need (a : Aud) (rate k : Nat) : Nat := (k + 8) * rate / a.rate - k * rate / a.rate

/-- Fetches the frames of the next block from a playback ring: none where READ would reach WRITE (R475, R477). -/
def State.fetchAhead (s : State) (p : Nat) (x : ASrc) : State × Option (List (List Int)) :=
  let size := 2 ^ fld x.w0 52 48
  let ch := fld x.w0 4 0
  let n := s.aud.need (fld x.w0 33 16) (s.aud.k + 8)
  let bytes := n * ch * widthBytes (fld x.w0 9 8)
  match s.ringRead x.owner x.slice x.w2 4 0 4 with
  | (s1, none) => (s1, none)
  | (s1, some wr) =>
    if (ofLe wr % size + size - x.read) % size < bytes then (s1, none)
    else
      match s1.ringRead x.owner x.slice x.w1 size x.read bytes with
      | (s2, none) => (s2, none)
      | (s2, some bs) =>
        let rd := (x.read + bytes) % size
        let s3 := (s2.ringWrite x.owner x.slice x.w2 8 4 (le 4 rd)).updSrc p (fun y => { y with read := rd })
        (s3, some (framesOf ch n (samplesIn (fld x.w0 9 8) (n * ch) bs)))

/-! ## A block -/

/-- What the outside delivers in a block: samples of TDM inputs (none: frame sync lost), the microphone, ports that slip (true repeats, false drops a sample). -/
structure AudIn where
  tdm0 : Option (List Int)
  tdm1 : Option (List Int)
  mic : List Int
  slips : List (Nat × Bool)
  deriving DecidableEq, Repr

/-- Entries up to the first number left out. -/
def unbroken : List (Nat × List Nat) → List (Nat × List Nat)
  | [] => []
  | a :: r =>
    match r with
    | [] => [a]
    | b :: _ => if b.1 ≤ a.1 + 1 then a :: unbroken r else [a]

/-- Takes frames of a stream receiver's samples (24 or 16 bits left-justified), in the order of their packets; a number that is waited for holds those behind it back (R422). -/
def State.takeStream (s : State) (p n ch : Nat) : State × Option (List (List Int)) :=
  match s.ing.recvs.find? (fun e => e.2.st != 0 && fld (e.2.words.getD 0 0) 1 0 == 2 && fld (e.2.words.getD 4 0) 21 16 == p) with
  | none => (s, none)
  | some (r, x) =>
    let shift := if bitOf (x.words.getD 4 0) 9 then 2 ^ 8 else 2 ^ 16
    let ready := if x.waitSince.isSome then unbroken x.audio else x.audio
    let all := ready.flatMap Prod.snd
    if x.st ≠ 2 ∨ all.length < n * ch then (s, none)
    else (s.updRecv r (fun y => { y with audio := ((ready.getLast?.map Prod.fst).getD 0, all.drop (n * ch)) :: x.audio.drop ready.length }), some (framesOf ch n ((all.take (n * ch)).map (fun v => sxt 32 (v * shift)))))

/-- The frames a source has for this block at its own rate: none where it lacks samples. -/
def State.srcInput (s : State) (inp : AudIn) (p : Nat) (x : ASrc) (info : SrcInfo) : State × Option (List (List Int)) :=
  let slip := (inp.slips.find? (fun e => e.1 == p)).map Prod.snd
  let n := s.aud.need info.rate s.aud.k
  let take := match slip with | some true => n - 1 | some false => n + 1 | none => n
  let fix (fs : List (List Int)) : List (List Int) := match slip with | some true => fs ++ [fs.getLastD []] | some false => fs.take n | none => fs
  if p < 24 then (s, x.ahead)
  else if p < 40 then let r := s.takeStream p take info.channels; (r.1, r.2.map fix)
  else if p < 42 then (s, ((if p = 40 then inp.tdm0 else inp.tdm1).map (fun l => fix (framesOf 16 take l))))
  else if p = 42 then (s, some (if (s.aud.jack = 4 ∨ s.aud.jack = 5) ∧ !s.aud.pressed then framesOf 1 8 inp.mic else (List.range 8).map (fun _ => [0])))
  else (s, some (s.abus (fld x.w0 59 56)).out)

/-- The block of one source (R475 to R478): its samples, converted where it is; a fade out where they lack, a fade in when they return. -/
def State.srcBlock (s0 : State) (inp : AudIn) (p : Nat) : State × List (List Int) :=
  let s := match Tbl.find s0.aud.srcs p, s0.streamOf p with
    | none, some r => if 24 ≤ p ∧ p < 40 then { s0 with aud := { s0.aud with srcs := Tbl.put s0.aud.srcs p (ASrc.fresh (r.owner.getD 0) 0 0 0 0) } } else s0
    | _, _ => s0
  match Tbl.find s.aud.srcs p with
  | none => (s, [])
  | some x =>
    match s.srcInfo p with
    | none => ({ s with aud := { s.aud with srcs := Tbl.del s.aud.srcs p } }, fadeOut x.last)
    | some info =>
      let (s1, got) := s.srcInput inp p x info
      let (s2, next) := if p < 24 then s1.fetchAhead p x else (s1, none)
      let a := s2.aud
      let hist := (x.hist ++ got.getD []).reverse.take 64 |>.reverse
      let block := got.map (fun fs =>
        if s.converted p then (List.range 8).map (fun n => (List.range info.channels).map (fun c => (Config.asrc info.rate a.rate (a.k + n) (hist.map (fun f => f.getD c 0))).toInt))
        else (List.range 8).map (fun n => fs.getD n []))
      let out := fadeBlock x.dip (match block with
        | some b => if x.st = 3 then fadeBlock 1 b else b
        | none => if x.st = 1 ∧ p < 24 then [] else fadeOut x.last)
      let has := if p < 24 ∧ x.st = 1 then next.isSome else got.isSome
      let st := if has then 2 else if x.st = 1 ∧ 24 ≤ p then 1 else 3
      let starved := st == 3 && x.st != 3
      let a1 : Aud := { s2.aud with starve := (if starved then Tbl.inc a.starve p else a.starve), slip := (if inp.slips.any (fun e => e.1 == p) && a.mode != 0 then Tbl.inc a.slip p else a.slip) }
      ({ s2 with aud := a1 }.updSrc p (fun y => { y with st := st, ahead := next, hist := hist, last := (if got.isSome then out.getD 7 [] else []), dip := y.dip - 1 }), out)

/-- The blocks of every source, by port. -/
def State.srcBlocks (s : State) (inp : AudIn) : State × Tbl (List (List Int)) :=
  (List.range 48).foldl (fun a p => let r := a.1.srcBlock inp p; (r.1, if r.2.isEmpty then a.2 else Tbl.put a.2 p r.2)) (s, [])

/-- ENABLE, BUS_CH, SRC_CH, SRC, GAIN and RAMP of an input word (Table 14.3). -/
def inEnable (w : Nat) : Bool := bitOf w 15

/-- SRC. -/
def inSrc (w : Nat) : Nat := fld w 5 0

/-- SRC_CH. -/
def inCh (w : Nat) : Nat := fld w 11 6

/-- GAIN. -/
def inGain (w : Nat) : Int := s16 (fld w 31 16)

/-- The inputs of a new set against those in force (R481, R483): a gain change ramps, a new source crosses. -/
def newInputs (rate xfadeMs : Nat) (old : List AIn) (ws : List Nat) : List AIn :=
  (List.range ws.length).map (fun k =>
    let w := ws.getD k 0
    match old[k]? with
    | none => { word := w, gain := Ramp.still (inGain w), old := none, xn := 0, xtotal := 0 }
    | some o =>
      let g := o.gain.to (inGain w) (msOr10 (fld w 42 32) * rate / 1000)
      if w % 4096 = o.word % 4096 then { o with word := w, gain := g }
      else { word := w, gain := g, old := some (o.word % 4096, o.gain.at 0), xn := 0, xtotal := xfadeMs * rate / 1000 })

/-- The duck term under a new word 0 (R482, R484): one that is held goes to the new depth, or back to 0 where ducking is disabled. -/
def ABus.reduck (x : ABus) (rate w0 : Nat) : ABus :=
  if !x.ducking then x
  else if fld w0 19 14 = 0 then { x with ducking := false, duck := x.duck.to 0 (fld w0 41 31 * rate / 1000) }
  else { x with duck := x.duck.to (-100 * (fld w0 19 14 : Int)) (fld w0 30 20 * rate / 1000) }

/-- Puts a bus's waiting set into force. -/
def State.swapBus (s : State) (b : Nat) : State :=
  let x := s.abus b
  match x.next with
  | some n =>
    if !n.due then s
    else
      let w0 := n.words.getD 0 0
      (s.updBus b (fun y => { y.reduck s.aud.rate w0 with next := none, set := true, w0 := w0, inputs := newInputs s.aud.rate (msOr10 (fld w0 52 42)) y.inputs (n.words.drop 1) })).finishWork n.work (Rsp.ok (s.aud.k % 2 ^ 32) 0 0)
  | none => s

/-- The gain a sink's set asks for, at most HP_LIMIT on the headset (R492). -/
def State.sinkGain (s : State) (k : Nat) (w0 : Nat) : Int × Bool :=
  let g := s16 (fld w0 31 16)
  if k = 10 ∧ s16 s.aud.hpLimit < g then (s16 s.aud.hpLimit, true) else (g, false)

/-- Puts a sink's waiting set into force (R482, R483, R492). -/
def State.swapSink (s : State) (k : Nat) : State :=
  let x := s.asink k
  match x.next with
  | some n =>
    if !n.due then s
    else
      let w0 := n.words.getD 0 0
      let (g, cut) := s.sinkGain k w0
      let total := msOr10 (fld w0 42 32) * s.aud.rate / 1000
      let o0 := x.words.getD 0 0
      let route := !x.words.isEmpty && (fld o0 3 0 != fld w0 3 0 || x.words.getD 1 0 != n.words.getD 1 0)
      (s.updSink k (fun y =>
        { y with next := none, words := n.words, inst := n.key / 256, slice := n.key % 256,
                 gain := (if x.words.isEmpty then Ramp.still g else y.gain.to g total), muted := (if x.words.isEmpty then false else y.muted),
                 write := (if x.words.drop 2 = n.words.drop 2 then y.write else 0),
                 old := (if route then some (fld o0 3 0, x.words.getD 1 0, y.gain.at 0) else y.old), xn := (if route then 0 else y.xn), xtotal := (if route then total else y.xtotal) })).finishWork n.work
        (Rsp.ok (s.aud.k % 2 ^ 32) (b2n cut * 2) 0)
  | none => s

/-- The sets that are due swap at a block boundary; AUD_APPLY ends there too (R482). -/
def State.swapSets (s : State) : State :=
  let s1 := (List.range 16).foldl State.swapBus s
  let s2 := (List.range 32).foldl State.swapSink s1
  let s3 := s2.aud.applies.foldl (fun a n => a.finishWork n (Rsp.ok (s.aud.k % 2 ^ 32) 0 0)) s2
  { s3 with aud := { s3.aud with applies := [] } }

/-- The gain of an input's signal with the duck term (R484): band A is never ducked, mute stays mute. -/
def ducked (bandA : Bool) (g d : Int) : Int := if g = -12000 ∨ bandA then g else max (-12000) (g + d)

/-- The contribution of an input at sample n of a block, in units of 2^-24. -/
def State.inputAt (s : State) (blocks : Tbl (List (List Int))) (duck : Ramp) (i : AIn) (n : Nat) : Int :=
  let isA (p : Nat) : Bool := (s.srcInfo p).elim false (fun q => q.band == 0)
  let sig (w : Nat) (g : Int) : Int := sampleAt (Tbl.at blocks [] (inSrc w)) n (inCh w) * (gainRom (ducked (isA (inSrc w)) g (duck.at n)) : Int)
  let new := sig i.word (i.gain.at n)
  match i.old with
  | some (w, g) => if i.xn + n < i.xtotal then crossAt (i.xn + n) i.xtotal (sig w g) new else new
  | none => new

/-- True where a band A input is active in a block (R484). -/
def State.bandActive (s : State) (blocks : Tbl (List (List Int))) (i : AIn) : Bool :=
  inEnable i.word && (s.srcInfo (inSrc i.word)).elim false (fun q => q.band == 0) && (Tbl.find s.aud.srcs (inSrc i.word)).elim false (fun x => x.st == 2) &&
    (List.range 8).any (fun n => decide (2147484 < (sampleAt (Tbl.at blocks [] (inSrc i.word)) n (inCh i.word)).natAbs))

/-- The 200 ms hold of a bus has ended: the duck term ramps back to 0 (R484). -/
def ABus.release (x : ABus) (a : Aud) : ABus :=
  if x.ducking && decide (x.lastActive + a.rate / 5 ≤ a.k) then { x with ducking := false, duck := x.duck.to 0 (fld x.w0 41 31 * a.rate / 1000) } else x

/-- Mixes one bus (R480, R484). -/
def State.mixBus (s : State) (blocks : Tbl (List (List Int))) (b : Nat) : State :=
  let x := (s.abus b).release s.aud
  if !x.set then s
  else
    let live := x.inputs.filter (fun i => inEnable i.word)
    let rows := (List.range 8).map (fun n => (List.range (fld x.w0 2 0 + 1)).map (fun c => saturate (((live.filter (fun i => fld i.word 14 12 == c)).map (fun i => s.inputAt blocks x.duck i n)).foldl (· + ·) 0)))
    let sats := (rows.filter (fun r => r.any Prod.snd)).length
    let active := decide (fld x.w0 19 14 ≠ 0) && x.inputs.any (s.bandActive blocks)
    let d := x.duck.step
    let s1 := s.updBus b (fun _ =>
      { x with out := fadeBlock x.dip (rows.map (fun r => r.map Prod.fst)), dip := x.dip - 1,
               inputs := x.inputs.map (fun i => { i with gain := i.gain.step, xn := i.xn + 8, old := if i.xn + 8 < i.xtotal then i.old else none }),
               ducking := x.ducking || active, lastActive := (if active then s.aud.k + 8 else x.lastActive),
               duck := if active && !x.ducking then d.to (-100 * (fld x.w0 19 14 : Int)) (fld x.w0 30 20 * s.aud.rate / 1000) else d })
    { s1 with aud := { s1.aud with sat := Tbl.addTo s1.aud.sat b sats } }

/-- True where a sink can deliver now (R486, R490). -/
def State.sinkUp (s : State) (k : Nat) : Bool := if k < 8 then (s.out k).elim false (fun o => o.link == 2) else if k = 10 then decide (3 ≤ s.aud.jack) else true

/-- Writes a captured block to a host ring; without room it is dropped and counted (R485). -/
def State.capture (s : State) (k : Nat) (x : ASink) (rows : List (List Int)) : State :=
  let w0 := x.words.getD 0 0
  let size := 2 ^ fld w0 52 48
  let one (v : Int) : List Byte := if bitOf w0 8 then le 4 (enc 32 (v * 256)) else le 2 (enc 16 v)
  let bs := rows.flatMap (fun r => r.flatMap one)
  match s.ringRead x.inst x.slice (x.words.getD 3 0) 8 4 4 with
  | (s1, none) => { s1 with aud := { s1.aud with sinkDrop := Tbl.inc s1.aud.sinkDrop k } }
  | (s1, some rd) =>
    if size ≤ (x.write + size - ofLe rd % size) % size + bs.length then { s1 with aud := { s1.aud with sinkDrop := Tbl.inc s1.aud.sinkDrop k } }
    else
      let wr := (x.write + bs.length) % size
      ((s1.ringWrite x.inst x.slice (x.words.getD 2 0) size x.write bs).ringWrite x.inst x.slice (x.words.getD 3 0) 8 0 (le 4 wr)).updSink k (fun y => { y with write := wr })

/-- Delivers a block to one sink (R485, R486). -/
def State.feedSink (s : State) (k : Nat) : State :=
  let x0 := s.asink k
  if x0.words.isEmpty then s
  else if !s.sinkUp k then
    let s1 := s.updSink k (fun y => { y with muted := true, out := [] })
    if k < 8 then { s1 with aud := { s1.aud with sinkDrop := Tbl.inc s1.aud.sinkDrop k } } else s1
  else
    let w0 := x0.words.getD 0 0
    let back : Ramp := { g0 := -12000, g1 := x0.gain.g1, n := 0, total := s.aud.rate / 100 }
    let x := if x0.muted then { x0 with muted := false, gain := back } else x0
    let sig (bus map n c : Nat) (g : Int) : Int := sampleAt (s.abus bus).out n ((map / 16 ^ c) % 16) * (gainRom g : Int)
    let at_ (n c : Nat) : Int × Bool :=
      let new := sig (fld w0 3 0) (x.words.getD 1 0) n c (x.gain.at n)
      saturate (match x.old with
        | some (b, m, g) => if x.xn + n < x.xtotal then crossAt (x.xn + n) x.xtotal (sig b m n c g) new else new
        | none => new)
    let rows := (List.range 8).map (fun n => (List.range (fld w0 6 4 + 1)).map (fun c => at_ n c))
    let sats := (rows.filter (fun r => r.any Prod.snd)).length
    let full := fadeBlock x.dip (rows.map (fun r => r.map Prod.fst))
    let slave := (k == 8 || k == 9) && s.aud.mode == 0 && s.aud.tdmSlave (k - 8)
    let conv := if slave then (List.range 8).map (fun n => (List.range (fld w0 6 4 + 1)).map (fun c => (Config.asrc s.aud.rate (fld (Tbl.cnt s.aud.tdm (k - 8)) 33 16) (s.aud.k + n) (full.map (fun f => f.getD c 0))).toInt)) else full
    let out := conv.map (fun r => r.map (reduceTo (if bitOf w0 8 then 24 else 16)))
    let s1 := s.updSink k (fun _ => { x with gain := x.gain.step, xn := x.xn + 8, old := (if x.xn + 8 < x.xtotal then x.old else none), out := out, dip := x.dip - 1 })
    let s2 : State := { s1 with aud := { s1.aud with sinkSat := Tbl.addTo s1.aud.sinkSat k sats } }
    if 11 ≤ k then s2.capture k (s2.asink k) out else s2

/-- AUDIO_BLOCK (R473): 8 internal samples, when their first has come in device time and W_SENSE is on. -/
def execAudioBlock (tdm0 tdm1 : Option (List Int)) (mic : List Int) (slips : List (Nat × Bool)) (s : State) : Host.Outcome State Fault Refusal :=
  s.ends (
    if !s.isActive (uid 0x73 0 0) ∨ (s.aud.sampleDt s.aud.k).elim false (fun t => decide (s.core.now < t)) then s
    else
      let (s1, blocks) := s.swapSets.srcBlocks { tdm0 := tdm0, tdm1 := tdm1, mic := mic, slips := slips }
      let s2 := (List.range 16).foldl (fun a b => a.mixBus blocks b) s1
      let s3 := (List.range 32).foldl State.feedSink s2
      { s3 with aud := { s3.aud with k := s3.aud.k + 8 } })

/-- DUCK_HOLD_EXPIRE (R484). -/
def execDuckHoldExpire (bus : Nat) (s : State) : Host.Outcome State Fault Refusal := s.ends (if Tbl.has s.aud.buses bus then s.updBus bus (fun x => x.release s.aud) else s)

/-! ## The headset jack -/

/-- JACK_EVENT to slice 0 of the codec's owner (R493): 1 inserted, 2 removed, 3 pressed, 4 released. -/
def State.jackEvent (s : State) (kind : Nat) : State :=
  s.mapCore (fun c => c.faultRec s.aud.hsOwner 0 0x0030 0 (uid 0x73 0 0) (kind + s.aud.jack * 16 + s.aud.button * 256))

/-- The HEADSET event of an insertion or removal (Table 14.6). -/
def State.jackJournal (s : State) : State := s.mapCore (fun c => c.event 0xFE80 s.aud.hsOwner (uid 0x73 0 0) s.aud.jack (le 2 s.aud.load ++ le 2 s.aud.micMv))

/-- HS_DET_CHANGE (R490). -/
def execHsDetChange (closed : Bool) (s : State) : Host.Outcome State Fault Refusal :=
  s.ends (
    if s.aud.plugged = closed then s
    else if closed then
      (if s.aud.jack = 0 then { s with aud := { s.aud with plugged := true, jack := 1, jackSince := s.core.now } } else { s with aud := { s.aud with plugged := true } })
    else
      let s1 : State := { s with aud := { s.aud with plugged := false, jack := 0, pressed := false, button := 0 } }
      ((s1.updSink 10 (fun x => { x with muted := true, out := [] })).jackEvent 2).jackJournal)

/-- HS_DEBOUNCE_DONE (R490): closed for 50 ms. -/
def execHsDebounceDone (s : State) : Host.Outcome State Fault Refusal :=
  s.ends (if s.aud.jack = 1 ∧ s.aud.jackSince + 50 * 10 ^ 6 ≤ s.core.now then { s with aud := { s.aud with jack := 2, jackSince := s.core.now } } else s)

/-- The jack state that a measurement gives (R490): load in Ω, bias in mV with the microphone on the second ring and on the sleeve. -/
def jackOf (load mvR2 mvSl : Nat) : Nat × Nat :=
  let mic (v : Nat) : Bool := decide (500 ≤ v) && decide (v ≤ 2000)
  if 5000 < load then (6, mvSl) else if mic mvR2 then (4, mvR2) else if mic mvSl then (5, mvSl) else (3, mvSl)

/-- HS_MEASURE_DONE (R490, R493). -/
def execHsMeasureDone (load mvR2 mvSl : Nat) (s : State) : Host.Outcome State Fault Refusal :=
  s.ends (
    if s.aud.jack ≠ 2 then s
    else
      let j := jackOf load mvR2 mvSl
      let s1 : State := { s with aud := { s.aud with jack := j.1, micMv := min j.2 4095, load := min load 4095 } }
      ((s1.updSink 10 (fun x => { x with muted := true })).jackEvent 1).jackJournal)

/-- The button a reading in mV shows (R491): a press of one, a release (4), or nothing in a guard band. -/
def buttonOf (mv : Nat) : Option Nat :=
  if mv ≤ 150 then some 0 else if 200 ≤ mv ∧ mv ≤ 350 then some 1 else if 400 ≤ mv ∧ mv ≤ 600 then some 2 else if 750 ≤ mv ∧ mv ≤ 1050 then some 3 else if 1150 < mv then some 4 else none

/-- HS_BUTTON_CHANGE (R491, R493): a bias reading and how long it has stayed in its range. -/
def execHsButtonChange (mv ms : Nat) (s : State) : Host.Outcome State Fault Refusal :=
  s.ends (
    if (s.aud.jack ≠ 4 ∧ s.aud.jack ≠ 5) ∨ ms < 20 then s
    else
      let s0 : State := { s with aud := { s.aud with micMv := min mv 4095 } }
      let release (t : State) : State := if t.aud.pressed then { t.jackEvent 4 with aud := { t.aud with pressed := false, button := 0 } } else t
      match buttonOf mv with
      | none => s
      | some 4 => release s0
      | some b =>
        if s0.aud.pressed ∧ s0.aud.button = b then s0
        else
          let s1 := release s0
          { s1 with aud := { s1.aud with pressed := true, button := b } }.jackEvent 3)

/-! ## Commands -/

/-- True where a source port's owner, or the PF, issues. -/
def srcMay (s : State) (w : Who) (p : Packet) : Bool := !w.secure && (w.inst == 0 || (s.srcInfo (uIdx (pkUnit p))).elim false (fun i => i.owner == w.inst))

/-- AUD_MODE_SET (R489). -/
def cmdAudModeSet : Cmd :=
  { opcode := 0x0B00, forms := .both, secure := false, always := false, form := fun _ _ p => pkLen p 1 && fld (pkW p 0) 63 2 == 0, qform := bufForm, unitOk := atDevice, may := pfOnly, active := ownActive,
    check := fun s _ _ => ((List.range 48).find? (fun p => (s.srcInfo p).isSome)).map (fun p => Rsp.code .refusedLocked p),
    run := fun s _ p =>
      let a : Aud := { s.aud with mode := pkF p 0 1 0 }
      let s1 : State := { s with aud := { a with k := if a.rate = s.aud.rate then a.k else a.kAfter s.core.now } }
      .done (s1.mapCore (fun c => c.event 0xFE81 0 (uid 0x00 0 0) a.mode [])) (Rsp.plain .served),
    ask := fun s w p => s.answerWords w p [BitVec.ofNat 64 s.aud.mode] }

/-- AUD_MODE_SET. -/
def execAudModeSet (port : Port) (s : State) : Host.Outcome State Fault Refusal := s.ends (cmdAudModeSet.exec port s)

/-- Table of R475. -/
def srcForm (s : State) (_ : Who) (p : Packet) : Bool :=
  let i := uIdx (pkUnit p)
  let ch := pkF p 0 4 0
  pkLen p 3 && pkF p 0 7 5 == 0 && pkF p 0 15 10 == 0 && pkF p 0 39 34 == 0 && pkF p 0 47 42 == 0 && pkF p 0 55 53 == 0 && pkF p 0 63 60 == 0 && decide (1 ≤ ch) && decide (ch ≤ 16) &&
    (if i < 24 then decide (pkF p 0 9 8 ≤ 2) && decide (8000 ≤ pkF p 0 33 16) && decide (pkF p 0 33 16 ≤ 192000) && decide (12 ≤ pkF p 0 52 48) && decide (pkF p 0 52 48 ≤ 20) && multOf (2 ^ pkF p 0 52 48) (pkW p 1)
     else if i = 42 then ch == 1
     else if 43 ≤ i then decide (ch ≤ fld (s.abus (pkF p 0 59 56)).w0 2 0 + 1) else true)

/-- The rate a source would have. -/
def srcRate (s : State) (p : Packet) : Nat := if uIdx (pkUnit p) < 24 then pkF p 0 33 16 else s.aud.portRate (uIdx (pkUnit p))

/-- What opening a source port is refused for (R475, R489). -/
def srcCheck (s : State) (w : Who) (p : Packet) : Option Rsp :=
  if !s.bandIn w.inst (pkF p 0 41 40) || (pkF p 0 41 40 == 0 && !s.authed w) then some (Rsp.plain .refusedBand)
  else if (s.srcInfo (uIdx (pkUnit p))).isSome then some (Rsp.plain .refusedUnitReset)
  else if s.aud.mode != 0 && srcRate s p != s.aud.rate then some (Rsp.code .refusedShare 0x72)
  else none

/-- Opens a source port. -/
def State.openSrc (s : State) (w : Who) (p : Packet) : State :=
  { s with aud := { s.aud with srcs := Tbl.put s.aud.srcs (uIdx (pkUnit p)) (ASrc.fresh w.inst w.slice (pkW p 0) (pkW p 1) (pkW p 2)) } }

/-- AUD_SOURCE_OPEN (R475). -/
def cmdAudSourceOpen : Cmd :=
  { opcode := 0x0B01, forms := .both, secure := false, always := false, form := srcForm, qform := bufForm, unitOk := fun _ _ p => pkIs p 0x70 && (uIdx (pkUnit p) / 8 != 3 && uIdx (pkUnit p) / 8 != 4),
    may := fun s w p => !w.secure && (if pkQuery p then srcMay s w p else (decide (uIdx (pkUnit p) < 40) || decide (43 ≤ uIdx (pkUnit p)) || w.inst == 0)), active := ownActive, check := srcCheck,
    run := fun s w p => .done (s.openSrc w p) (Rsp.plain .served),
    ask := fun s w p => s.answerWords w p ((Tbl.find s.aud.srcs (uIdx (pkUnit p))).elim [] (fun x => [BitVec.ofNat 64 x.w0, BitVec.ofNat 64 x.w1, BitVec.ofNat 64 x.w2])) }

/-- AUD_SOURCE_OPEN. -/
def execAudSourceOpen (port : Port) (s : State) : Host.Outcome State Fault Refusal := s.ends (cmdAudSourceOpen.exec port s)

/-- Closes a source port: it fades out over the next block (R477). -/
def State.closeSrc (s : State) (p : Nat) : State := (s.updSrc p (fun x => { x with st := 0 })).mapCore (fun c => c.bump (uid 0x70 p 0))

/-- AUD_SOURCE_CLOSE (R477); the port of an open stream is closed by STREAM_CLOSE. -/
def cmdAudSourceClose : Cmd :=
  { opcode := 0x0B02, forms := .setOnly, secure := false, always := false, form := fun _ _ p => pkLen p 0, qform := bufForm, unitOk := fun _ _ p => pkIs p 0x70 && (uIdx (pkUnit p) / 8 != 3 && uIdx (pkUnit p) / 8 != 4),
    may := srcMay, active := ownActive, check := noCheck, run := fun s _ p => .done (s.closeSrc (uIdx (pkUnit p))) (Rsp.plain .served), ask := noAsk }

/-- AUD_SOURCE_CLOSE. -/
def execAudSourceClose (port : Port) (s : State) : Host.Outcome State Fault Refusal := s.ends (cmdAudSourceClose.exec port s)

/-- GAIN is in range (Table 14.3). -/
def gainOk (v : Nat) : Bool := decide (-12000 ≤ s16 v) && decide (s16 v ≤ 2400)

/-- Table 14.3. -/
def busForm (_ : State) (_ : Who) (p : Packet) : Bool :=
  let n := pkN p - 1
  decide (3 ≤ p.length.toNat) && decide (n ≤ 64) && fld (pkW p 0) 63 53 == 0 && pkF p 0 13 9 == 0 && pkF p 0 7 3 == 0 && decide (pkF p 0 52 42 ≤ 2000) && decide (1 ≤ pkF p 0 41 31) && decide (pkF p 0 41 31 ≤ 2000) &&
    decide (1 ≤ pkF p 0 30 20) && decide (pkF p 0 30 20 ≤ 2000) && decide (pkF p 0 19 14 ≤ 40) &&
    (List.range n).all (fun k => let w := pkW p (k + 1); fld w 63 43 == 0 && decide (fld w 42 32 ≤ 2000) && gainOk (fld w 31 16) && decide (inSrc w < 48) && decide (fld w 14 12 ≤ pkF p 0 2 0))

/-- The sources a bus set names are owned as R479 asks. -/
def busMay (s : State) (w : Who) (p : Packet) : Bool :=
  let owner := (s.abus (uIdx (pkUnit p))).owner
  !w.secure && (owner == some w.inst || w.inst == 0) &&
    (pkQuery p || (List.range (pkN p - 1)).all (fun k => match s.srcInfo (inSrc (pkW p (k + 1))) with | some i => w.inst == 0 || owner == some i.owner | none => false))

/-- Enabled inputs of a bus, in its waiting set where one waits. -/
def ABus.enabled (x : ABus) : Nat := (match x.next with | some n => n.words.drop 1 | none => x.inputs.map (fun (i : AIn) => i.word)).countP inEnable

/-- Has a set wait for its swap; one that waited before completes SERVED with bit 0 of RESULT1 (R482). -/
def State.replaceSet (s : State) (old : Option ASet) : State := old.elim s (fun o => s.finishWork o.work (Rsp.ok 0 1 0))

/-- AUD_BUS_SET (R479, R482). -/
def cmdAudBusSet : Cmd :=
  { opcode := 0x0B03, forms := .both, secure := false, always := false, form := busForm, qform := bufForm, unitOk := fun _ _ p => pkIs p 0x72, may := busMay, active := ownActive,
    check := fun s _ p =>
      let b := uIdx (pkUnit p)
      let mine := (List.range (pkN p - 1)).countP (fun k => inEnable (pkW p (k + 1)))
      if 512 < mine + sumN ((Tbl.keep s.aud.buses (fun k _ => k != b)).map (fun e => e.2.enabled)) then some (Rsp.code .refusedShare 0x71) else none,
    run := fun s w p =>
      let b := uIdx (pkUnit p)
      let (s1, n) := s.newWork
      let s2 := s1.replaceSet (s.abus b).next
      .silent (s2.updBus b (fun x => { x with next := some { words := (List.range (pkN p)).map (pkW p), work := n, key := sliceKey w.inst w.slice, due := !bitOf (pkW p 0) 8 } })) (.work n),
    ask := fun s w p => let x := s.abus (uIdx (pkUnit p)); s.answerWords w p (if x.set then BitVec.ofNat 64 x.w0 :: x.inputs.map (fun (i : AIn) => BitVec.ofNat 64 i.word) else []) }

/-- AUD_BUS_SET. -/
def execAudBusSet (port : Port) (s : State) : Host.Outcome State Fault Refusal := s.ends (cmdAudBusSet.exec port s)

/-- The parameter words of a sink's set (R485): a capture sink also names a ring of the size in word 0 [52:48] and its control word. -/
def sinkForm (_ : State) (_ : Who) (p : Packet) : Bool :=
  let cap := decide (11 ≤ uIdx (pkUnit p))
  pkLen p (if cap then 4 else 2) && pkF p 0 7 7 == 0 && pkF p 0 15 10 == 0 && gainOk (pkF p 0 31 16) && decide (pkF p 0 42 32 ≤ 2000) && pkF p 0 47 43 == 0 && fld (pkW p 0) 63 53 == 0 &&
    (if cap then decide (12 ≤ pkF p 0 52 48) && decide (pkF p 0 52 48 ≤ 20) && multOf (2 ^ pkF p 0 52 48) (pkW p 2) else pkF p 0 52 48 == 0)

/-- A DP sink takes these channels, bits and the internal rate (R485). -/
def State.sinkTakesAudio (s : State) (k w0 : Nat) : Bool :=
  decide (8 ≤ k) || ((s.out k).bind Outp.sink).elim true (fun q => decide (fld w0 6 4 + 1 ≤ q.audioChannels) && decide ((if bitOf w0 8 then 24 else 16) ≤ q.audioBits) && q.audioRates.contains s.aud.rate)

/-- Latency terms of Table 14.4 before the mix, with the converter (R488). -/
def State.srcTerm (s : State) (p : Nat) : Nat :=
  let merge := (s.streamOf p).elim 0 (fun r => (if bitOf (r.words.getD 4 0) 10 then 6 else 48) + ceilDiv (fld (r.words.getD 0 0) 47 32 * 48) 1000)
  (if p < 24 then 10 else if p < 40 then merge else if p < 42 then 2 else if p = 42 then 36 else 8) + (if s.converted p then 32 else 0)

/-- The latencies of the paths that end in a bus (R488); loopbacks are followed a bounded number of times. -/
def State.busLat (s : State) : Nat → Nat → List Nat
  | 0, _ => []
  | f + 1, b => ((s.abus b).inputs.filter (fun i => inEnable i.word)).flatMap (fun i =>
      let p := inSrc i.word
      if 43 ≤ p then
        let inner := State.busLat s f ((Tbl.find s.aud.srcs p).elim 0 (fun x => fld x.w0 59 56))
        inner.map (fun l => l + 8 + 8)
      else [s.srcTerm p + 8])

/-- The sink term of Table 14.4. -/
def sinkTerm (k : Nat) : Nat := if k < 8 then 18 else if k < 10 then 2 else if k = 10 then 40 else 10

/-- The path latency of a sink: stated where every path has one latency, else a free value. -/
def State.sinkLat (s : State) (k : Nat) : Nat :=
  match s.busLat 17 (fld ((s.asink k).words.getD 0 0) 3 0) with
  | [] => s.core.free
  | l :: ls => if ls.all (· == l) then l + sinkTerm k else s.core.free

/-- Has a sink's set wait for its swap. -/
def State.stageSink (s : State) (w : Who) (k : Nat) (words : List Nat) (arm : Bool) : Verdict :=
  let (s1, n) := s.newWork
  let s2 := s1.replaceSet (s.asink k).next
  .silent (s2.updSink k (fun x => { x with next := some { words := words, work := n, key := sliceKey w.inst w.slice, due := !arm } })) (.work n)

/-- AUD_SINK_SET (R485, R482). -/
def cmdAudSinkSet : Cmd :=
  { opcode := 0x0B04, forms := .both, secure := false, always := false, form := sinkForm, qform := bufForm, unitOk := fun _ _ p => pkIs p 0x71,
    may := fun s w p => !w.secure && (s.asink (uIdx (pkUnit p))).owner == some w.inst, active := ownActive,
    check := fun s _ p => if s.sinkTakesAudio (uIdx (pkUnit p)) (pkW p 0) then none else some (Rsp.code .refusedShare 0x70),
    run := fun s w p => s.stageSink w (uIdx (pkUnit p)) ((List.range (pkN p)).map (pkW p)) (bitOf (pkW p 0) 9),
    ask := fun s w p =>
      let k := uIdx (pkUnit p)
      let lat := s.sinkLat k
      let a := (s.mapCore (fun c => c.useFree 1)).answerWords w p ((s.asink k).words.map (fun v => BitVec.ofNat 64 v))
      (a.1, if a.2.st = .served then { a.2 with r2 := lat % 2 ^ 32 } else a.2) }

/-- AUD_SINK_SET. -/
def execAudSinkSet (port : Port) (s : State) : Host.Outcome State Fault Refusal := s.ends (cmdAudSinkSet.exec port s)

/-- AUD_APPLY (R482): any instance with staged sets. -/
def cmdAudApply : Cmd :=
  { opcode := 0x0B05, forms := .setOnly, secure := false, always := false, form := fun _ _ p => pkLen p 0, qform := bufForm, unitOk := atDevice, may := fun _ w _ => !w.secure, active := ownActive, check := noCheck,
    run := fun s w _ =>
      let key := sliceKey w.inst w.slice
      let mark (o : Option ASet) : Option ASet := o.map (fun n => if n.key = key then { n with due := true } else n)
      let (s1, n) := s.newWork
      .silent { s1 with aud := { s1.aud with buses := Tbl.mapVals s1.aud.buses (fun _ x => { x with next := mark x.next }), sinks := Tbl.mapVals s1.aud.sinks (fun _ x => { x with next := mark x.next }),
                                             applies := s1.aud.applies ++ [n] } } (.work n),
    ask := noAsk }

/-- AUD_APPLY. -/
def execAudApply (port : Port) (s : State) : Host.Outcome State Fault Refusal := s.ends (cmdAudApply.exec port s)

/-- AUD_TDM_SET (R487). -/
def cmdAudTdmSet : Cmd :=
  { opcode := 0x0B06, forms := .both, secure := false, always := false,
    form := fun _ _ p => pkLen p 1 && pkF p 0 15 2 == 0 && fld (pkW p 0) 63 34 == 0 && (bitOf (pkW p 0) 0 || (decide (8000 ≤ pkF p 0 33 16) && decide (pkF p 0 33 16 ≤ 192000))), qform := bufForm,
    unitOk := fun _ _ p => pkIs p 0x74, may := pfOnly, active := ownActive, check := noCheck,
    run := fun s _ p => .done { s with aud := { s.aud with tdm := Tbl.put s.aud.tdm (uIdx (pkUnit p)) (pkW p 0) } } (Rsp.plain .served),
    ask := fun s w p => s.answerWords w p [BitVec.ofNat 64 (Tbl.cnt s.aud.tdm (uIdx (pkUnit p)))] }

/-- AUD_TDM_SET. -/
def execAudTdmSet (port : Port) (s : State) : Host.Outcome State Fault Refusal := s.ends (cmdAudTdmSet.exec port s)

/-- AUD_ASSIGN (R474). -/
def cmdAudAssign : Cmd :=
  { opcode := 0x0B07, forms := .both, secure := false, always := false, form := fun _ _ p => pkLen p 1 && fld (pkW p 0) 63 7 == 0, qform := bufForm, unitOk := fun _ _ p => pkIs p 0x71 || pkIs p 0x72, may := pfOnly,
    active := ownActive, check := noCheck,
    run := fun s _ p =>
      let o := if bitOf (pkW p 0) 6 then none else some (pkF p 0 5 0)
      .done (if uCls (pkUnit p) = 0x71 then s.updSink (uIdx (pkUnit p)) (fun x => { x with owner := o }) else s.updBus (uIdx (pkUnit p)) (fun x => { x with owner := o })) (Rsp.plain .served),
    ask := fun s w p =>
      let o := if uCls (pkUnit p) = 0x71 then (s.asink (uIdx (pkUnit p))).owner else (s.abus (uIdx (pkUnit p))).owner
      s.answerWords w p [BitVec.ofNat 64 (o.elim 64 (fun i => i))] }

/-- AUD_ASSIGN. -/
def execAudAssign (port : Port) (s : State) : Host.Outcome State Fault Refusal := s.ends (cmdAudAssign.exec port s)

/-- AUD_HEADSET_SET (R492): the PF names the owner; the secure firmware sets HP_LIMIT and HP_LOCK. -/
def cmdAudHeadsetSet : Cmd :=
  { opcode := 0x0B08, forms := .both, secure := false, always := false,
    form := fun _ w p => pkLen p 1 && (if w.secure then pkF p 0 15 0 == 0 && fld (pkW p 0) 63 33 == 0 else fld (pkW p 0) 63 6 == 0), qform := bufForm, unitOk := fun _ _ p => pkIs p 0x73, may := pfOrSec, active := ownActive,
    check := fun s w _ => if w.secure && s.aud.hpLock then some (Rsp.plain .refusedLocked) else none,
    run := fun s w p =>
      if !w.secure then .done { s with aud := { s.aud with hsOwner := pkF p 0 5 0 } } (Rsp.plain .served)
      else
        let s1 : State := { s with aud := { s.aud with hpLimit := pkF p 0 31 16, hpLock := bitOf (pkW p 0) 32 } }
        let g := s1.sinkGain 10 ((s1.asink 10).words.getD 0 0)
        let s2 := if (s1.asink 10).words.isEmpty then s1 else s1.updSink 10 (fun x => { x with gain := x.gain.to g.1 (msOr10 (fld (x.words.getD 0 0) 42 32) * s1.aud.rate / 1000) })
        .done (if bitOf (pkW p 0) 32 then s2.extend 10 (le 4 5) else s2) (Rsp.plain .served),
    ask := fun s w p => s.answerWords w p [BitVec.ofNat 64 (s.aud.hsOwner + s.aud.hpLimit * 65536 + b2n s.aud.hpLock * 2 ^ 32)] }

/-- AUD_HEADSET_SET. -/
def execAudHeadsetSet (port : Port) (s : State) : Host.Outcome State Fault Refusal := s.ends (cmdAudHeadsetSet.exec port s)

/-- AUD_SRC_STATUS[p] (Table 14.6). -/
def State.srcStatus (s : State) (p : Nat) : Nat :=
  match s.srcInfo p with
  | some i => (Tbl.find s.aud.srcs p).elim 1 (fun x => x.st) * 2 ^ 29 + i.band * 2 ^ 27 + b2n (s.converted p) * 2 ^ 26 + i.rate % 2 ^ 18 * 256 + i.owner % 64
  | none => 0

/-- AUD_HS_STATUS (Table 14.7). -/
def Aud.hsStatus (a : Aud) : Nat := a.jack * 2 ^ 28 + b2n a.plugged * 2 ^ 27 + b2n a.pressed * 2 ^ 26 + a.button * 2 ^ 24 + a.micMv % 4096 * 4096 + a.load % 4096

/-- AUD_STATUS: the unit's status register where it has one, then its counters; words that no rule states are free values (log entry 5). -/
def cmdAudStatus : Cmd :=
  { opcode := 0x0B09, forms := .queryOnly, secure := false, always := false, form := fun _ _ p => pkLen p 0, qform := fun _ _ p => pkLen p 0,
    unitOk := fun _ _ p => [0x70, 0x71, 0x72, 0x73, 0x74].contains (uCls (pkUnit p)) && unitInRange (pkUnit p),
    may := fun s w p =>
      let i := uIdx (pkUnit p)
      !w.secure && (w.inst == 0 || (match uCls (pkUnit p) with
        | 0x70 => (s.srcInfo i).elim false (fun q => q.owner == w.inst)
        | 0x71 => (s.asink i).owner == some w.inst
        | 0x72 => (s.abus i).owner == some w.inst
        | 0x73 => s.aud.hsOwner == w.inst
        | _ => false)),
    active := ownActive, check := noCheck, run := noRun,
    ask := fun s _ p =>
      let i := uIdx (pkUnit p)
      let f (n : Nat) : Nat := (Config.freeValue (s.core.freeCtr + n)).toNat % 2 ^ 32
      let r := match uCls (pkUnit p) with
        | 0x70 => Rsp.ok (s.srcStatus i) (f 1) (f 2)
        | 0x73 => Rsp.ok s.aud.hsStatus (f 1) (f 2)
        | _ => Rsp.ok (f 0) (f 1) (f 2)
      (s.mapCore (fun c => c.useFree 3), r) }

/-- AUD_STATUS. -/
def execAudStatus (port : Port) (s : State) : Host.Outcome State Fault Refusal := s.ends (cmdAudStatus.exec port s)

end Sys2Proof.Machine
end

