-- ==== Sys2Proof/Machine/Compat.lean ====
section
/-! DEFINITION. The forerunner compatibility path: the map of FDX-4410 units and the commands of a 1.x session (R76 to R80, R489). -/

namespace Sys2Proof.Machine

/-! ## FDX-4410 unit IDs -/

/-- KIND of an FDX-4410 unit ID (R79). -/
def k44 (u : Nat) : Nat := fld u 31 24

/-- INDEX of an FDX-4410 unit ID. -/
def i44 (u : Nat) : Nat := fld u 23 8

/-- SUB of an FDX-4410 unit ID. -/
def s44 (u : Nat) : Nat := fld u 7 0

/-- An FDX-4410 unit ID. -/
def u44 (kind idx sub : Nat) : Nat := kind * 2 ^ 24 + idx * 256 + sub

/-- A kind, INDEX and SUB of R79. -/
def valid44 (u : Nat) : Bool :=
  match k44 u with
  | 0 => u == 0
  | 1 => decide (i44 u < 4) && s44 u == 0
  | 2 => decide (i44 u < 4) && decide (s44 u < 8)
  | 3 => s44 u == 0
  | 4 => decide (i44 u < 16) && s44 u == 0
  | 5 => decide (i44 u < 8) && s44 u == 0
  | _ => false

/-- The FDX-8840 unit that an FDX-4410 unit ID stands for: the device needs no entry (R79). -/
def Core.from44 (c : Core) (u : Nat) : Option Nat :=
  if !valid44 u then none else if u = 0 then some (c.here 0) else (Tbl.find c.compat u).map (fun e => c.here e.unit)

/-- The FDX-4410 unit that stands for an FDX-8840 unit, 0 where none does. -/
def Core.to44 (c : Core) (u : Nat) : Nat := ((c.compat.find? (fun e => e.2.unit == uKey u)).map Prod.fst).getD 0

/-- The lowest free FDX-4410 surface index. -/
def Core.free44 (c : Core) : Nat → Nat → Option Nat
  | 0, _ => none
  | f + 1, i => if Tbl.has c.compat (u44 3 i 0) then Core.free44 c f (i + 1) else some i

/-- Enters a unit that the device made in the map (R78). -/
def State.enter44 (s : State) (id unit : Nat) (bandB : Bool) : State :=
  s.mapCore (fun c => { c with compat := Tbl.put c.compat id { unit := unit, bandB := bandB, made := true } })

/-- A packet with its parameter word n replaced. -/
def withWord (p : Packet) (n v : Nat) : Packet := { p with words := p.words.set n (BitVec.ofNat 64 v) }

/-- A word with bits [hi:lo] replaced. -/
def setFld (w hi lo v : Nat) : Nat := w - fld w hi lo * 2 ^ lo + v % 2 ^ (hi + 1 - lo) * 2 ^ lo

/-! ## COMPAT_MAP -/

/-- The pairings of R78; the FDX-8840 unit lies on this device. -/
def pairOk (s : State) (a b : Nat) : Bool :=
  valid44 a && (b == 0 || (!s.foreign b && unitInRange b)) &&
  (match k44 a with
    | 1 => b == 0 || uCls b == 0x22
    | 4 => b == 0 || (uCls b == 0x70 && decide (uIdx b < 24))
    | 5 => b == 0 || uCls b == 0x71
    | _ => false)

/-- A compatibility layer exists on an FDX-4410 output. -/
def Core.hasLayer44 (c : Core) (out : Nat) : Bool := c.compat.any (fun e => k44 e.1 == 2 && i44 e.1 == out)

/-- COMPAT_MAP (R78). -/
def cmdCompatMap : Cmd :=
  { opcode := 0x7F80, forms := .setOnly, secure := false, always := false,
    form := fun s _ p => pkLen p 2 && fld (pkW p 1) 63 1 == 0 && pairOk s (pkF p 0 31 0) (pkF p 0 63 32), qform := bufForm, unitOk := fun _ _ p => pkIs p 0xF4, may := pfOnly, active := ownActive,
    check := fun s _ p =>
      let a := pkF p 0 31 0
      let b := pkF p 0 63 32
      if (b != 0 && s.core.compat.any (fun e => e.1 != a && e.2.unit == uKey b)) || (k44 a == 1 && Tbl.has s.core.compat a && s.core.hasLayer44 (i44 a)) then some (Rsp.plain .refusedLocked)
      else if b != 0 && !Tbl.has s.core.compat a && decide (64 ≤ (s.core.compat.filter (fun e => !e.2.made)).length) then some (Rsp.code .refusedShare 7)
      else none,
    run := fun s _ p =>
      let a := pkF p 0 31 0
      let b := pkF p 0 63 32
      .done (s.mapCore (fun c => { c with compat := (if b = 0 then Tbl.del c.compat a else Tbl.put c.compat a { unit := uKey b, bandB := bitOf (pkW p 1) 0, made := false }) })) (Rsp.plain .served),
    ask := noAsk }

/-- COMPAT_MAP. -/
def execCompatMap (port : Port) (s : State) : Host.Outcome State Fault Refusal := s.ends (cmdCompatMap.exec port s)

/-! ## Commands of a 1.x session -/

/-- The packet with UNIT translated. -/
def unit44 (s : State) (p : Packet) : Option Packet := (s.core.from44 (pkUnit p)).map (withUnit p)

/-- The packet with UNIT and the unit ID in bits [31:0] of word 0 translated. -/
def unitWord44 (s : State) (p : Packet) : Option Packet :=
  match unit44 s p, s.core.from44 (pkF p 0 31 0) with
  | some q, some v => some (withWord q 0 (setFld (pkW p 0) 31 0 v))
  | _, _ => none

/-- A command of Table 2.14: the command it acts as, on the translated packet; keeps is what holds of the packet itself, and a packet that names a unit without an entry fails step 8. -/
def compatCmd (base : Cmd) (op : Nat) (conv : State → Packet → Option Packet) (keeps : State → Who → Packet → Bool) : Cmd :=
  { opcode := 0x7F00 + op, forms := base.forms, secure := base.secure, always := base.always,
    form := fun s w p => keeps s w p && (conv s p).elim true (base.form s w),
    qform := fun s w p => (base.forms != .queryOnly || keeps s w p) && (conv s p).elim true (base.qform s w),
    unitOk := fun s w p => (conv s p).elim false (base.unitOk s w),
    may := fun s w p => (conv s p).elim false (base.may s w),
    active := fun s p => (conv s p).elim false (base.active s),
    check := fun s w p => (conv s p).elim none (base.check s w),
    run := fun s w p => (conv s p).elim (.done s (Rsp.plain .rejectedUnit)) (base.run s w),
    ask := fun s w p => (conv s p).elim (s, Rsp.plain .rejectedUnit) (base.ask s w) }

/-- A command that has no restriction but its LENGTH. -/
def onlyLen (n : Nat) (_ : State) (_ : Who) (p : Packet) : Bool := pkLen p n

/-- The restrictions of SURFACE_REGISTER in Table 2.14. -/
def register44 (_ : State) (w : Who) (p : Packet) : Bool :=
  pkLen p 2 && pkF p 0 5 0 == w.inst && [0x01, 0x03, 0x08, 0x09, 0x12, 0x14, 0x1C].contains (pkF p 0 15 8) && decide (pkF p 0 17 16 ≤ 1) && !bitOf (pkW p 0) 19

/-- COMPAT_SURFACE_REGISTER (R77): the surface it creates is entered in the map, and RESULT0 holds its FDX-4410 ID. -/
def cmdCompatSurfaceRegister : Cmd :=
  { compatCmd cmdSurfaceRegister 0x10 unit44 register44 with
    check := fun s w p => (cmdSurfaceRegister.check s w p).or (if (s.core.free44 65536 0).isNone then some (Rsp.code .refusedShare 3) else none),
    run := fun s w p =>
      match cmdSurfaceRegister.run s w p, s.core.free44 65536 0 with
      | .done t r, some i => if r.st = .served then .done (t.enter44 (u44 3 i 0) (uKey r.r0) false) { r with r0 := u44 3 i 0 } else .done t r
      | v, _ => v }

/-- COMPAT_SURFACE_REGISTER. -/
def execCompatSurfaceRegister (port : Port) (s : State) : Host.Outcome State Fault Refusal := s.ends (cmdCompatSurfaceRegister.exec port s)

/-- COMPAT_SURFACE_FREE (R77): the entry goes with the surface. -/
def cmdCompatSurfaceFree : Cmd := compatCmd cmdSurfaceFree 0x11 unit44 (onlyLen 0)

/-- COMPAT_SURFACE_FREE. -/
def execCompatSurfaceFree (port : Port) (s : State) : Host.Outcome State Fault Refusal := s.ends (cmdCompatSurfaceFree.exec port s)

/-- COMPAT_SURFACE_COPY (R77). -/
def cmdCompatSurfaceCopy : Cmd := compatCmd cmdSurfaceCopy 0x12 unitWord44 (onlyLen 4)

/-- COMPAT_SURFACE_COPY. -/
def execCompatSurfaceCopy (port : Port) (s : State) : Host.Outcome State Fault Refusal := s.ends (cmdCompatSurfaceCopy.exec port s)

/-- COMPAT_SURFACE_PALETTE (R77). -/
def cmdCompatSurfacePalette : Cmd := compatCmd cmdSurfacePalette 0x13 unit44 (onlyLen 1)

/-- COMPAT_SURFACE_PALETTE. -/
def execCompatSurfacePalette (port : Port) (s : State) : Host.Outcome State Fault Refusal := s.ends (cmdCompatSurfacePalette.exec port s)

/-- The target of a compatibility LAYER_COMMIT: the mapped layer, or the frond that drives the mapped output (Table 2.14). -/
def State.target44 (s : State) (u out : Nat) : Option Nat :=
  match Tbl.find s.core.compat u with
  | some e => some (s.core.here e.unit)
  | none => (s.out (uIdx out)).bind (fun o => if o.frond < 9 then some (s.core.here (uid 0x20 o.frond 0)) else none)

/-- A compatibility LAYER_COMMIT as the FDX-8840 command: BAND comes from the output's entry. -/
def commit44 (s : State) (p : Packet) : Option Packet :=
  let u := pkUnit p
  if k44 u ≠ 2 ∨ !valid44 u then none
  else if pkQuery p then (Tbl.find s.core.compat u).map (fun e => withUnit p (s.core.here e.unit))
  else
    match Tbl.find s.core.compat (u44 1 (i44 u) 0) with
    | none => none
    | some e =>
      match s.target44 u e.unit, (if pkF p 0 31 0 = 0 then some 0 else s.core.from44 (pkF p 0 31 0)) with
      | some t, some src => some (withWord (withUnit p t) 0 (setFld (setFld (pkW p 0) 31 0 src) 41 40 (if e.bandB then 1 else 2)))
      | _, _ => none

/-- The restrictions of LAYER_COMMIT in Table 2.14: ARM, MUST_UPDATE and STRIPE 0, SCALABLE for layers 0 and 1 only. -/
def commitKeeps44 (_ : State) (_ : Who) (p : Packet) : Bool := pkLen p 5 && pkF p 0 38 36 == 0 && (!bitOf (pkW p 0) 39 || decide (s44 (pkUnit p) ≤ 1))

/-- COMPAT_LAYER_COMMIT's effect: a layer it creates is entered in the map. -/
def commitRun44 (s : State) (w : Who) (p : Packet) : Verdict :=
  match commit44 s p with
  | none => .done s (Rsp.plain .rejectedUnit)
  | some q =>
    match cmdLayerCommit.run s w q, (if uCls (pkUnit q) = 0x20 then s.pickSlot (uIdx (pkUnit q)) (pkDesc q).scalable else none) with
    | .silent t wt, some k => .silent (t.enter44 (pkUnit p) (layerUnit (uIdx (pkUnit q)) k) false) wt
    | v, _ => v

/-- The words in force, with SOURCE as an FDX-4410 unit ID. -/
def commitAsk44 (s : State) (w : Who) (p : Packet) : State × Rsp :=
  match (commit44 s p).bind (fun q => s.layer (pkUnit q)) with
  | none => (s, Rsp.plain .rejectedUnit)
  | some l => s.answerWords w p ([setFld l.desc.w0 31 0 (s.core.to44 l.desc.source), l.desc.w1, l.desc.w2, l.desc.w3, l.desc.w4].map (BitVec.ofNat 64))

/-- COMPAT_LAYER_COMMIT (R77). -/
def cmdCompatLayerCommit : Cmd := { compatCmd cmdLayerCommit 0x20 commit44 commitKeeps44 with run := commitRun44, ask := commitAsk44 }

/-- COMPAT_LAYER_COMMIT. -/
def execCompatLayerCommit (port : Port) (s : State) : Host.Outcome State Fault Refusal := s.ends (cmdCompatLayerCommit.exec port s)

/-- COMPAT_LAYER_POST (R77). -/
def cmdCompatLayerPost : Cmd := compatCmd cmdLayerPost 0x21 unitWord44 (onlyLen 1)

/-- COMPAT_LAYER_POST. -/
def execCompatLayerPost (port : Port) (s : State) : Host.Outcome State Fault Refusal := s.ends (cmdCompatLayerPost.exec port s)

/-- COMPAT_LAYER_REMOVE (R77): the entry goes with the layer. -/
def cmdCompatLayerRemove : Cmd := compatCmd cmdLayerRemove 0x22 unit44 (onlyLen 0)

/-- COMPAT_LAYER_REMOVE. -/
def execCompatLayerRemove (port : Port) (s : State) : Host.Outcome State Fault Refusal := s.ends (cmdCompatLayerRemove.exec port s)

/-- COMPAT_OUTPUT_STATUS (R77, R643): the query form only, on a mapped output. -/
def cmdCompatOutputStatus : Cmd := compatCmd cmdOutputStatus 0x30 unit44 (onlyLen 0)

/-- COMPAT_OUTPUT_STATUS. -/
def execCompatOutputStatus (port : Port) (s : State) : Host.Outcome State Fault Refusal := s.ends (cmdCompatOutputStatus.exec port s)

/-- An audio command of a 1.x session: refused while MODE is 0 (R489). -/
def matched44 (c : Cmd) : Cmd := { c with check := fun s w p => if s.aud.mode = 0 then some (Rsp.code .refusedShare 0x72) else c.check s w p }

/-- COMPAT_AUD_SOURCE_OPEN (R77, R489): RATE_HZ is the matched rate; band A is never reachable (Table 2.7). -/
def cmdCompatAudSourceOpen : Cmd :=
  matched44 { compatCmd cmdAudSourceOpen 0x40 unit44 (fun s _ p => pkLen p 3 && (s.aud.mode == 0 || pkF p 0 33 16 == s.aud.rate)) with
    check := fun s w p => if pkF p 0 41 40 = 0 then some (Rsp.plain .refusedBand) else (unit44 s p).elim none (cmdAudSourceOpen.check s w) }

/-- COMPAT_AUD_SOURCE_OPEN. -/
def execCompatAudSourceOpen (port : Port) (s : State) : Host.Outcome State Fault Refusal := s.ends (cmdCompatAudSourceOpen.exec port s)

/-- COMPAT_AUD_SOURCE_CLOSE (R77). -/
def cmdCompatAudSourceClose : Cmd := matched44 (compatCmd cmdAudSourceClose 0x41 unit44 (onlyLen 0))

/-- COMPAT_AUD_SOURCE_CLOSE. -/
def execCompatAudSourceClose (port : Port) (s : State) : Host.Outcome State Fault Refusal := s.ends (cmdCompatAudSourceClose.exec port s)

/-- A sink's words in force with GAIN and RAMP_MS of the packet (Table 2.14). -/
def gain44 (s : State) (p : Packet) : Option Packet :=
  (unit44 s p).map (fun q =>
    let own := (s.asink (uIdx (pkUnit q))).words
    let w0 := setFld (setFld (own.getD 0 0) 31 16 (pkF p 0 31 16)) 42 32 (pkF p 0 42 32)
    if pkQuery p then q else { q with words := q.words.mapIdx (fun n _ => BitVec.ofNat 64 (if n = 0 then w0 else own.getD n 0)) })

/-- COMPAT_AUD_SINK_GAIN (R77): BUS and MAP stay as the manager set them. -/
def cmdCompatAudSinkGain : Cmd := matched44 (compatCmd cmdAudSinkSet 0x42 gain44 (fun _ _ p => gainOk (pkF p 0 31 16) && decide (pkF p 0 42 32 ≤ 2000)))

/-- COMPAT_AUD_SINK_GAIN. -/
def execCompatAudSinkGain (port : Port) (s : State) : Host.Outcome State Fault Refusal := s.ends (cmdCompatAudSinkGain.exec port s)

/-- A journal command names the device, which stands for the journal (log entry 79). -/
def journal44 (s : State) (p : Packet) : Option Packet := if pkUnit p = 0 then some (withUnit p (s.core.here (uid 0x81 0 0))) else none

/-- COMPAT_JOURNAL_TAIL (R77): the own instance only, ALL 0. -/
def cmdCompatJournalTail : Cmd := compatCmd cmdJournalTail 0x50 journal44 (fun _ w p => pkLen p 3 && !bitOf (pkW p 0) 8 && pkF p 0 5 0 == w.inst)

/-- COMPAT_JOURNAL_TAIL. -/
def execCompatJournalTail (port : Port) (s : State) : Host.Outcome State Fault Refusal := s.ends (cmdCompatJournalTail.exec port s)

/-- COMPAT_JOURNAL_SYNC (R77). -/
def cmdCompatJournalSync : Cmd := compatCmd cmdJournalSync 0x51 journal44 (onlyLen 0)

/-- COMPAT_JOURNAL_SYNC. -/
def execCompatJournalSync (port : Port) (s : State) : Host.Outcome State Fault Refusal := s.ends (cmdCompatJournalSync.exec port s)

end Sys2Proof.Machine
end

