-- ==== Sys2Proof/Machine/RasterExact.lean ====
section
/-! DEFINITION. Exact mode of the raster engine: the stream (R377 to R381), setup and coverage (R382 to R385), interpolation, textures, combiner, tests, blending and store (R386 to R397), binning and the heap (R401 to R405). -/

namespace Sys2Proof.Machine

/-! ## Job words -/

/-- Field of a job's parameter word n. -/
def RJob.f (j : RJob) (n hi lo : Nat) : Nat := fld (j.words.getD n 0) hi lo

/-- General mode. -/
def RJob.general (j : RJob) : Bool := j.f 0 0 0 == 1

/-- BAND. -/
def RJob.band (j : RJob) : Nat := j.f 0 5 4

/-- COST_US. -/
def RJob.cost (j : RJob) : Nat := j.f 0 63 32

/-- TARGET. -/
def RJob.target (j : RJob) : Nat := j.f 1 31 0

/-- DS_TARGET. -/
def RJob.ds (j : RJob) : Nat := j.f 1 63 32

/-- TEXTURE[n]. -/
def RJob.texture (j : RJob) (n : Nat) : Nat := if n % 2 = 0 then j.f (6 + n / 2) 31 0 else j.f (6 + n / 2) 63 32

/-- The scissor: left, top, right, bottom, the last two inclusive. -/
def RJob.scissor (j : RJob) : Nat × Nat × Nat × Nat := (j.f 4 15 0, j.f 4 31 16, j.f 4 15 0 + j.f 4 47 32 - 1, j.f 4 31 16 + j.f 4 63 48 - 1)

/-! ## Raster state -/

/-- The reset value of a state index (Table 10.6). -/
def rstReset (i : Nat) : Nat := if i = 2 then 0xF else if i = 7 then 0x00F00000 else if 0x18 ≤ i ∧ i ≤ 0x1B then 0xF else 0

/-- A state word in force. -/
def rst (t : Tbl Nat) (i : Nat) : Nat := Tbl.at t (rstReset i) i

/-- The bits an index defines; none for an index that Table 10.6 does not list. -/
def rstMask (i : Nat) : Option Nat :=
  if i = 0x00 then some 0x3
  else if i = 0x01 then some 0xF7
  else if i = 0x02 then some 0xF
  else if i = 0x03 then some 0x1F
  else if i = 0x04 then some 0x0FFFFFFF
  else if i = 0x05 then some 0x777
  else if i = 0x06 then some 0x3FFF
  else if i = 0x07 then some 0x00F1FFFF
  else if i = 0x08 ∨ (0x10 ≤ i ∧ i ≤ 0x17) ∨ (0x1C ≤ i ∧ i ≤ 0x1F) ∨ (0x30 ≤ i ∧ i ≤ 0x35) then some 0xFFFFFFFF
  else if 0x18 ≤ i ∧ i ≤ 0x1B then some 0x1FF
  else if 0x38 ≤ i ∧ i ≤ 0x3B then some 0xFF7F
  else none

/-- True where a value may be written to an index: the index is listed, no reserved bit is set, no code is malformed. -/
def rstOk (i v : Nat) : Bool :=
  match rstMask i with
  | none => false
  | some m =>
    v &&& m == v && (i != 0x00 || v != 3) && (i != 0x07 || [fld v 3 0, fld v 7 4, fld v 11 8, fld v 15 12].all (fun c => decide (c < 14))) &&
      (!(decide (0x18 ≤ i) && decide (i ≤ 0x1B)) || decide (fld v 3 0 < 8) || fld v 3 0 == 15) && (!(decide (0x38 ≤ i) && decide (i ≤ 0x3B)) || (decide (fld v 1 0 < 3) && decide (fld v 6 2 ≤ 16)))

/-- An index of general mode only. -/
def rstGeneral (i : Nat) : Bool := decide (0x30 ≤ i)

/-- Writes successive indices. -/
def rstWrite (t : Tbl Nat) : Nat → List Nat → Tbl Nat
  | _, [] => t
  | i, v :: vs => rstWrite (Tbl.put t i v) (i + 1) vs

/-! ## Stream -/

/-- A 32-bit little-endian field of a byte list. -/
def w32 (bs : List Byte) (i : Nat) : Nat := ofLe ((bs.drop (4 * i)).take 4)

/-- Bytes of a vertex under VERTEX_FMT (R379). -/
def vertBytes (general : Bool) (fmt : Nat) : Nat :=
  roundUp 8 ((if general then 16 else 8 + 4 * b2n (bitOf fmt 0)) + 4 * b2n (bitOf fmt 1) + 4 * b2n (bitOf fmt 2)
    + 8 * (b2n (bitOf fmt 4) + b2n (bitOf fmt 5) + b2n (bitOf fmt 6) + b2n (bitOf fmt 7)))

/-- The texture coordinates from word i on: for each set in ascending order, present or (0, 0). -/
def vertTex (fmt : Nat) (ws : List Nat) : Nat → Nat → List (Int × Int)
  | 0, _ => []
  | n + 1, i =>
    let k := 3 - n
    if bitOf fmt (4 + k) then (sxt 32 (ws.getD i 0), sxt 32 (ws.getD (i + 1) 0)) :: vertTex fmt ws n (i + 2)
    else (0, 0) :: vertTex fmt ws n i

/-- An exact-mode vertex from its words; colours left out read opaque white (R387). -/
def vertOf (fmt : Nat) (ws : List Nat) : RVert :=
  let z := b2n (bitOf fmt 0)
  let c0 := b2n (bitOf fmt 1)
  let c1 := b2n (bitOf fmt 2)
  { x := sxt 32 (ws.getD 0 0), y := sxt 32 (ws.getD 1 0), z := if z = 1 then ws.getD 2 0 else 0,
    c0 := if c0 = 1 then ws.getD (2 + z) 0 else 0xFFFFFFFF, c1 := if c1 = 1 then ws.getD (2 + z + c0) 0 else 0xFFFFFFFF,
    tex := vertTex fmt ws 4 (2 + z + c0 + c1) }

/-- Reserved bits of a vertex: depth's top byte and the pad word are 0. -/
def vertOk (general : Bool) (fmt : Nat) (ws : List Nat) : Bool :=
  let n := (if general then 4 else 2 + b2n (bitOf fmt 0)) + b2n (bitOf fmt 1) + b2n (bitOf fmt 2) + 2 * (b2n (bitOf fmt 4) + b2n (bitOf fmt 5) + b2n (bitOf fmt 6) + b2n (bitOf fmt 7))
  (general || !bitOf fmt 0 || decide (ws.getD 2 0 < 2 ^ 24)) && (n % 2 == 0 || ws.getD n 0 == 0)

/-- The guard band of R382. -/
def inGuard (v : RVert) : Bool := decide (-4194304 ≤ v.x) && decide (v.x ≤ 4194304) && decide (-4194304 ≤ v.y) && decide (v.y ≤ 4194304)

/-- The area term (R383). -/
def areaOf (a b c : RVert) : Int := (b.x - a.x) * (c.y - a.y) - (b.y - a.y) * (c.x - a.x)

/-- Setup and culling of R383: none where the triangle is dropped. -/
def setupTri (cull : Nat) (a b c : RVert) : Option RKind :=
  let n := areaOf a b c
  if n = 0 then none
  else if n < 0 then (if cull = 1 then none else some (.tri (-n) a c b))
  else if cull = 2 then none else some (.tri n a b c)

/-- Ceiling of a quotient by 256. -/
def ceil256 (i : Int) : Int := -((-i) / 256)

/-- The pixel box of three vertices clipped to a scissor (R402). -/
def triBox (sc : Nat × Nat × Nat × Nat) (a b c : RVert) : Option (Nat × Nat × Nat × Nat) :=
  let x0 := max (ceil256 (min a.x (min b.x c.x) - 128)) (sc.1 : Int)
  let x1 := min ((max a.x (max b.x c.x) - 128) / 256) (sc.2.2.1 : Int)
  let y0 := max (ceil256 (min a.y (min b.y c.y) - 128)) (sc.2.1 : Int)
  let y1 := min ((max a.y (max b.y c.y) - 128) / 256) (sc.2.2.2 : Int)
  if x1 < x0 ∨ y1 < y0 then none else some (x0.toNat, y0.toNat, x1.toNat, y1.toNat)

/-- The heap's view of a stream (R403, R404): units used and left, list entries and the newest state entry of each tile, state records since the snapshot. -/
structure Heap where
  cap : Nat
  used : Nat
  entries : Tbl Nat
  seen : Tbl Nat
  states : Nat
  any : Bool
  deriving DecidableEq, Repr

/-- The heap at a snapshot. -/
def Heap.fresh (cap : Nat) (any : Bool) : Heap := { cap := cap, used := 16, entries := [], seen := [], states := 0, any := any }

/-- List blocks of a tile with e entries (Table 10.8). -/
def listBlocks (e : Nat) : Nat := if e = 0 then 0 else 1 + (e - 1) / 15

/-- The tiles of a box: row × tiles per row + column. -/
def boxTiles (perRow : Nat) (b : Nat × Nat × Nat × Nat) : List Nat :=
  (List.range (b.2.2.2 / 32 + 1 - b.2.1 / 32)).flatMap (fun j => (List.range (b.2.2.1 / 32 + 1 - b.1 / 32)).map (fun i => (b.2.1 / 32 + j) * perRow + b.1 / 32 + i))

/-- Units an item needs beyond those in use. -/
def Heap.needs (h : Heap) (units : Nat) (tiles : List Nat) : Nat :=
  tiles.foldl (fun a t =>
    let e := Tbl.at h.entries 0 t
    a + listBlocks (e + (if Tbl.at h.seen 0 t < h.states then 2 else 1)) - listBlocks e) units

/-- Enters an item into its tiles. -/
def Heap.enter (h : Heap) (units : Nat) (tiles : List Nat) : Heap :=
  { h with used := h.used + h.needs units tiles, any := true,
           entries := tiles.foldl (fun m t => Tbl.put m t (Tbl.at h.entries 0 t + (if Tbl.at h.seen 0 t < h.states then 2 else 1))) h.entries,
           seen := tiles.foldl (fun m t => Tbl.put m t h.states) h.seen }

/-- What reading a stream has given so far. -/
structure Bin where
  state : Tbl Nat
  items : List RItem
  rounds : List Nat
  heap : Heap
  guardDrop : Nat
  fail : Option (Status × Nat × Nat)
  deriving DecidableEq, Repr

/-- Bins an item, with a flush before it where the heap lacks units (R404), or fails on it (R405). -/
def Bin.item (b : Bin) (perRow units : Nat) (it : RItem) : Bin :=
  let tiles := boxTiles perRow it.box
  if b.heap.cap < units + 16 + tiles.length then { b with fail := some (.failedHeap, 0, it.off) }
  else if b.heap.cap < b.heap.used + b.heap.needs units tiles then
    { b with items := it :: b.items, rounds := b.items.length :: b.rounds, heap := (Heap.fresh b.heap.cap true).enter units tiles }
  else { b with items := it :: b.items, heap := b.heap.enter units tiles }

/-- A STATE record (R378, Table 10.8). -/
def Bin.setState (b : Bin) (arg : Nat) (vs : List Nat) : Bin :=
  let u := ceilDiv (4 * vs.length) 64
  let h := if !b.heap.any then b.heap
    else if b.heap.cap < b.heap.used + u then { Heap.fresh b.heap.cap true with used := 16 + u, states := 1 }
    else { b.heap with used := b.heap.used + u, states := b.heap.states + 1 }
  { b with state := rstWrite b.state arg vs, heap := h, rounds := if b.heap.any && decide (b.heap.cap < b.heap.used + u) then b.items.length :: b.rounds else b.rounds }

/-- Inconsistent state at a primitive (Table 10.4, 0x0012). -/
def RJob.inconsistent (j : RJob) (st : Tbl Nat) : Bool :=
  ((bitOf (rst st 3) 3 || bitOf (rst st 4) 3) && j.ds == 0) ||
  (List.range 4).any (fun n => let e := fld (rst st (0x18 + n)) 3 0; decide (e < 8) && j.texture e == 0) ||
  (rst st 2 != 15 && !Tbl.has j.programs (rst st 2)) ||
  (!j.general && st.any (fun e => rstGeneral e.1))

/-- Three vertices' items: dropped, or set up and binned. -/
def RJob.binTri (j : RJob) (perRow off : Nat) (b : Bin) (vb : Nat) (vs : List (List Nat)) : Bin :=
  if b.fail.isSome then b
  else
    let units := ceilDiv (16 + 3 * vb) 64
    if j.general then
      match Config.generalBox j.words (b.state.flatMap (fun e => [e.1, e.2])) vs with
      | some (x0, y0, x1, y1) =>
        let sc := j.scissor
        let bx := (max x0 sc.1, max y0 sc.2.1, min x1 sc.2.2.1, min y1 sc.2.2.2)
        if bx.2.2.1 < bx.1 ∨ bx.2.2.2 < bx.2.1 then b
        else b.item perRow units { off := off, state := b.state, box := bx, kind := .general vs.flatten }
      | none => b
    else
      let fmt := rst b.state 1
      let v (i : Nat) : RVert := vertOf fmt (vs.getD i [])
      if !([v 0, v 1, v 2].all inGuard) then { b with guardDrop := b.guardDrop + 1 }
      else
        match setupTri (rst b.state 0) (v 0) (v 1) (v 2), triBox j.scissor (v 0) (v 1) (v 2) with
        | some k, some bx => b.item perRow units { off := off, state := b.state, box := bx, kind := k }
        | _, _ => b

/-- The vertices of a record's payload as lists of 32-bit words. -/
def vertsOf (vb : Nat) (bs : List Byte) (n : Nat) : List (List Nat) := (List.range n).map (fun i => (List.range (vb / 4)).map (fun k => w32 bs (i * (vb / 4) + k)))

/-- The triangles of a record: three vertices each, or the two of a rectangle TL, TR, BL, BR (R380). -/
def trisOf (rect : Bool) (vs : List (List Nat)) : Nat → List (List (List Nat))
  | 0 => []
  | n + 1 =>
    let v (i : Nat) : List Nat := vs.getD i []
    if rect then [v 0, v 1, v 2] :: [v 1, v 3, v 2] :: trisOf rect (vs.drop 4) n
    else [v 0, v 1, v 2] :: trisOf rect (vs.drop 3) n

/-- Reads records from an offset on (R377, R376), at most f of them. -/
def RJob.bin (j : RJob) (perRow len : Nat) (read : Nat → Nat → List Byte) : Nat → Nat → Bin → Bin
  | 0, off, b => { b with fail := some (.failed, 0x0011, off) }
  | f + 1, off, b =>
    let bad (code : Nat) : Bin := { b with fail := some (.failed, code, off) }
    if b.fail.isSome then b
    else if len < off + 8 then bad 0x0011
    else
      let hd := ofLe (read off 8)
      let type := fld hd 7 0
      let arg := fld hd 15 8
      let count := fld hd 31 16
      let words := fld hd 63 32
      let vb := vertBytes j.general (rst b.state 1)
      let known := type == 1 || type == 2 || type == 3 || type == 4 || type == 0xF
      let need := if type = 1 then 1 + ceilDiv count 2 else if type = 2 then 2 else if type = 3 then 1 + count * 3 * vb / 8 else if type = 4 then 1 + count * 4 * vb / 8 else 1
      let countOk := if type = 1 then decide (1 ≤ count) && decide (count ≤ 256) else if type = 3 ∨ type = 4 then decide (1 ≤ count) else count == 0
      let argOk := type == 1 || (type == 2 && decide (arg < 8)) || arg == 0
      if !known || !countOk || !argOk then bad 0x0010
      else if len < off + 8 * max words need then bad 0x0011
      else if words ≠ need then bad 0x0010
      else if type = 0xF then b
      else
        let body := read (off + 8) (8 * (words - 1))
        let next (b1 : Bin) : Bin := RJob.bin j perRow len read f (off + 8 * words) b1
        if type = 1 then
          let vs := (List.range count).map (w32 body)
          if (List.range count).any (fun i => !rstOk (arg + i) (vs.getD i 0)) || (count % 2 == 1 && w32 body count != 0) then bad 0x0010
          else next (b.setState arg vs)
        else if type = 2 then
          if (bitOf arg 1 || bitOf arg 2) && j.ds == 0 then bad 0x0012
          else next (b.item perRow 1 { off := off, state := b.state, box := j.scissor, kind := .clear arg (ofLe body) })
        else
          let vs := vertsOf vb body (count * (if type = 3 then 3 else 4))
          if j.inconsistent b.state then bad 0x0012
          else if vs.any (fun v => !vertOk j.general (rst b.state 1) v) then bad 0x0010
          else next ((trisOf (type == 4) vs count).zipIdx.foldl (fun b1 t => j.binTri perRow (off + 8 + (if type = 4 then t.2 / 2 * 4 else t.2 * 3) * vb) b1 vb t.1) { b with heap := { b.heap with any := true } })

/-! ## Fragments -/

/-- An edge function at a sample (R384). -/
def edgeFn (a b : RVert) (px py : Int) : Int := (b.x - a.x) * (py - a.y) - (b.y - a.y) * (px - a.x)

/-- A top or left edge (R384). -/
def topLeft (a b : RVert) : Bool := (b.y == a.y && decide (a.x < b.x)) || decide (b.y < a.y)

/-- One edge's part of coverage. -/
def edgeIn (a b : RVert) (px py : Int) : Bool := let e := edgeFn a b px py; decide (0 < e) || (e == 0 && topLeft a b)

/-- Coverage of pixel (x, y) (R384). -/
def coversTri (a b c : RVert) (x y : Nat) : Bool :=
  let px : Int := 256 * x + 128
  let py : Int := 256 * y + 128
  edgeIn a b px py && edgeIn b c px py && edgeIn c a px py

/-- Interpolation of R386: weights and area. -/
def interp (w0 w1 w2 area : Int) (a0 a1 a2 : Int) : Int := (a0 * w0 + a1 * w1 + a2 * w2 + area / 2) / area

/-- An ARGB 8:8:8:8 word in blend form (R232). -/
def argbPx (v : Nat) : Px := ⟨expandA 8 (fld v 31 24), expand12 8 (fld v 23 16), expand12 8 (fld v 15 8), expand12 8 (fld v 7 0)⟩

/-- Wrapping of a texel index (R389); none where the border colour is read. -/
def wrapIdx (mode : Nat) (w : Nat) (i : Int) : Option Nat :=
  match mode with
  | 0 => some (i % (w : Int)).toNat
  | 1 => let m := (i % (2 * (w : Int))).toNat; some (if m < w then m else 2 * w - 1 - m)
  | 2 => some (clampI 0 ((w : Int) - 1) i).toNat
  | _ => if i < 0 ∨ (w : Int) ≤ i then none else some i.toNat

/-- A texture unit as a fragment reads it: its surface, palette, settings and border. -/
structure TexUnit where
  sf : Surf
  palette : List Nat
  word : Nat
  border : Nat
  deriving DecidableEq, Repr

/-- The surface position of a texel, none at the border. -/
def TexUnit.at (t : TexUnit) (i j : Int) : Option (Nat × Nat) :=
  match wrapIdx (fld t.word 5 4) t.sf.width i, wrapIdx (fld t.word 7 6) t.sf.height j with
  | some x, some y => some (x, y)
  | _, _ => none

/-- A texel in blend form (R388). -/
def TexUnit.texel (t : TexUnit) (raw : Nat → Nat → Nat) (i j : Int) : Px :=
  match t.at i j with
  | some (x, y) => expandRgb t.sf.format (2 ^ 36 - 1) (raw x y) t.palette
  | none => argbPx t.border

/-- The texels a read takes: index pairs (R390). -/
def TexUnit.taps (t : TexUnit) (s v : Int) : List (Int × Int) :=
  if bitOf t.word 8 then
    let i := (s - 32768) / 65536
    let j := (v - 32768) / 65536
    [(i, j), (i + 1, j), (i, j + 1), (i + 1, j + 1)]
  else [(s / 65536, v / 65536)]

/-- A filtered texture value (R390). -/
def TexUnit.sample (t : TexUnit) (raw : Nat → Nat → Nat) (s v : Int) : Px :=
  let ps := (t.taps s v).map (fun q => t.texel raw q.1 q.2)
  let p (i : Nat) : Px := ps.getD i ⟨0, 0, 0, 0⟩
  if bitOf t.word 8 then
    let fu := ((s - 32768) / 256 % 256).toNat
    let fv := ((v - 32768) / 256 % 256).toNat
    let f (k : Nat) : Nat := ((p 0).ch k * (256 - fu) * (256 - fv) + (p 1).ch k * fu * (256 - fv) + (p 2).ch k * (256 - fu) * fv + (p 3).ch k * fu * fv + 32768) / 65536
    ⟨f 3, f 0, f 1, f 2⟩
  else p 0

/-- Rounded division by 4,095 (R392). -/
def div4095 (x : Nat) : Nat := (x + 2048 + (x + 2048) / 4096) / 4096

/-- The division of a half: by 4,095 for colour, by 1,023 for alpha. -/
def divM (alpha : Bool) (x : Nat) : Nat := if alpha then div1023 x else div4095 x

/-- The top value of a half. -/
def topM (alpha : Bool) : Nat := if alpha then 1023 else 4095

/-- The inputs of the combiner: C0, C1, P, T0 to T3, K0 to K7. -/
structure CombIn where
  c0 : Px
  c1 : Px
  p : Px
  t : List Px
  k : List Px
  deriving DecidableEq, Repr

/-- The pixel behind a source code without its alpha bit of coding (Table 10.7). -/
def CombIn.px (c : CombIn) (code : Nat) : Px :=
  let n := if 16 ≤ code then code - 15 else code
  if n = 0 then ⟨0, 0, 0, 0⟩ else if n = 1 then c.c0 else if n = 2 then c.c1 else if n = 3 then c.p
  else if n < 8 then c.t.getD (n - 4) ⟨0, 0, 0, 0⟩ else c.k.getD (n - 8) ⟨0, 0, 0, 0⟩

/-- An operand on a channel (R391, R392). -/
def CombIn.opnd (c : CombIn) (o ch : Nat) : Nat :=
  let code := fld o 4 0
  let alpha := ch == 3
  let v := if alpha then (c.px code).a else if 16 ≤ code then (c.px code).a * 4 + (c.px code).a / 256 else (c.px code).ch ch
  if bitOf o 5 then topM alpha - v else v

/-- An operation of R392. -/
def combOp (alpha : Bool) (op a b c : Nat) : Nat :=
  let m := topM alpha
  match op with
  | 0 => a
  | 1 => divM alpha (a * b)
  | 2 => min m (a + b)
  | 3 => a - b
  | 4 => divM alpha (a * c + b * (m - c))
  | 5 => min m (divM alpha (a * b) + c)
  | 6 => min a b
  | 7 => max a b
  | _ => if (m + 1) / 2 ≤ c then a else b

/-- A half of a stage on a channel. -/
def CombIn.half (c : CombIn) (h ch : Nat) : Nat := combOp (ch == 3) (fld h 21 18) (c.opnd (fld h 17 12) ch) (c.opnd (fld h 11 6) ch) (c.opnd (fld h 5 0) ch)

/-- A stage: P after it. -/
def CombIn.stage (c : CombIn) (w : Nat) : CombIn :=
  { c with p := ⟨c.half (fld w 43 22) 3, c.half (fld w 21 0) 0, c.half (fld w 21 0) 1, c.half (fld w 21 0) 2⟩ }

/-- A program: its nine words; the built-in program passes C0 (R391). -/
def builtIn : List Nat := [1, 1 * 2 ^ 12 + 1 * 2 ^ 34]

/-- The fragment's value (R391). -/
def CombIn.run (c : CombIn) (prog : List Nat) : Px := (((prog.drop 1).take (fld (prog.getD 0 0) 3 0)).foldl CombIn.stage { c with p := ⟨0, 0, 0, 0⟩ }).p

/-- A program of R391 is well formed. -/
def programOk (prog : List Nat) : Bool :=
  let n := fld (prog.getD 0 0) 3 0
  let half (h : Nat) : Bool := decide (fld h 21 18 ≤ 8) && [fld h 17 12, fld h 11 6, fld h 5 0].all (fun o => fld o 4 0 != 31)
  prog.length == 9 && prog.getD 0 0 == n && decide (1 ≤ n) && decide (n ≤ 8) &&
    ((prog.drop 1).take n).all (fun w => fld w 63 44 == 0 && half (fld w 21 0) && half (fld w 43 22)) && ((prog.drop 1).drop n).all (· == 0)

/-- The comparison of a FUNC code. -/
def testFn (f a b : Nat) : Bool :=
  match f with
  | 0 => false
  | 1 => decide (a < b)
  | 2 => a == b
  | 3 => decide (a ≤ b)
  | 4 => decide (b < a)
  | 5 => a != b
  | 6 => decide (b ≤ a)
  | _ => true

/-- A stencil operation (R395). -/
def stencilOp (op ref v : Nat) : Nat :=
  match op with
  | 0 => v
  | 1 => 0
  | 2 => ref
  | 3 => min 255 (v + 1)
  | 4 => v - 1
  | 5 => 255 - v
  | 6 => (v + 1) % 256
  | _ => (v + 255) % 256

/-- A depth-stencil word with a stencil operation applied through WMASK. -/
def putStencil (st op d : Nat) : Nat :=
  let wm := fld st 27 20
  let old := d % 256
  let new := stencilOp op (fld st 11 4) old
  d / 256 * 256 + ((new &&& wm) ||| (old &&& (255 - wm)))

/-- A blend term (R396): the factor's code on a value. -/
def blendTerm (code ch v : Nat) (src dst const : Px) : Nat :=
  let alpha := ch == 3
  let inv (b : Bool) (m f : Nat) : Nat := if b then m - f else f
  let af (b : Bool) (p : Px) : Nat := div1023 (v * inv b 1023 p.a)
  let cf (b : Bool) (p : Px) : Nat := if alpha then af b p else div4095 (v * inv b 4095 (p.ch ch))
  match code with
  | 0 => 0
  | 1 => v
  | 2 => af false src
  | 3 => af true src
  | 4 => af false dst
  | 5 => af true dst
  | 6 => cf false src
  | 7 => cf true src
  | 8 => cf false dst
  | 9 => cf true dst
  | 10 => af false const
  | 11 => af true const
  | 12 => cf false const
  | _ => cf true const

/-- Blending of R396. -/
def blendFrag (b const : Nat) (src dst : Px) : Px :=
  let k := argbPx const
  let c (ch : Nat) : Nat := min 4095 (blendTerm (fld b 3 0) ch (src.ch ch) src dst k + blendTerm (fld b 7 4) ch (dst.ch ch) src dst k)
  ⟨min 1023 (blendTerm (fld b 11 8) 3 src.a src dst k + blendTerm (fld b 15 12) 3 dst.a src dst k), c 0, c 1, c 2⟩

/-- The channels of a target format: A, R, G, B as lowest bit and width; width 0 where the format lacks one. -/
def targetChans (f : Nat) : List (Nat × Nat) :=
  match f with
  | 0x01 => [(24, 8), (16, 8), (8, 8), (0, 8)]
  | 0x02 => [(30, 2), (20, 10), (10, 10), (0, 10)]
  | 0x03 => [(0, 0), (11, 5), (5, 6), (0, 5)]
  | 0x04 => [(48, 16), (32, 16), (16, 16), (0, 16)]
  | _ => [(0, 8), (0, 0), (0, 0), (0, 0)]

/-- An element stored through WMASK: [3] A, [2] R, [1] G, [0] B (Table 10.6). -/
def maskedStore (f wmask new old : Nat) : Nat :=
  ((targetChans f).zip [3, 2, 1, 0]).foldl (fun a e => let v := (if bitOf wmask e.2 then new else old) >>> e.1.1 % 2 ^ e.1.2; a + v * 2 ^ e.1.1) 0

/-- A target's element in blend form (R396). -/
def targetPx (f e : Nat) : Px := expandRgb f (2 ^ 36 - 1) e []

/-- What fragments need of the surfaces: the target's format, whether there is a depth-stencil target, the texture units by state, raw texels of a texture entry. -/
structure FragEnv where
  format : Nat
  hasDs : Bool
  tex : Nat → Option (Surf × List Nat)
  raw : Nat → Nat → Nat → Nat
  prog : Nat → List Nat

/-- Texture unit n under a raster state; none reads 0 (R388). -/
def FragEnv.unit (e : FragEnv) (st : Tbl Nat) (n : Nat) : Option TexUnit :=
  let w := rst st (0x18 + n)
  (e.tex (fld w 3 0)).map (fun t => { sf := t.1, palette := t.2, word := w, border := rst st (0x1C + n) })

/-- Weights of a pixel: e12, e20, e01 (R386). -/
def weightsAt (a b c : RVert) (x y : Nat) : Int × Int × Int :=
  let px : Int := 256 * x + 128
  let py : Int := 256 * y + 128
  (edgeFn b c px py, edgeFn c a px py, edgeFn a b px py)

/-- Coordinates of set n at a pixel. -/
def texAt (area : Int) (w : Int × Int × Int) (a b c : RVert) (n : Nat) : Int × Int :=
  let q (v : RVert) : Int × Int := v.tex.getD n (0, 0)
  (interp w.1 w.2.1 w.2.2 area (q a).1 (q b).1 (q c).1, interp w.1 w.2.1 w.2.2 area (q a).2 (q b).2 (q c).2)

/-- A vertex colour interpolated (R387). -/
def colourAt (area : Int) (w : Int × Int × Int) (a b c : Nat) : Px :=
  let g (f : Px → Nat) : Nat := (interp w.1 w.2.1 w.2.2 area (f (argbPx a)) (f (argbPx b)) (f (argbPx c))).toNat
  ⟨g Px.a, g Px.c0, g Px.c1, g Px.c2⟩

/-- The fragment's value before the tests: textures and combiner (R394 step 1). -/
def FragEnv.shade (e : FragEnv) (st : Tbl Nat) (area : Int) (a b c : RVert) (x y : Nat) : Px :=
  let w := weightsAt a b c x y
  let t (n : Nat) : Px :=
    match e.unit st n with
    | some u => let q := texAt area w a b c n; u.sample (e.raw (fld u.word 3 0)) q.1 q.2
    | none => ⟨0, 0, 0, 0⟩
  let ci : CombIn := { c0 := colourAt area w a.c0 b.c0 c.c0, c1 := colourAt area w a.c1 b.c1 c.c1, p := ⟨0, 0, 0, 0⟩, t := [t 0, t 1, t 2, t 3], k := (List.range 8).map (fun i => argbPx (rst st (0x10 + i))) }
  ci.run (e.prog (rst st 2))

/-- Steps 2 to 6 of R394 on a fragment: stored colour and depth-stencil word. -/
def FragEnv.tests (e : FragEnv) (st : Tbl Nat) (frag : Px) (z : Nat) (old : Nat × Nat) : Nat × Nat :=
  let al := rst st 6
  let sn := rst st 4
  let so := rst st 5
  let dp := rst st 3
  let bl := rst st 7
  if bitOf al 3 && !testFn (fld al 2 0) frag.a (fld al 13 4) then old
  else if bitOf sn 3 && !testFn (fld sn 2 0) (fld sn 11 4 &&& fld sn 19 12) (old.2 % 256 &&& fld sn 19 12) then (old.1, putStencil sn (fld so 2 0) old.2)
  else if bitOf dp 3 && !testFn (fld dp 2 0) z (old.2 / 256) then (old.1, if bitOf sn 3 then putStencil sn (fld so 6 4) old.2 else old.2)
  else
    let d1 := if bitOf sn 3 then putStencil sn (fld so 10 8) old.2 else old.2
    let d2 := if bitOf dp 4 && e.hasDs then z * 256 + d1 % 256 else d1
    let out := if bitOf bl 16 then blendFrag bl (rst st 8) frag (targetPx e.format old.1) else frag
    (maskedStore e.format (fld bl 23 20) (storePx e.format out) old.1, d2)

/-- A CLEAR on a pixel (R381). -/
def FragEnv.clear (e : FragEnv) (st : Tbl Nat) (arg word : Nat) (old : Nat × Nat) : Nat × Nat :=
  let c := if bitOf arg 0 then maskedStore e.format (fld (rst st 7) 23 20) (storePx e.format (argbPx (fld word 31 0))) old.1 else old.1
  let d1 := if bitOf arg 1 then fld word 55 32 * 256 + old.2 % 256 else old.2
  let wm := fld (rst st 4) 27 20
  (c, if bitOf arg 2 then d1 / 256 * 256 + ((fld word 63 56 &&& wm) ||| (d1 % 256 &&& (255 - wm))) else d1)

/-- A pixel lies in a box. -/
def inBox (b : Nat × Nat × Nat × Nat) (x y : Nat) : Bool := decide (b.1 ≤ x) && decide (b.2.1 ≤ y) && decide (x ≤ b.2.2.1) && decide (y ≤ b.2.2.2)

/-- One item applied to a pixel's stored values, in stream order (R398). General mode is not specified bit for bit: a free value of its inputs (R407, R408, log entry 5). -/
def FragEnv.apply (e : FragEnv) (gen : RItem → Nat → Nat → Nat × Nat → Nat × Nat) (x y : Nat) (old : Nat × Nat) (it : RItem) : Nat × Nat :=
  if !inBox it.box x y then old
  else
    match it.kind with
    | .clear arg word => e.clear it.state arg word old
    | .tri area a b c =>
      if coversTri a b c x y then
        let w := weightsAt a b c x y
        e.tests it.state (e.shade it.state area a b c x y) (interp w.1 w.2.1 w.2.2 area a.z b.z c.z).toNat old
      else old
    | .general _ => gen it x y old

end Sys2Proof.Machine
end

