-- ==== Sys2Proof/Machine/Raster.lean ====
section
/-! DEFINITION. Chapter 10: raster jobs, tile passes, combiner programs and raster status. -/

namespace Sys2Proof.Machine

/-! ## Jobs -/

/-- A job by its work number. -/
def State.rjob (s : State) (n : Nat) : Option RJob := s.ras.jobs.find? (fun j => j.work == n)

/-- Changes a job. -/
def State.updJob (s : State) (n : Nat) (f : RJob → RJob) : State := { s with ras := { s.ras with jobs := s.ras.jobs.map (fun j => if j.work = n then f j else j) } }

/-- The surfaces a job writes: TARGET, DS_TARGET, HEAP. -/
def RJob.writes (j : RJob) : List Nat := (([j.target, j.ds, j.f 2 31 0].filter (· != 0)).map uKey).eraseDups

/-- The surfaces a job reads: STREAM and textures. -/
def RJob.reads (j : RJob) : List Nat := (((j.f 2 63 32 :: (List.range 8).map j.texture).filter (· != 0)).map uKey).eraseDups

/-- The surfaces a job names, as its packet has them. -/
def RJob.named (j : RJob) : List Nat := [j.target, j.ds, j.f 2 31 0, j.f 2 63 32] ++ (List.range 8).map j.texture

/-- A job record from a packet. -/
def jobOf (n : Nat) (w : Who) (p : Packet) : RJob :=
  { work := n, who := w, seq := p.seq.toNat, words := (List.range 10).map (pkW p), programs := [], palettes := [], bound := false, holds := false, admitted := false, started := false, stopped := false,
    items := [], rounds := [], round := 0, fail := none, done := [], splits := 0, used := 0 }

/-- The formats of a colour target (R371). -/
def targetFormat (general : Bool) (f : Nat) : Bool := f == 0x01 || f == 0x02 || f == 0x03 || f == 0x08 || (general && f == 0x04)

/-- The formats of a texture. -/
def textureFormat (general : Bool) (f : Nat) : Bool := f == 0x01 || f == 0x02 || f == 0x03 || f == 0x08 || f == 0x09 || (general && f == 0x04)

/-- A target's size of R371. -/
def targetSize (sf : Surf) : Bool := decide (1 ≤ sf.width) && decide (sf.width ≤ 16384) && decide (1 ≤ sf.height) && decide (sf.height ≤ 16384)

/-- Step 7 of RASTER_JOB (Table 10.3). -/
def rasterForm (s : State) (w : Who) (p : Packet) : Bool :=
  let j := jobOf 0 w p
  pkLen p 10 && j.f 0 31 8 == 0 && j.f 0 6 6 == 0 && j.f 0 3 1 == 0 && decide (1 ≤ j.cost) &&
    (s.surf j.target).elim false (fun t =>
      targetFormat j.general t.format && targetSize t &&
      decide (1 ≤ j.f 4 47 32) && decide (1 ≤ j.f 4 63 48) && decide (j.f 4 15 0 + j.f 4 47 32 ≤ t.width) && decide (j.f 4 31 16 + j.f 4 63 48 ≤ t.height) &&
      (j.ds == 0 || (s.surf j.ds).elim false (fun d => (planesOf d.format).length == 1 && (d.shape.plane 0).bits == 32 && d.width == t.width && d.height == t.height && decide (d.layout ≤ 1)))) &&
    (s.surf (j.f 2 63 32)).elim false (fun st => multOf 8 (j.f 3 31 0) && multOf 8 (j.f 3 63 32) && decide (8 ≤ j.f 3 63 32) && decide (j.f 3 31 0 + j.f 3 63 32 ≤ st.size * 65536)) &&
    (s.surf (j.f 2 31 0)).isSome &&
    (List.range 8).all (fun n => j.texture n == 0 || (s.surf (j.texture n)).elim false (fun t => textureFormat j.general t.format))

/-- Step 9 of RASTER_JOB: an instance with RASTER_US, and grants for every surface (R371, R199). -/
def mayRaster (s : State) (w : Who) (p : Packet) : Bool :=
  let j := jobOf 0 w p
  let ok (write : Bool) (u : Nat) : Bool := (s.surf u).elim false (fun sf => sf.mayUse w write)
  !w.secure && decide (0 < (s.core.share w.inst).elim 0 Share.rasterUs) && j.writes.all (ok true) && j.reads.all (ok false)

/-- Step 12 of RASTER_JOB (R372). -/
def rasterCheck (s : State) (w : Who) (p : Packet) : Option Rsp :=
  let j := jobOf 0 w p
  let gone (u : Nat) : Bool := (s.surf u).elim true Surf.releasing
  let shown (u : Nat) : Bool := (s.surf u).elim false Surf.onScreen
  if !s.bandIn w.inst j.band || (j.band == 0 && !s.authed w) || (j.band == 0 && s.regulated && (j.general || j.f 0 7 7 == 0)) then some (Rsp.plain .refusedBand)
  else if (s.core.share w.inst).elim 0 Share.rasterUs < j.cost then some (Rsp.code .refusedShare 0x50)
  else
    let h := (s.surf (j.f 2 31 0)).elim 0 Surf.size
    if h < 16 then some (Rsp.code .refusedHeapSmall h)
    else (j.named.find? (fun u => u != 0 && (gone u || (shown u && j.writes.contains (uKey u))))).map (fun u => Rsp.code .refusedLocked u)

/-- True where a waiting job may take its references now: no load keeps it back, no earlier job waits for a surface of it, no other work is in the way (R204, R373, R393). -/
def State.canHold (s : State) (j : RJob) : Bool :=
  let earlier := (s.ras.jobs.takeWhile (fun k => k.work != j.work)).filter (fun k => !k.holds)
  !(earlier.any (fun k => (k.writes.any (fun u => j.writes.contains u || j.reads.contains u)) || k.reads.any (fun u => j.writes.contains u))) &&
  j.bound &&
  j.writes.all (fun u => (s.surf u).elim false (fun sf => sf.refs.isEmpty)) &&
  j.reads.all (fun u => (s.surf u).elim false (fun sf => !sf.written)) &&
  (j.writes ++ j.reads).all (fun u => !s.lockFull (uNum u))

/-- True where a job waits for want of a lock table entry (R208). -/
def State.lockShort (s : State) (j : RJob) : Bool := (j.writes ++ j.reads).any (fun u => s.lockFull (uNum u))

/-- The programs in force of an instance, by slot. -/
def Ras.programsOf (r : Ras) (inst : Nat) : Tbl (List Nat) := (Tbl.keep r.programs (fun k _ => k / 16 == inst)).map (fun e => (e.1 % 16, e.2))

/-- A job with the programs and palettes in force, where no load of its instance waits (R189, R393). -/
def State.bindJob (s : State) (j : RJob) : RJob :=
  if j.bound || s.ras.loads.any (fun l => l.1 == j.who.inst) then j
  else { j with bound := true, programs := s.ras.programsOf j.who.inst, palettes := (List.range 8).map (fun i => (i, (s.surf (j.texture i)).elim [] Surf.palette)) }

/-- Takes a job's references (R372, R203). -/
def State.takeJob (s : State) (n : Nat) : State :=
  match s.rjob n with
  | none => s
  | some j =>
    if j.holds || !s.canHold j then s
    else
      let s1 := j.writes.foldl (fun t u => t.takeRef (uNum u) true (.work n)) s
      let s2 := j.reads.foldl (fun t u => if j.writes.contains u then t else t.takeRef (uNum u) false (.work n)) s1
      s2.updJob n (fun x => { x with holds := true })

/-- Admits a job's engine time where it fits and charges it (R373, R374). -/
def State.admitJob (s : State) (n : Nat) : State :=
  match s.rjob n with
  | none => s
  | some j =>
    if j.holds && !j.admitted && s.engineFits 0 j.who.inst j.band j.cost then (s.charge 0 j.who.inst j.band j.cost).updJob n (fun x => { x with admitted := true })
    else s

/-- Admission of a job that passed every check. -/
def rasterRun (s : State) (w : Who) (p : Packet) : Verdict :=
  let (s1, n) := s.newWork
  let s2 := { s1 with ras := { s1.ras with jobs := s1.ras.jobs ++ [s.bindJob (jobOf n w p)] } }
  let s3 := (s2.takeJob n).admitJob n
  match s3.rjob n with
  | none => .silent s3 (.work n)
  | some j =>
    if !j.holds then .delayed (if s.lockShort j then s3.countLockWait else s3) (Rsp.plain .delayedUnitBusy) (.work n) true
    else if !j.admitted && decide (j.band ≤ 1) then .delayed s3 (Rsp.plain .delayedShare) (.work n) true
    else .silent s3 (.work n)

/-- UNIT is raster core 0, for the engine as a whole (Table 10.2). -/
def atRaster (_ : State) (_ : Who) (p : Packet) : Bool := pkIs p 0x30 && uIdx (pkUnit p) == 0

/-- RASTER_JOB (R371 to R374). -/
def cmdRasterJob : Cmd :=
  { opcode := 0x0500, forms := .setOnly, secure := false, always := false, form := rasterForm, qform := bufForm, unitOk := atRaster, may := mayRaster, active := ownActive,
    check := rasterCheck, run := rasterRun, ask := noAsk }

/-- RASTER_JOB. -/
def execRasterJob (port : Port) (s : State) : Host.Outcome State Fault Refusal := s.ends (cmdRasterJob.exec port s)

/-! ## Passes -/

/-- Tiles per row of the target. -/
def State.perRow (s : State) (j : RJob) : Nat := (s.surf j.target).elim 1 (fun t => ceilDiv t.width 32)

/-- The end of the round in progress: an item number. -/
def RJob.roundEnd (j : RJob) : Nat := j.rounds.getD j.round j.items.length

/-- True where a box touches a tile. -/
def boxHas (perRow : Nat) (b : Nat × Nat × Nat × Nat) (t : Nat) : Bool :=
  let i := t % perRow
  let r := t / perRow
  decide (b.1 / 32 ≤ i) && decide (i ≤ b.2.2.1 / 32) && decide (b.2.1 / 32 ≤ r) && decide (r ≤ b.2.2.2 / 32)

/-- Items of a tile from its place up to an end. -/
def RJob.todo (j : RJob) (t upto : Nat) : List RItem := let d := Tbl.at j.done 0 t; (j.items.take upto).drop d

/-- The tiles that the round in progress still has to render, not counting those a core holds. -/
def State.tilesLeft (s : State) (j : RJob) : List Nat :=
  let pr := s.perRow j
  (boxTiles pr j.scissor).filter (fun t => (j.todo t j.roundEnd).any (fun it => boxHas pr it.box t) && !(s.ras.cores.any (fun e => e.2.work == j.work && e.2.tile == t)))

/-- A job's rank for tile passes (R374, R126): within its cost at its band's rank, beyond it at step 3 for bands A and B. -/
def RJob.rank (j : RJob) : Nat := if j.band ≤ 1 then (if j.used ≤ j.cost then 1 + j.band else 3) else 2 + j.band

/-- Started jobs in rank order. -/
def State.ranked (s : State) : List RJob := (s.ras.jobs.filter (fun j => j.started && !j.stopped)).mergeSort (fun a b => decide (a.rank ≤ b.rank))

/-- An idle, active core takes the first tile left (R370). The choice of core and tile is the device's (DESIGN CHOICE, log entry 40). -/
def State.takeTile (s : State) (c : Nat) : State :=
  if Tbl.has s.ras.cores c || !s.isActive (uid 0x30 c 0) then s
  else
    match s.ranked.findSome? (fun j => (s.tilesLeft j).head?.map (fun t => (j, t))) with
    | some (j, t) => { s with ras := { s.ras with cores := Tbl.put s.ras.cores c { work := j.work, tile := t, flush := decide (j.round + 1 < j.rounds.length) } } }
    | none => s

/-- Every core takes a tile. -/
def State.takeTiles (s : State) : State := (List.range 4).foldl State.takeTile s

/-- What a job's fragments see of its surfaces. -/
def State.fragEnv (s : State) (j : RJob) : FragEnv :=
  let tx (n : Nat) : Option Surf := if n < 8 then s.surf (j.texture n) else none
  { format := (s.surf j.target).elim 1 Surf.format, hasDs := j.ds != 0,
    tex := fun n => (tx n).map (fun sf => (sf, Tbl.at j.palettes [] n)),
    raw := fun n x y => (tx n).elim 0 (fun sf => s.elem sf 0 x y),
    prog := fun k => if k = 15 then builtIn else Tbl.at j.programs [] k }

/-- General mode on a pixel (R407, R408): a free function of the stream's words, the textures and what the pixel held. -/
def State.generalItem (s : State) (j : RJob) (it : RItem) (x y : Nat) (old : Nat × Nat) : Nat × Nat :=
  let raw := match it.kind with | .general r => r | _ => []
  let texs := (List.range 8).map (fun n => (s.surf (j.texture n)).elim [] (fun sf => s.surfRead sf 0 (sf.size * 65536)))
  let new := Config.generalPixel [j.words, raw, it.state.flatMap (fun e => [e.1, e.2])] texs (x, y) old
  (maskedStore ((s.surf j.target).elim 1 Surf.format) 15 new.1 old.1, if j.ds = 0 then old.2 else new.2 % 2 ^ 32)

/-- The stored colour and depth-stencil word of a pixel. -/
def State.pixelOf (s : State) (j : RJob) (x y : Nat) : Nat × Nat :=
  ((s.surf j.target).elim 0 (fun t => s.elem t 0 x y), if j.ds = 0 then 0 else (s.surf j.ds).elim 0 (fun d => s.elem d 0 x y))

/-- A pixel after the items of a list. -/
def State.pixelAfter (s : State) (j : RJob) (its : List RItem) (x y : Nat) : Nat × Nat :=
  its.foldl ((s.fragEnv j).apply (s.generalItem j) x y) (s.pixelOf j x y)

/-- Renders a rectangle: each pixel takes the items left to its tile up to an end (R370, R398). -/
def State.renderRect (s : State) (j : RJob) (upto x y w h : Nat) : State :=
  let pr := s.perRow j
  let f (a b : Nat) : Nat × Nat := s.pixelAfter j (j.todo (b / 32 * pr + a / 32) upto) a b
  let s1 := s.putRect (uNum j.target) 10 (some j.who.inst) j.who.slice 0 x y w h (fun a b => (f a b).1)
  if j.ds = 0 then s1 else s1.putRect (uNum j.ds) 10 (some j.who.inst) j.who.slice 0 x y w h (fun a b => (f a b).2)

/-- The blocks of TBC textures that a rectangle's fragments read: texture entry and block (R388, R198). -/
def State.texBlocks (s : State) (j : RJob) (upto x y w h : Nat) : List (Nat × Nat) :=
  let e := s.fragEnv j
  let pr := s.perRow j
  if !(List.range 8).any (fun n => (s.surf (j.texture n)).elim false (fun sf => sf.layout == 2)) then []
  else
    ((List.range h).flatMap (fun b => (List.range w).flatMap (fun a =>
      (j.todo ((y + b) / 32 * pr + (x + a) / 32) upto).flatMap (fun it =>
        match it.kind with
        | .tri area va vb vc =>
          if inBox it.box (x + a) (y + b) && coversTri va vb vc (x + a) (y + b) then
            (List.range 4).flatMap (fun n =>
              match e.unit it.state n with
              | some u =>
                let q := texAt area (weightsAt va vb vc (x + a) (y + b)) va vb vc n
                if u.sf.layout = 2 then (u.taps q.1 q.2).filterMap (fun t => (u.at t.1 t.2).map (fun xy => (fld u.word 3 0, u.sf.shape.blockOf 0 xy.1 xy.2))) else []
              | none => [])
          else []
        | _ => [])))).dedup

/-- Counts and records the TBC errors that a rectangle's pass meets in its target and textures (R198). -/
def State.passTbc (s : State) (j : RJob) (upto x y w h : Nat) : State :=
  let tgt := (s.surf j.target).elim [] (fun sf => s.tbcErrors sf 0 x y w h)
  let tex := (s.texBlocks j upto x y w h).filter (fun e => (s.surf (j.texture e.1)).elim false (fun sf => (s.tbcBlock sf 0 e.2).isNone))
  let s1 := s.tbcRecords (uNum j.target) 0 tgt
  let s2 := tex.foldl (fun t e => t.tbcRecords (uNum (j.texture e.1)) 0 [headerAt e.2]) s1
  { s2 with ras := { s2.ras with tbcErr := satAdd s2.ras.tbcErr (tgt.length + tex.length) } }

/-- Swaps in the loads of instances that have no admitted job left; the jobs they kept back are admitted (R393). -/
def State.swapPrograms (s : State) : State :=
  let ready := s.ras.loads.filter (fun l => !(s.ras.jobs.any (fun j => j.who.inst == l.1 && j.bound)))
  let s1 := ready.foldl (fun t l => { t with ras := { t.ras with programs := Tbl.put t.ras.programs (l.1 * 16 + l.2.1) l.2.2.1, loads := t.ras.loads.filter (fun k => k.2.2.2 != l.2.2.2) } }.finishWork l.2.2.2 (Rsp.plain .served)) s
  { s1 with ras := { s1.ras with jobs := s1.ras.jobs.map s1.bindJob } }

/-- Ends a job: references released, its completion, banks swapped. -/
def State.endJob (s : State) (j : RJob) (r : Rsp) : State :=
  let s1 := { s with ras := { s.ras with jobs := s.ras.jobs.filter (fun k => k.work != j.work), cores := Tbl.keep s.ras.cores (fun _ c => c.work != j.work) } }
  ((s1.dropWork j.work).finishLate j.work j.band r).swapPrograms

/-- Partial flushes of a job. -/
def RJob.flushes (j : RJob) : Nat := j.rounds.length - 1

/-- A job's completion (R374, R376). -/
def RJob.rsp (j : RJob) : Rsp :=
  match j.fail with
  | some (st, code, off) => { st := st, r0 := code, r1 := off, r2 := j.flushes }
  | none =>
    let prims := (j.items.filter (fun it => match it.kind with | .clear _ _ => false | _ => true)).length
    Rsp.ok (min j.used 0xFFFFFFFF) (min j.flushes 65535 + min j.splits 65535 * 65536) (min prims 0xFFFFFFFF)

/-- Begins a job: the stream check (R375), binning (R376, R377), the first tiles. -/
def State.beginJob (s : State) (j : RJob) : State :=
  match (j.writes ++ j.reads).findSome? (fun u => (s.surf u).bind (fun sf => if (s.readBase sf).isNone then some sf.home else none)), s.surf (j.f 2 63 32), s.surf (j.f 2 31 0) with
  | some g, _, _ => s.endJob j (Rsp.code .failedMemory g)
  | none, some st, some hp =>
    let read (off n : Nat) : List Byte := s.surfRead st (j.f 3 31 0 + off) n
    if j.f 0 7 7 == 1 && crc64 (read 0 (j.f 3 63 32)) != j.words.getD 5 0 then s.endJob j (Rsp.code .failed 0x0030)
    else
      let cap := (hp.size * 65536 - 65536) / 64
      let b := j.bin (s.perRow j) (j.f 3 63 32) read (j.f 3 63 32 / 8 + 1) 0 { state := [], items := [], rounds := [], heap := Heap.fresh cap false, guardDrop := 0, fail := none }
      let s1 := { s with ras := { s.ras with guardDrop := satAdd s.ras.guardDrop b.guardDrop } }
      (s1.updJob j.work (fun x => { x with started := true, items := b.items.reverse, rounds := (b.items.length :: b.rounds).reverse, fail := b.fail })).takeTiles
  | none, _, _ => s.endJob j (Rsp.plain .failedUnitReset)

/-- RASTER_JOB_START (R373): waiting jobs take the references that came free, in journal order; the first admitted job in rank starts. A surface freed while a job waited for it refuses the job. -/
def execRasterJobStart (s : State) : Host.Outcome State Fault Refusal :=
  s.ends (
    let ns := s.ras.jobs.map RJob.work
    let s1 := ns.foldl (fun t n =>
      match t.rjob n with
      | some j =>
        if j.holds then t
        else match (j.writes ++ j.reads).find? (fun u => (t.surf u).isNone) with
          | some u => t.endJob j (Rsp.code .refusedLocked u)
          | none => t.takeJob n
      | none => t) s
    let s2 := ((s1.ras.jobs.mergeSort (fun a b => decide (a.rank ≤ b.rank))).map RJob.work).foldl State.admitJob s1
    match (s2.ras.jobs.mergeSort (fun a b => decide (a.rank ≤ b.rank))).find? (fun j => j.admitted && !j.started && !j.stopped) with
    | some j => s2.beginJob j
    | none => s2)

/-- Moves a job to its next round where the round in progress has nothing left (R404). -/
def State.nextRound (s : State) (n : Nat) : State :=
  match s.rjob n with
  | none => s
  | some j =>
    if j.round + 1 < j.rounds.length ∧ (s.tilesLeft j).isEmpty ∧ !(s.ras.cores.any (fun e => e.2.work == n)) then
      { s with ras := { s.ras with flushCount := satInc s.ras.flushCount } }.updJob n (fun x => { x with round := x.round + 1 })
    else s

/-- Ends a stopped job whose last tile is stored (R376, R400). -/
def State.endStopped (s : State) (n : Nat) : State :=
  match s.rjob n with
  | some j => if j.stopped && !(s.ras.cores.any (fun e => e.2.work == n)) then s.endJob j (Rsp.code .failed 0x0020) else s
  | none => s

/-- A core's pass ends after some items of its tile's list (R370, R400). -/
def State.passEnd (s : State) (core us skipped : Nat) (items : Option Nat) : State :=
  match Tbl.find s.ras.cores core with
  | none => s
  | some c =>
    match s.rjob c.work, (s.rjob c.work).bind (fun j => s.surf j.target) with
    | some j, some t =>
      let pr := s.perRow j
      let x := c.tile % pr * 32
      let y := c.tile / pr * 32
      let w := min 32 (t.width - x)
      let h := min 32 (t.height - y)
      let upto := match items with | some k => min j.roundEnd (Tbl.at j.done 0 c.tile + k) | none => j.roundEnd
      let s1 := (s.passTbc j upto x y w h).renderRect j upto x y w h
      let split := items.isSome
      let s2 := { s1 with ras := { s1.ras with cores := Tbl.del s1.ras.cores core, hsrSkip := satAdd s1.ras.hsrSkip skipped, passSplit := if split then satInc s1.ras.passSplit else s1.ras.passSplit } }
      let s3 := s2.updJob j.work (fun k => { k with done := Tbl.put k.done c.tile upto, used := k.used + us, splits := k.splits + b2n split })
      ((s3.nextRound j.work).endStopped j.work).takeTiles
    | _, _ => { s with ras := { s.ras with cores := Tbl.del s.ras.cores core } }

/-- TILE_PASS_DONE (R370): a core's pass stores its tile with the whole of its list; us is the engine time the pass took, skipped what hidden-surface removal left out (R399). -/
def execTilePassDone (core us skipped : Nat) (s : State) : Host.Outcome State Fault Refusal := s.ends (s.passEnd core us skipped none)

/-- TILE_PASS_SPLIT (R400): a pass of 100 floor-µs ends after some items and leaves the rest to a later pass. -/
def execTilePassSplit (core us skipped items : Nat) (s : State) : Host.Outcome State Fault Refusal := s.ends (s.passEnd core us skipped (some items))

/-- RASTER_JOB_DONE (R374, R398): a job ends; passes that no event reported are taken as done, and us is the engine time they took. -/
def execRasterJobDone (work us : Nat) (s : State) : Host.Outcome State Fault Refusal :=
  s.ends (
    match s.rjob work with
    | none => s
    | some j =>
      if !j.started || j.stopped then s
      else
        let sc := j.scissor
        let n := j.items.length
        let w := sc.2.2.1 + 1 - sc.1
        let h := sc.2.2.2 + 1 - sc.2.1
        let s1 := if (boxTiles (s.perRow j) sc).any (fun t => (j.todo t n).any (fun it => boxHas (s.perRow j) it.box t)) then (s.passTbc j n sc.1 sc.2.1 w h).renderRect j n sc.1 sc.2.1 w h else s
        let s2 := { s1 with ras := { s1.ras with flushCount := satAdd s1.ras.flushCount (j.rounds.length - 1 - j.round) } }
        (s2.endJob j { j with used := j.used + us }.rsp).takeTiles)

/-! ## Cancelling, programs, status -/

/-- Stops a job: one not started ends at once, a started one when its cores have stored their tiles (R376, R400). -/
def State.stopJob (s : State) (j : RJob) : State := (s.updJob j.work (fun x => { x with stopped := true })).endStopped j.work

/-- The slice that RASTER_CANCEL's word 1 names: a slice's unit ID, or a slice index of the issuing instance (DESIGN CHOICE, log entry 41). -/
def cancelSlice (w : Who) (p : Packet) : Nat × Nat := if uCls (pkW p 1) = 0x02 then (uIdx (pkW p 1), uSub (pkW p 1)) else (w.inst, pkW p 1)

/-- The job that RASTER_CANCEL names. -/
def State.cancelJob (s : State) (w : Who) (p : Packet) : Option RJob :=
  let sl := cancelSlice w p
  s.ras.jobs.find? (fun j => j.seq == pkW p 0 && j.who.inst == sl.1 && j.who.slice == sl.2 && !j.who.secure)

/-- RASTER_CANCEL (R376): the issuer of the job, or the PF. -/
def cmdRasterCancel : Cmd :=
  { opcode := 0x0501, forms := .setOnly, secure := false, always := false, form := fun _ _ p => pkLen p 2 && decide (pkW p 0 < 2 ^ 32) && decide (pkW p 1 < 2 ^ 32), qform := bufForm, unitOk := atRaster,
    may := fun s w p => !w.secure && (w.inst == 0 || (s.cancelJob w p).elim false (fun j => j.who.inst == w.inst)), active := ownActive, check := noCheck,
    run := fun s w p => .done ((s.cancelJob w p).elim s s.stopJob) (Rsp.plain .served), ask := noAsk }

/-- RASTER_CANCEL. -/
def execRasterCancel (port : Port) (s : State) : Host.Outcome State Fault Refusal := s.ends (cmdRasterCancel.exec port s)

/-- The nine words of a program. -/
def progWords (bs : List Byte) : List Nat := (List.range 9).map (fun i => ofLe ((bs.drop (8 * i)).take 8))

/-- RASTER_COMBINER_LOAD (R393); the query form returns the 15 programs in force, slot 0 first, or with word 2 that slot's alone (DESIGN CHOICE, log entry 42). -/
def cmdRasterCombinerLoad : Cmd :=
  { opcode := 0x0502, forms := .both, secure := false, always := false,
    form := fun s w p => pkLen p 2 && decide (pkW p 0 ≤ 14) && multOf 8 (pkW p 1) && (match (s.hostRead w (pkW p 1) 72).2 with | .ok bs => programOk (progWords bs) | .error _ => true),
    qform := fun _ _ p => pkLen p 2 || (pkLen p 3 && decide (pkW p 2 ≤ 14)),
    unitOk := atRaster, may := fun _ w _ => !w.secure, active := ownActive, check := noCheck,
    run := fun s w p =>
      match s.hostRead w (pkW p 1) 72 with
      | (s1, .error e) => let r := s1.dataFault w e false; .done r.1 r.2
      | (s1, .ok bs) =>
        if s1.ras.jobs.any (fun j => j.who.inst == w.inst && j.bound) then
          let (s2, n) := s1.newWork
          .delayed { s2 with ras := { s2.ras with loads := s2.ras.loads ++ [(w.inst, pkW p 0, progWords bs, n)] } } (Rsp.plain .delayedUnitBusy) (.work n) true
        else .done { s1 with ras := { s1.ras with programs := Tbl.put s1.ras.programs (w.inst * 16 + pkW p 0) (progWords bs) } } (Rsp.plain .served),
    ask := fun s w p =>
      let slots := if pkLen p 3 then [pkW p 2] else List.range 15
      s.answerWords w p (slots.flatMap (fun k => ((List.range 9).map (fun i => BitVec.ofNat 64 ((Tbl.at s.ras.programs [] (w.inst * 16 + k)).getD i 0))))) }

/-- RASTER_COMBINER_LOAD. -/
def execRasterCombinerLoad (port : Port) (s : State) : Host.Outcome State Fault Refusal := s.ends (cmdRasterCombinerLoad.exec port s)

/-- Jobs running and waiting as RAS_STATUS codes them (Table 10.10), of all instances or one. -/
def Ras.counts (r : Ras) (inst : Option Nat) : Nat :=
  let js := r.jobs.filter (fun j => inst.elim true (fun i => j.who.inst == i))
  min 255 (js.filter RJob.started).length * 65536 + min 65535 (js.filter (fun j => !j.holds)).length

/-- RAS_STATUS (Table 10.10). -/
def Ras.status (r : Ras) : Nat := (r.cores.map (fun e => 2 ^ (28 + e.1))).foldl (· + ·) 0 + r.counts none

/-- RAS_CORE_STATUS[c] (Table 10.11). -/
def State.rasCore (s : State) (c : Nat) : Nat :=
  match Tbl.find s.ras.cores c with
  | some k => (if k.flush then 2 else 1) * 2 ^ 30 + ((s.rjob k.work).elim 0 (fun j => j.who.inst)) * 2 ^ 24 + k.tile
  | none => if Tbl.at s.pwr.dom .off 1 == .off then 3 * 2 ^ 30 else 0

/-- RASTER_STATUS: the PF, or an instance for its own jobs. -/
def cmdRasterStatus : Cmd :=
  { opcode := 0x0503, forms := .queryOnly, secure := false, always := false, form := fun _ _ p => pkLen p 0, qform := fun _ _ p => pkLen p 0, unitOk := atRaster, may := fun _ w _ => !w.secure, active := ownActive, check := noCheck, run := noRun,
    ask := fun s w _ => (s, Rsp.ok (if w.inst = 0 then s.ras.status else s.ras.counts (some w.inst)) s.ras.flushCount s.ras.passSplit) }

/-- RASTER_STATUS. -/
def execRasterStatus (port : Port) (s : State) : Host.Outcome State Fault Refusal := s.ends (cmdRasterStatus.exec port s)

end Sys2Proof.Machine
end

