-- ==== Sys2Proof/Machine/Security.lean ====
section
/-! DEFINITION. Chapter 15: sessions, leases, measurements, attestation, approved list, lock bits, SEC restarts, debug certificates, tamper inputs (R494 to R526). -/

namespace Sys2Proof.Machine

/-- ASCII bytes of a string. -/
def ascii (t : String) : List Byte := t.toList.map (fun c => BitVec.ofNat 8 c.toNat)

/-! ## Status -/

/-- SEC_MODE (Table 15.10). -/
def State.secMode (s : State) : Nat := b2n s.sec.keyLock * 4 + b2n s.sec.approvedLock * 2 + b2n s.regulated

/-- CERTIFIED (R518). -/
def State.certified (s : State) : Bool :=
  s.fix.lifecycle == 1 && s.regulated && s.sec.approvedLock && s.sec.measLog.all (fun e => !([2, 3, 4, 13].contains e.1) || s.sec.approved.any (fun a => a.1 == e.2)) && !s.sec.siSince && !s.sec.decertified &&
    s.sec.run != .gaveUp

/-- FLAGS of an attestation report (Table 15.7). -/
def State.attestFlags (s : State) : Nat :=
  let e := s.sec.dbgEnables
  b2n s.certified + b2n s.regulated * 2 + fld e 3 3 * 4 + fld e 2 2 * 8 + fld e 1 1 * 16 + fld e 0 0 * 32 + b2n s.sec.siSince * 64 + b2n (!s.sec.tamperLatched.isEmpty) * 128 + b2n (s.sec.leases.any (fun e => !e.2)) * 256 + b2n s.fix.gradeX * 512

/-- Bits as a number, the first lowest. -/
def bitsNum (l : List Bool) : Nat := l.foldr (fun b a => b2n b + 2 * a) 0

/-- A measurement register. -/
def State.measOf (s : State) (n : Nat) : List Byte := Tbl.at s.sec.meas (List.replicate 48 0) n

/-- The lock snapshot (Table 15.9). -/
def State.lockBytes (s : State) : List Byte :=
  le 1 (bitsNum [s.mem.a.lock, s.mem.b.lock, s.mem.a.rgnLock, s.mem.b.rgnLock, s.led.veilLock, s.aud.hpLock, s.regulated, s.sec.approvedLock]) ++ le 1 (bitsNum [s.sec.keyLock, s.peat.retainLock]) ++
    le 1 (bitsNum ((List.range 8).map (fun n => bitOf (Tbl.cnt s.sec.tamperCfg n) 31))) ++ [0] ++
    le 4 (bitsNum ((List.range 32).map (fun n => (Tbl.find s.sec.sramRgn n).elim false (fun r => bitOf r.attr 31)))) ++
    le 8 (bitsNum ((List.range 64).map (fun n => (Tbl.find s.mem.a.rgn n).elim false (fun r => bitOf r.attr 31)))) ++
    le 8 (bitsNum ((List.range 64).map (fun n => (Tbl.find s.mem.b.rgn n).elim false (fun r => bitOf r.attr 31)))) ++ List.replicate 8 0

/-- Bytes 0 to 911 of an attestation report (Table 15.7). -/
def State.reportBody (s : State) (nonce : List Byte) : List Byte :=
  ascii "TAOTHATT" ++ le 2 1 ++ le 2 s.attestFlags ++ le 4 s.sec.bootCount ++ le 16 s.fix.serial ++ fit 32 nonce ++ le 8 s.core.now ++ le 8 s.core.jrn.durable ++ keyId s.sec.sealKey ++
    (List.range 16).flatMap s.measOf ++ s.lockBytes ++ le 4 s.sec.restarts ++ le 1 (bitsNum ((List.range 8).map (fun n => s.sec.tamperLatched.contains n))) ++ le 1 s.fix.lifecycle ++
    le 1 (b2n s.fix.bootNand + b2n s.sec.bootedB * 128) ++ List.replicate 9 0

/-- The signed report (R517). -/
def State.report (s : State) (nonce : List Byte) : List Byte :=
  let body := s.reportBody nonce
  fit 1024 (body ++ deviceSign s.fix.identityKey (sha384 body))

/-- DBG_STATUS (R629). -/
def State.dbgStatus (s : State) : Nat := s.sec.dbgEnables + s.fix.lifecycle * 16 + b2n s.sec.dbgLocked * 256

/-- DBG_CERT_FAIL (R629). -/
def State.dbgFail (s : State) : Nat := s.sec.dbgAccessFail * 65536 + s.sec.dbgCertFail

/-! ## Sessions -/

/-- Ends the sessions of the slices a test picks (R503). -/
def State.endSessions (s : State) (pick : Auth → Bool) : State :=
  ({ s with rhz := { s.rhz with auths := Tbl.keep s.rhz.auths (fun _ a => !pick a) } } : State).mapCore (fun c =>
    { c with slices := Tbl.mapVals c.slices (fun _ sl => if sl.auth.elim false pick then { sl with auth := none } else sl) })

/-- The bytes a session response signs (R502); a slice of the master is named with its own position (R566). -/
def sessionBytes (s : State) (w : Who) (ch : Challenge) : List Byte :=
  ascii "TAOTH-SESSION" ++ le 16 s.fix.serial ++ le 4 (match w.remote with | some pos => pos * 2 ^ 28 + sliceUnit w.inst w.slice | none => s.core.here (sliceUnit w.inst w.slice)) ++ le 2 ch.gen.toNat ++ fit 48 ch.value

/-- The challenge a slice holds. -/
def State.challengeOf (s : State) (w : Who) : Option Challenge :=
  match w.remote with
  | some pos => Tbl.find s.rhz.challenges (remoteKey pos w)
  | none => (s.core.slice w.inst w.slice).bind Slice.challenge

/-- Sets or drops the challenge of a slice. -/
def State.putChallenge (s : State) (w : Who) (ch : Option Challenge) : State :=
  match w.remote with
  | some pos => { s with rhz := { s.rhz with challenges := (match ch with | some v => Tbl.put s.rhz.challenges (remoteKey pos w) v | none => Tbl.del s.rhz.challenges (remoteKey pos w)) } }
  | none => s.mapCore (fun c => c.updSlice w.inst w.slice (fun sl => { sl with challenge := ch }))

/-- Opens a session of a slice. -/
def State.putAuth (s : State) (w : Who) (a : Auth) : State :=
  match w.remote with
  | some pos => { s with rhz := { s.rhz with auths := Tbl.put s.rhz.auths (remoteKey pos w) a } }
  | none => s.mapCore (fun c => c.updSlice w.inst w.slice (fun sl => { sl with auth := some a }))

/-- The generation of the issuing slice: this device's, or as the forwarded packet carries it. -/
def State.whoGen (s : State) (w : Who) (p : Packet) : Gen := if w.remote.isSome then p.gen else s.core.genOf (sliceUnit w.inst w.slice)

/-- True where a response verifies: a challenge not older than 10 s, of the slice's generation (R501), and the slot's key. -/
def sessionVerifies (s : State) (w : Who) (p : Packet) : Bool :=
  match s.challengeOf w, Tbl.find s.sec.sessionKeys (pkF p 0 2 0) with
  | some ch, some k => decide (s.core.now ≤ ch.issued + 10 ^ 10) && ch.gen == s.whoGen w p && ecdsaVerify k.key (sha384 (sessionBytes s w ch)) (pkSpan p 1 12)
  | _, _ => false

/-- SEC_SESSION_OPEN (R501, R502, R566); a response that does not verify spends the challenge. -/
def cmdSecSessionOpen : Cmd :=
  { opcode := 0x0F00, forms := .both, secure := true, always := false, form := fun _ _ p => pkLen p 13 && fld (pkW p 0) 63 3 == 0, qform := fun _ _ p => pkLen p 1,
    unitOk := fun _ w p => !w.secure && uKey (pkUnit p) == sliceUnit w.inst w.slice, may := fun _ w _ => !w.secure, active := ownActive, check := noCheck,
    run := fun s w p =>
      let s1 := s.putChallenge w none
      if sessionVerifies s w p then
        .done (s1.putAuth w { slot := pkF p 0 2 0, opened := s.core.now }) (Rsp.ok (pkF p 0 2 0) (b2n ((Tbl.find s.sec.sessionKeys (pkF p 0 2 0)).elim false SessKey.certified)) 0)
      else .done s1 (Rsp.plain .rejectedPermission),
    ask := fun s w p =>
      let v := le 48 (Config.trng s.core.freeCtr).toNat
      let s1 := (s.mapCore (fun c => c.useFree 1)).putChallenge w (some { value := v, issued := s.core.now, gen := s.whoGen w p })
      s1.answer w (pkW p 0) v (Rsp.ok 48 48 0) }

/-- SEC_SESSION_OPEN. -/
def execSecSessionOpen (port : Port) (s : State) : Host.Outcome State Fault Refusal := s.ends (cmdSecSessionOpen.exec port s)

/-- SEC_SESSION_CLOSE (R503). -/
def cmdSecSessionClose : Cmd :=
  { opcode := 0x0F01, forms := .setOnly, secure := true, always := false, form := fun _ _ p => pkLen p 0, qform := bufForm, unitOk := fun s _ p => pkIs p 0x02 && (s.core.slice (uIdx (pkUnit p)) (uSub (pkUnit p))).isSome,
    may := fun _ w p => w.secure || w.inst == 0 || (w.inst == uIdx (pkUnit p) && w.slice == uSub (pkUnit p)), active := ownActive, check := noCheck,
    run := fun s _ p => .done (s.mapCore (fun c => c.updSlice (uIdx (pkUnit p)) (uSub (pkUnit p)) (fun sl => { sl with auth := none }))) (Rsp.plain .served), ask := noAsk }

/-- SEC_SESSION_CLOSE. -/
def execSecSessionClose (port : Port) (s : State) : Host.Outcome State Fault Refusal := s.ends (cmdSecSessionClose.exec port s)

/-- A query of the security group that any instance may issue. -/
def secQuery (opcode : Nat) (form : State → Who → Packet → Bool) (ask : State → Who → Packet → State × Rsp) : Cmd :=
  { opcode := opcode, forms := .queryOnly, secure := decide (opcode < 0x1000), always := false, form := form, qform := form, unitOk := atDevice, may := fun _ w _ => !w.secure, active := ownActive, check := noCheck, run := noRun, ask := ask }

/-- ATTEST (R517); after a SEC give-up nothing can be signed (R524). -/
def cmdAttest : Cmd := secQuery 0x0F02 (fun _ _ p => pkLen p 5) (fun s w p => if s.sec.run = .gaveUp then (s, Rsp.plain .failed) else s.answer w (pkW p 4) (s.report (pkSpan p 0 4)) (Rsp.ok 1024 0 0))

/-- ATTEST. -/
def execAttest (port : Port) (s : State) : Host.Outcome State Fault Refusal := s.ends (cmdAttest.exec port s)

/-- MEASURE_READ (R516). -/
def cmdMeasureRead : Cmd :=
  secQuery 0x0F03 (fun _ _ p => pkLen p 1) (fun s w p => s.answer w (pkW p 0) ((List.range 16).flatMap s.measOf ++ (List.range 16).flatMap (fun n => le 4 (Tbl.cnt s.sec.measCount n))) (Rsp.ok 832 0 0))

/-- MEASURE_READ. -/
def execMeasureRead (port : Port) (s : State) : Host.Outcome State Fault Refusal := s.ends (cmdMeasureRead.exec port s)

/-! ## Lists, keys, modes -/

/-- Entries of an approved list from its bytes. -/
def approvedOf : Nat → List Byte → List (List Byte × Nat)
  | 0, _ => []
  | n + 1, bs => (bs.take 48, (bs.getD 48 0).toNat) :: approvedOf n (bs.drop 64)

/-- True where a list's entries are laid out as R519 says. -/
def approvedOk : Nat → List Byte → Bool
  | 0, _ => true
  | n + 1, bs => [1, 2, 3, 4].contains (bs.getD 48 0).toNat && ((bs.drop 49).take 15).all (· == 0) && approvedOk n (bs.drop 64)

/-- APPROVED_SET (R519): word 0 the list's IOVA, word 1 its entries; the key slot, 4 bytes, and the signature follow the list (log entry 60). -/
def cmdApprovedSet : Cmd :=
  { opcode := 0x0F04, forms := .both, secure := true, always := false, form := fun _ _ p => pkLen p 2 && decide (pkW p 1 ≤ 64), qform := bufForm, unitOk := atDevice, may := pfOrSec, active := ownActive,
    check := fun s _ _ => if s.sec.approvedLock then some (Rsp.plain .refusedLocked) else none,
    run := fun s w p =>
      let n := pkW p 1
      match s.hostRead w (pkW p 0) (64 * n + 100) with
      | (s1, .error f) => let d := s1.dataFault w f false; .done d.1 d.2
      | (s1, .ok bs) =>
        let list := bs.take (64 * n)
        let slot := ofLe ((bs.drop (64 * n)).take 4)
        if !approvedOk n list then .done s1 (Rsp.plain .rejectedMalformed)
        else if (Tbl.find s.sec.operatorKeys slot).elim false (fun k => ecdsaVerify k (sha384 list) (bs.drop (64 * n + 4))) then
          .done ({ s1 with sec := { s1.sec with approved := approvedOf n list, approvedWords := [BitVec.ofNat 64 (pkW p 0), BitVec.ofNat 64 n] } }.extend 9 list) (Rsp.plain .served)
        else .done s1 (Rsp.plain .rejectedPermission),
    ask := fun s w p => s.answerWords w p s.sec.approvedWords }

/-- APPROVED_SET. -/
def execApprovedSet (port : Port) (s : State) : Host.Outcome State Fault Refusal := s.ends (cmdApprovedSet.exec port s)

/-- REGULATED_SET (R521). -/
def cmdRegulatedSet : Cmd :=
  { opcode := 0x0F05, forms := .both, secure := true, always := false, form := fun _ _ p => pkLen p 0, qform := bufForm, unitOk := atDevice, may := secOnly, active := ownActive,
    check := fun s _ _ => if s.core.slices.any (fun e => e.2.auth.isSome) || !s.rhz.auths.isEmpty then some (Rsp.plain .refusedLocked) else none,
    run := fun s _ _ =>
      if s.regulated then .done s (Rsp.plain .served)
      else
        let s1 := (s.mapCore (fun c => { c with jrn := { c.jrn with regulated := true } })).extend 10 (le 4 6)
        .done (s1.mapCore (fun c => (c.event 0xFE95 0 0 1 ((s1.measOf 10).take 16)).journalState false)) (Rsp.plain .served),
    ask := fun s w p => s.answerWords w p [] }

/-- REGULATED_SET. -/
def execRegulatedSet (port : Port) (s : State) : Host.Outcome State Fault Refusal := s.ends (cmdRegulatedSet.exec port s)

/-- The slot a KEY_LOAD names (R500). -/
def keyForm (s : State) (_ : Who) (p : Packet) : Bool :=
  let slot := pkF p 0 3 0
  let cert := bitOf (pkW p 0) 8
  let key := pkSpan p 1 12
  pkLen p 13 && decide (slot ≤ 11) && pkF p 0 7 4 == 0 && fld (pkW p 0) 63 9 == 0 && (!cert || decide (4 ≤ slot)) && onP384 (ofBe (key.take 48), ofBe (key.drop 48)) &&
    (!cert || !s.sec.sessionKeys.any (fun e => e.2.certified && e.1 + 4 != slot))

/-- Words 0 to 12 of a key slot as KEY_LOAD sets them (R500). -/
def State.keyWords (s : State) (slot : Nat) : List Word64 :=
  let k := if slot < 4 then (Tbl.find s.sec.operatorKeys slot).map (fun b => (b, false)) else (Tbl.find s.sec.sessionKeys (slot - 4)).map (fun e => (e.key, e.certified))
  match k with
  | some (b, cert) => BitVec.ofNat 64 (slot + b2n cert * 256) :: wordsOf 12 b
  | none => List.replicate 13 0

/-- KEY_LOAD (R500). -/
def cmdKeyLoad : Cmd :=
  { opcode := 0x0F06, forms := .both, secure := true, always := false, form := keyForm, qform := fun _ _ p => pkLen p 3 && decide (pkF p 2 3 0 ≤ 11), unitOk := atDevice, may := secOnly, active := ownActive,
    check := fun s _ _ => if s.sec.keyLock then some (Rsp.plain .refusedLocked) else none,
    run := fun s _ p =>
      let slot := pkF p 0 3 0
      let key := pkSpan p 1 12
      let s1 : State := if slot < 4 then { s with sec := { s.sec with operatorKeys := Tbl.put s.sec.operatorKeys slot key } }
        else { s with sec := { s.sec with sessionKeys := Tbl.put s.sec.sessionKeys (slot - 4) { key := key, certified := bitOf (pkW p 0) 8 } } }
      let s2 := if slot < 4 then s1 else s1.endSessions (fun a => a.slot == slot - 4)
      .done (s2.extend 11 (le 1 slot ++ key)) (Rsp.plain .served),
    ask := fun s w p => s.answerWords w p (s.keyWords (pkF p 2 3 0)) }

/-- KEY_LOAD. -/
def execKeyLoad (port : Port) (s : State) : Host.Outcome State Fault Refusal := s.ends (cmdKeyLoad.exec port s)

/-! ## Leases -/

/-- The leasable classes (R505). -/
def leasable (cls : Nat) : Bool := [0xA0, 0x22, 0x20, 0x60, 0x61, 0x73, 0x10, 0x53].contains cls

/-- The units a lease on a unit covers: itself, or every member of a group. -/
def State.leaseUnits (s : State) (u : Nat) : List Nat := (s.core.leaves s.core.leafFuel [uKey u]).map uKey

/-- LEASE_SET (R505): word 0 names the unit; UNIT names it too, or the device (log entry 61). -/
def cmdLeaseSet : Cmd :=
  { opcode := 0x0F07, forms := .both, secure := true, always := false, form := fun _ _ p => pkLen p 1 && fld (pkW p 0) 63 33 == 0, qform := bufForm,
    unitOk := fun s _ p =>
      let u := if pkQuery p then pkUnit p else pkF p 0 31 0
      let us := s.leaseUnits u
      (pkDevice p || uKey (pkUnit p) == uKey u) && !us.isEmpty && us.all (fun x => leasable (uCls x) && unitInRange x),
    may := secOnly, active := fun _ _ => true,
    check := fun s _ p =>
      let new := (s.leaseUnits (pkF p 0 31 0)).filter (fun u => !Tbl.has s.sec.leases u)
      if !bitOf (pkW p 0) 32 && decide (64 < s.sec.leases.length + new.length) then some (Rsp.code .refusedShare 0x80) else none,
    run := fun s _ p =>
      let us := s.leaseUnits (pkF p 0 31 0)
      .done { s with sec := { s.sec with leases := us.foldl (fun t u => if bitOf (pkW p 0) 32 then Tbl.del t u else Tbl.put t u true) s.sec.leases } } (Rsp.plain .served),
    ask := fun s w p => s.answerWords w p (if Tbl.has s.sec.leases (uKey (pkUnit p)) then [BitVec.ofNat 64 (uKey (pkUnit p))] else []) }

/-- LEASE_SET. -/
def execLeaseSet (port : Port) (s : State) : Host.Outcome State Fault Refusal := s.ends (cmdLeaseSet.exec port s)

/-- Breaks the leases on the units a test picks (R508): each is marked and journaled with the power domain. -/
def State.breakLeases (s : State) (domain : Nat) (pick : Nat → Bool) : State :=
  ((Tbl.keep s.sec.leases (fun u ok => ok && pick u)).map Prod.fst).foldl (fun t u =>
    ({ t with sec := { t.sec with leases := Tbl.put t.sec.leases u false } } : State).mapCore (fun c => c.event 0xFE94 0 u (c.here u) (le 1 domain))) s

/-! ## Tamper inputs -/

/-- TAMPER_SET (R525): word 0 [31:0] as Table 15.11, the input in [34:32] (log entry 62). -/
def cmdTamperSet : Cmd :=
  { opcode := 0x0F08, forms := .both, secure := true, always := false,
    form := fun _ _ p => pkLen p 1 && fld (pkW p 0) 63 35 == 0 && pkF p 0 30 24 == 0 && pkF p 0 15 9 == 0 && pkF p 0 2 2 == 0 && decide (1 ≤ pkF p 0 23 16), qform := bufForm, unitOk := atDevice, may := secOnly, active := ownActive,
    check := fun s _ p => if bitOf (Tbl.cnt s.sec.tamperCfg (pkF p 0 34 32)) 31 then some (Rsp.plain .refusedLocked) else none,
    run := fun s _ p =>
      let n := pkF p 0 34 32
      let s1 : State := { s with sec := { s.sec with tamperCfg := Tbl.put s.sec.tamperCfg n (pkF p 0 31 0) } }
      .done (if bitOf (pkW p 0) 31 then s1.extend 10 (le 4 (16 + n)) else s1) (Rsp.plain .served),
    ask := fun s w p => s.answerWords w p ((List.range 8).map (fun n => BitVec.ofNat 64 (Tbl.cnt s.sec.tamperCfg n + n * 2 ^ 32))) }

/-- TAMPER_SET. -/
def execTamperSet (port : Port) (s : State) : Host.Outcome State Fault Refusal := s.ends (cmdTamperSet.exec port s)

/-- TAMPER_CLEAR (R526): every latched response ends. -/
def cmdTamperClear : Cmd :=
  { opcode := 0x0F09, forms := .setOnly, secure := true, always := false, form := fun _ _ p => pkLen p 0, qform := bufForm, unitOk := atDevice, may := secOnly, active := ownActive, check := noCheck,
    run := fun s _ _ => .done { s with sec := { s.sec with tamperLatched := [] } } (Rsp.plain .served), ask := noAsk }

/-- TAMPER_CLEAR. -/
def execTamperClear (port : Port) (s : State) : Host.Outcome State Fault Refusal := s.ends (cmdTamperClear.exec port s)

/-- The first frame of a frond whose latch point is still to come. -/
def State.nextLatch (s : State) (f : Nat) : Nat := (s.outOf f).elim 0 (fun o => o.2.frames + (if (s.frond f).elim false (fun r => r.next.isSome) then 2 else 1))

/-- Captures every band A region, for the first frame whose latch point follows (R541). -/
def State.tamperCaptures (s : State) : State :=
  let s1 := s.led.regions.foldl (fun t e =>
    if s.isBandA e.2 then let f := s.frondOfPlace e.2.place; t.requestCapture 4 (s.core.here (uidN 0x51 e.1)) f (s.nextLatch f) 0 e.2.inst 0 else t) s
  s.led.sregs.foldl (fun t e => let f := e.1 / 256; t.requestCapture 4 (s.core.here (uid 0x52 f (e.1 % 256))) f (s.nextLatch f) 0 e.2.inst 0) s1

/-- The responses that a TAMPER_CFG value asks for (Table 15.11). -/
def State.tamperResponds (s : State) (cfg : Nat) : State :=
  let s1 := if bitOf cfg 7 then s.endSessions (fun _ => true) else s
  let s2 : State := if bitOf cfg 6 then { s1 with sec := { s1.sec with decertified := true } } else s1
  let s3 := if bitOf cfg 4 then s2.tamperCaptures else s2
  if bitOf cfg 3 then s3.mapCore (fun c => c.irq .secTamper) else s3

/-- The TAMPER event: the response bits of the configuration as its data. -/
def State.tamperEvent (s : State) (n cfg : Nat) (on : Bool) : State := s.mapCore (fun c => c.event 0xFE93 0 0 (n + b2n on * 256) (le 1 (fld cfg 7 3 * 8)))

/-- True where only the sentinel and W_AON are powered (R526). -/
def State.onlyAon (s : State) : Bool := (List.range 12).all (fun d => d == 8 || Tbl.at s.pwr.dom .off d != .on)

/-- TAMPER_ASSERT (R526): an input at its asserted level for ms milliseconds. With only W_AON powered it is latched, and journaled at the boot. -/
def execTamperAssert (input ms : Nat) (s : State) : Host.Outcome State Fault Refusal :=
  s.ends (
    let cfg := Tbl.cnt s.sec.tamperCfg input
    if 8 ≤ input ∨ !bitOf cfg 1 ∨ ms < fld cfg 23 16 ∨ s.sec.tamperOn.contains input then s
    else
      let latch := (bitOf cfg 8 || s.onlyAon) && !s.sec.tamperLatched.contains input
      let s1 : State := { s with sec := { s.sec with tamperOn := s.sec.tamperOn ++ [input], tamperLatched := if latch then s.sec.tamperLatched ++ [input] else s.sec.tamperLatched, tamperHeld := if s.onlyAon then Tbl.put s.sec.tamperHeld input cfg else s.sec.tamperHeld } }
      if s.onlyAon then s1 else (s1.tamperEvent input cfg true).tamperResponds cfg)

/-- TAMPER_RELEASE (R526). -/
def execTamperRelease (input ms : Nat) (s : State) : Host.Outcome State Fault Refusal :=
  s.ends (
    if !s.sec.tamperOn.contains input ∨ ms < fld (Tbl.cnt s.sec.tamperCfg input) 23 16 then s
    else
      let s1 : State := { s with sec := { s.sec with tamperOn := s.sec.tamperOn.filter (· != input) } }
      if s.onlyAon then s1 else s1.tamperEvent input (Tbl.cnt s.sec.tamperCfg input) false)

/-! ## Status and debug -/

/-- SEC_STATUS (R526). -/
def cmdSecStatus : Cmd := secQuery 0x0F0A (fun _ _ p => pkLen p 0) (fun s _ _ => (s, Rsp.ok s.secMode s.attestFlags s.sec.leases.length))

/-- SEC_STATUS. -/
def execSecStatus (port : Port) (s : State) : Host.Outcome State Fault Refusal := s.ends (cmdSecStatus.exec port s)

/-- DEBUG_STATUS. -/
def cmdDebugStatus : Cmd := secQuery 0x1100 (fun _ _ p => pkLen p 0) (fun s _ _ => (s, Rsp.ok s.dbgStatus s.dbgFail 0))

/-- DEBUG_STATUS. -/
def execDebugStatus (port : Port) (s : State) : Host.Outcome State Fault Refusal := s.ends (cmdDebugStatus.exec port s)

/-- DEBUG_CLOSE (R511). -/
def cmdDebugClose : Cmd :=
  { opcode := 0x1101, forms := .setOnly, secure := false, always := false, form := fun _ _ p => pkLen p 0, qform := bufForm, unitOk := atDevice, may := pfOrSec, active := ownActive, check := noCheck,
    run := fun s _ _ => .done ({ s with sec := { s.sec with dbgEnables := 0 } }.extend 12 [0]) (Rsp.plain .served), ask := noAsk }

/-- DEBUG_CLOSE. -/
def execDebugClose (port : Port) (s : State) : Host.Outcome State Fault Refusal := s.ends (cmdDebugClose.exec port s)

/-- DBG_CHALLENGE_READ (R510): a read of the first word renews the challenge. -/
def execDbgChallengeRead (s : State) : Host.Outcome State Fault Refusal :=
  s.ends ({ s with sec := { s.sec with dbgChallenge := le 48 (Config.trng s.core.freeCtr).toNat } }.mapCore (fun c => c.useFree 1))

/-- True where a debug certificate is accepted (R510). -/
def certOk (s : State) (cert : List Byte) : Bool :=
  let key := (cert.drop 32).take 96
  cert.take 16 == le 16 s.fix.serial && decide ((cert.getD 16 0).toNat < 16) && ((cert.drop 17).take 15).all (· == 0) && (cert.drop 224).all (· == 0) && sha384 key == s.fix.debugDigest &&
    ecdsaVerify key (sha384 (ascii "TAOTH-DEBUG" ++ le 16 s.fix.serial ++ [cert.getD 16 0] ++ fit 48 s.sec.dbgChallenge)) ((cert.drop 128).take 96)

/-- Sets one enable (R511, R512). -/
def State.debugEnable (s : State) (bit : Nat) : State :=
  if bitOf s.sec.dbgEnables bit then s
  else
    let e := s.sec.dbgEnables + 2 ^ bit
    ({ s with sec := { s.sec with dbgEnables := e, siSince := s.sec.siSince || bit == 3 } }.extend 12 (le 1 e)).mapCore (fun c => c.event 0xFE92 0 0 e (le 1 1))

/-- DBG_CERT_WRITE (R510, R511): the last word of DBG_CERT. -/
def execDbgCertWrite (word : Nat) (s : State) : Host.Outcome State Fault Refusal :=
  s.ends (
    if s.sec.dbgLocked then s
    else
      let area := Memory.wrN s.sec.dbgCert 252 (le 4 word)
      let cert := Memory.rdN area 0 256
      let s1 : State := { s with sec := { s.sec with dbgCert := area } }
      if certOk s1 cert then [3, 2, 1, 0].foldl (fun t b => if bitOf (cert.getD 16 0).toNat b then t.debugEnable b else t) s1
      else { s1 with sec := { s1.sec with dbgCertFail := min 0xFFFF (s.sec.dbgCertFail + 1), dbgLocked := decide (8 ≤ s.sec.dbgCertFail + 1) } })

/-! ## Lock bits -/

/-- SEC_MODE_KEY_LOCK (R500, R522). -/
def execSecModeKeyLock (req : Requester) (s : State) : Host.Outcome State Fault Refusal :=
  s.ends (s.regWrite req false false true (fun t => if t.sec.keyLock then t else { t with sec := { t.sec with keyLock := true } }.extend 10 (le 4 8)))

/-- SEC_MODE_APPROVED_LOCK (R519, R522). -/
def execSecModeApprovedLock (req : Requester) (s : State) : Host.Outcome State Fault Refusal :=
  s.ends (s.regWrite req false false true (fun t => if t.sec.approvedLock then t else { t with sec := { t.sec with approvedLock := true } }.extend 10 (le 4 7)))

/-- The veil registers as register 8 measures them (R515). -/
def State.veilBytes (s : State) : List Byte :=
  (List.range 16).flatMap (fun n => le 4 (Tbl.at s.led.palRgb 0 n)) ++ (List.range 16).flatMap (fun n => le 4 (Tbl.at s.led.palYcc 0x04080200 n)) ++ (List.range 8).flatMap (fun n => le 4 (Tbl.at s.led.style 0x00080005 n)) ++
    (List.range 8).flatMap (fun n => le 4 (Tbl.at s.led.badge 0x10314120 n))

/-- LED_VEIL_LOCK (R340, R515, R522). -/
def execLedVeilLock (req : Requester) (s : State) : Host.Outcome State Fault Refusal :=
  s.ends (s.regWrite req false false true (fun t => if t.led.veilLock then t else (t.lockVeil.extend 8 t.veilBytes).extend 10 (le 4 4)))

/-- Sets the LOCK bit of a region entry of a memory group (R183): dispatch firmware, or the secure firmware for a SEC_OWNED entry. -/
def State.lockRgn (s : State) (req : Requester) (g n index : Nat) : State :=
  let r := Tbl.at (s.group g).rgn { base := 0, limit := 0, attr := 0 } n
  s.regWrite req true false (bitOf r.attr 30) (fun t =>
    if bitOf r.attr 31 then t else (t.updGroup g (fun m => { m with rgn := Tbl.put m.rgn n { r with attr := r.attr + 2 ^ 31 } })).extend 10 (le 4 index))

/-- LOCK_BIT_SET (R522): the lock bit with this place in Table 15.9, of those without a row of their own. -/
def execLockBitSet (req : Requester) (index : Nat) (s : State) : Host.Outcome State Fault Refusal :=
  s.ends (
    if 128 ≤ index ∧ index < 192 then s.lockRgn req 1 (index - 128) index
    else if 64 ≤ index ∧ index < 128 then s.lockRgn req 0 (index - 64) index
    else if 32 ≤ index ∧ index < 64 then s.regWrite req false false true (fun t =>
      let r := Tbl.at t.sec.sramRgn { base := 0, limit := 0, attr := 0 } (index - 32)
      if bitOf r.attr 31 then t else { t with sec := { t.sec with sramRgn := Tbl.put t.sec.sramRgn (index - 32) { r with attr := r.attr + 2 ^ 31 } } }.extend 10 (le 4 index))
    else if 16 ≤ index ∧ index < 24 then s.regWrite req false false true (fun t =>
      let v := Tbl.cnt t.sec.tamperCfg (index - 16)
      if bitOf v 31 then t else { t with sec := { t.sec with tamperCfg := Tbl.put t.sec.tamperCfg (index - 16) (v + 2 ^ 31) } }.extend 10 (le 4 index))
    else if index = 9 then s.regWrite req false false true (fun t => if t.peat.retainLock then t else { t with peat := { t.peat with retainLock := true } }.extend 10 (le 4 9))
    else if index = 5 then s.regWrite req false false true (fun t => if t.aud.hpLock then t else { t with aud := { t.aud with hpLock := true } }.extend 10 (le 4 5))
    else s)

/-! ## The normal mailbox, measurement port -/

/-- SEC_NMBOX_PUSH (R498): the area's last word appends its 64 bytes, or the push is dropped and counted. -/
def execSecNmboxPush (req : Requester) (word : Nat) (s : State) : Host.Outcome State Fault Refusal :=
  s.ends (s.regWrite req false false false (fun t =>
    let area := Memory.wrN t.sec.nmPush 60 (le 4 word)
    let t1 : State := { t with sec := { t.sec with nmPush := area } }
    if 256 ≤ t.sec.nmbox.length then { t1 with sec := { t1.sec with nmDropped := min 0xFFFF (t.sec.nmDropped + 1) } }
    else { t1 with sec := { t1.sec with nmbox := t.sec.nmbox ++ [Memory.rdN area 0 64] } }))

/-- Extends a measurement register with a digest (R514). -/
def State.extendDigest (s : State) (n : Nat) (d : List Byte) : State :=
  { s with sec := { s.sec with meas := Tbl.put s.sec.meas n (sha384 (s.measOf n ++ d)), measCount := Tbl.inc s.sec.measCount n, measLog := s.sec.measLog ++ [(n, d)] } }

/-- SEC_MEAS_EXTEND (R514): registers marked hardware ignore the write. -/
def execSecMeasExtend (req : Requester) (n : Nat) (digest : List Byte) (s : State) : Host.Outcome State Fault Refusal :=
  s.ends (s.regWrite req false false true (fun t => if 16 ≤ n ∨ [0, 6, 7, 8, 10, 12, 15].contains n then t else t.extendDigest n (fit 48 digest)))

/-! ## SEC restarts -/

/-- The SEC core is reset alone (R523); the normal mailbox, leases, sessions and region 1 stay. -/
def State.secRestart (s : State) (cause : Nat) : State := { s with sec := { s.sec with run := .restarting, restartBegan := s.core.now, restartCause := cause } }

/-- SEC_WATCHDOG_EXPIRE (R523). -/
def execSecWatchdogExpire (s : State) : Host.Outcome State Fault Refusal :=
  s.ends (if s.sec.run = .running ∧ s.sec.wdog + 50 * 10 ^ 6 ≤ s.core.now then s.secRestart 1 else s)

/-- SEC_FAULT (R523). -/
def execSecFault (s : State) : Host.Outcome State Fault Refusal := s.ends (if s.sec.run = .running then s.secRestart 2 else s)

/-- The SEC gives up (R524): halted, SEC_GIVEUP, heartbeats stopped. -/
def State.secGiveUp (s : State) (cause : Nat) : State :=
  ({ s with sec := { s.sec with run := .gaveUp }, lnk := { s.lnk with heartbeatsStopped := true } } : State).mapCore (fun c => c.event 0xFE91 0 0 s.sec.restarts (le 1 cause))

/-- SEC_RESTART_DONE (R523, R524): the digest the ROM finds of the image in region 1. -/
def execSecRestartDone (digest : List Byte) (s : State) : Host.Outcome State Fault Refusal :=
  s.ends (
    if s.sec.run ≠ .restarting then s
    else if digest ≠ s.sec.fwDigest then s.secGiveUp 1
    else
      let recent := s.sec.restartTimes.filter (fun t => decide (s.sec.restartBegan ≤ t + 600 * 10 ^ 9))
      if 3 ≤ recent.length then s.secGiveUp 2
      else
        let n := s.sec.restarts + 1
        let s1 := { s with sec := { s.sec with run := .running, wdog := s.core.now, restarts := n, restartTimes := recent ++ [s.sec.restartBegan] } }.extend 15 (le 4 n ++ le 1 s.sec.restartCause)
        s1.mapCore (fun c => Core.event { c with jrn := { c.jrn with resumed := true } } 0xFE90 0 0 n (le 1 s.sec.restartCause ++ le 4 ((s.core.now - s.sec.restartBegan) / 1000))))

end Sys2Proof.Machine
end

