-- ==== Sys2Proof/Machine/Rhizome.lean ====
section
/-! DEFINITION. Chapter 17: rhizome links and flits, the wall, its master and deputy, wall time, remote tags and shared sources (R552 to R574). -/

namespace Sys2Proof.Machine

/-! ## Flits -/

/-- The unit of a rhizome port. -/
def portUnit (p : Nat) : Nat := uid 0x90 p 0

/-- A rhizome port. -/
def State.rport (s : State) (p : Nat) : RPort := Tbl.at s.rhz.ports freshPort p

/-- Writes a rhizome port. -/
def State.putRport (s : State) (p : Nat) (x : RPort) : State := { s with rhz := { s.rhz with ports := Tbl.put s.rhz.ports p x } }

/-- The bytes of a flit (R552). -/
def rhzFlit (cls kind seq dst src : Nat) (payload : List Byte) : List Byte :=
  let body := le 4 (cls * 2 ^ 30 + kind * 2 ^ 28 + seq % 4096 * 2 ^ 16 + dst * 2 ^ 12 + src * 2 ^ 8) ++ fit 56 payload
  body ++ le 4 (crc32c body)

/-- A flit's header. -/
def rhzHeader (flit : List Byte) : Nat := ofLe (flit.take 4)

/-- True where a flit is whole and its CRC matches (R552). -/
def rhzOk (flit : List Byte) : Bool := flit.length == 64 && ofLe (flit.drop 60) == crc32c (flit.take 60)

/-- Sends a data flit that ends its message on a port that is up, and keeps it for replay (R553). -/
def State.rhzSend (s : State) (p cls dst : Nat) (payload : List Byte) : State :=
  let x := s.rport p
  if x.up then
    s.putRport p { x with dir := { x.dir with sendSeq := (x.dir.sendSeq + 1) % 4096, replay := (x.dir.replay ++ [rhzFlit cls 1 x.dir.sendSeq dst s.core.pos payload]).drop (x.dir.replay.length + 1 - 2048) } }
  else s

/-! ## Paths -/

/-- True where a position can be reached over links that are not broken. -/
def reachablePos (m pos dest : Nat) (broken : List Nat) : Bool := dest == pos || !(pathTo m pos dest broken).isEmpty

/-- The link at a port, named by the position at its down side's start (R554). -/
def linkOf (m pos p : Nat) : Nat := if p = 1 then pos else (pos + m - 1) % max 1 m

/-- Paths after a change of the broken links (R573, R574): what is reachable, SPLIT, and commands to members out of reach fail with FAILED_LINK. -/
def State.reroute (s : State) (broken : List Nat) : State :=
  let reach := (List.range s.rhz.members).filter (fun d => reachablePos s.rhz.members s.core.pos d broken)
  let s1 : State := { s with rhz := { s.rhz with broken := broken, split := decide (2 ≤ broken.length) }, core := { s.core with reachable := reach } }
  s1.finishWhere (fun o => match o.wait with | .remote pos => !reach.contains pos | _ => false) (fun _ => Rsp.plain .failedLink)

/-- A link fault at a port (R553, R573): what was cut of a video frame is counted, the break announced the other way and journaled. -/
def State.linkFault (s : State) (p : Nat) : State :=
  let x := s.rport p
  if !x.up then s
  else
    let cut := !x.dir.partMsg.isEmpty && fld (rhzHeader x.dir.partMsg) 31 30 == 3
    let l := linkOf s.rhz.members s.core.pos p
    let s1 := s.putRport p { x with up := false, lanes := 0, dir := { freshDir with replay := x.dir.replay }, fails := 0 }
    let s2 : State := { s1 with rhz := { s1.rhz with videoDrop := if cut then satInc s1.rhz.videoDrop else s1.rhz.videoDrop } }
    let s3 := s2.mapCore (fun c => c.event 0xFEB2 0 (portUnit p) p (le 1 x.neighbour))
    if s.core.inWall then ((s3.mapCore (fun c => c.useFree 56)).rhzSend (1 - p) 1 0 (s3.core.freeBytes 56)).reroute (if s3.rhz.broken.contains l then s3.rhz.broken else s3.rhz.broken ++ [l]) else s3

/-- RHZ_LINK_DOWN. -/
def execRhzLinkDown (index : Nat) (s : State) : Host.Outcome State Fault Refusal := s.ends (if index < 2 then s.linkFault index else s)

/-- The version two ends run at: the highest both support (R27, R555). -/
def commonVersion (lo1 hi1 lo2 hi2 : Nat) : Option Nat := if max lo1 lo2 ≤ min hi1 hi2 then some (min hi1 hi2) else none

/-- RHZ_LINK_UP (R555, R573): an enabled port trains with its neighbour at the highest common version of 1.0 to 1.1 and the far end's; without a common one the link stays down. -/
def execRhzLinkUp (index neighbour lo hi : Nat) (s : State) : Host.Outcome State Fault Refusal :=
  s.ends (
    let x := s.rport index
    if 2 ≤ index ∨ x.up ∨ !x.enable ∨ !s.isActive (portUnit index) then s
    else
      match commonVersion 0x10 0x11 lo hi with
      | none => s
      | some v =>
        let s1 := s.putRport index { x with up := true, major := v / 16, minor := v % 16, neighbour := neighbour % 16, lanes := 15, dir := { freshDir with replay := x.dir.replay }, fails := 0 }
        let s2 : State := { s1 with rhz := { s1.rhz with ver := if s1.rhz.ver = 0 then v else min s1.rhz.ver v } }
        if s.rhz.role = 4 then s2
        else (s2.mapCore (fun c => c.event 0xFEB2 0 (portUnit index) (index + 256) (le 1 (neighbour % 16)))).reroute (s2.rhz.broken.filter (· != linkOf s.rhz.members s.core.pos index)))

/-! ## What flits carry -/

/-- The statuses of Table 2.5. -/
def allStatus : List Status :=
  [.served, .servedLate, .servedPartial, .delayedShare, .delayedSecureRestart, .delayedUnitBusy, .deferredSecureLease, .refusedShare, .refusedBand, .refusedLocked, .refusedUnitReset, .refusedJournalFull, .refusedLinebufShort,
   .refusedNotApproved, .refusedHeapSmall, .rejectedMalformed, .rejectedOpcode, .rejectedUnit, .rejectedVersion, .rejectedPermission, .rejectedLength, .rejectedSequence, .rejectedNoSession, .rejectedCycle, .failed, .failedHeap,
   .failedMemory, .failedTimeout, .failedLink, .failedUnitReset, .discardedGeneration, .discardedInstanceReset]

/-- The status with a code. -/
def statusOf (code : Nat) : Status := (allStatus.find? (fun x => x.code == code)).getD .failed

/-- A completion from another device for a slice of this one (R565): its UNIT shows whose journal sequence it carries. -/
def State.remoteDone (s : State) (src inst slice seq : Nat) (r : Rsp) (jseq : Nat) (durable final : Bool) : State :=
  let mine (o : Owed) : Bool := o.wait == .remote src && o.who.inst == inst && o.who.slice == slice && o.pk.seq.toNat == seq
  match s.core.owed.find? mine with
  | none => s
  | some o =>
    if !final then (if o.group.isNone then s.mapCore (fun c => c.complete o.who o.pk r false durable jseq) else s)
    else
      let s1 := s.mapCore (fun c => { c with owed := c.owed.erase o })
      if o.group.isNone then s1.mapCore (fun c => c.complete o.who o.pk r true durable jseq) else s1.finish o r

/-- Takes a message addressed to this device from the device at src (R556). -/
def State.rhzTake (s : State) (src : Nat) : RhzMsg → State
  | .nothing => s
  | .control _ _ => s
  | .command inst slice p => s.mapCore (fun c => { c with fwdIn := c.fwdIn ++ [({ secure := false, inst := inst, slice := slice, remote := some src }, p)] })
  | .completion inst slice seq status r0 r1 r2 jseq durable final => s.remoteDone src inst slice seq { st := statusOf status, r0 := r0, r1 := r1, r2 := r2 } jseq durable final
  | .beacon master deputy => if s.core.inWall && !s.core.wallMaster then { s with rhz := { s.rhz with lastBeacon := s.core.now, masterPos := master % 16, deputyPos := deputy % 16 } } else s
  | .link pos up => s.reroute (if up then s.rhz.broken.filter (· != pos) else if s.rhz.broken.contains pos then s.rhz.broken else s.rhz.broken ++ [pos])

/-- A message that every device takes and passes on. -/
def msgToAll : RhzMsg → Bool
  | .beacon _ _ => true
  | .link _ _ => true
  | _ => false

/-- A flit arrives on a port (R552, R553): a bad one starts go-back replay, three failed replays take the link down; in order it is passed on or taken. -/
def State.rhzReceive (s : State) (p : Nat) (flit : List Byte) (msg : RhzMsg) : State :=
  let x := s.rport p
  let h := rhzHeader flit
  if !x.up then s
  else if !rhzOk flit then
    let fails := if x.dir.dropping then x.fails + 1 else 0
    let s1 := { s with rhz := { s.rhz with crcErr := Tbl.inc s.rhz.crcErr p } }.putRport p { x with fails := fails, dir := { x.dir with dropping := true } }
    if 3 ≤ fails then s1.linkFault p else s1
  else if fld h 29 28 = 3 then s
  else if fld h 29 28 = 2 then
    match msg with
    | .control nak next =>
      let keep := (next + 4096 - x.dir.acked % 4096) % 4096
      let s1 := s.putRport p { x with dir := { x.dir with acked := next % 4096, replay := x.dir.replay.drop keep } }
      if nak then { s1 with rhz := { s1.rhz with replayCount := Tbl.inc s1.rhz.replayCount p } } else s1
    | _ => s
  else if fld h 27 16 ≠ x.dir.expect then s.putRport p { x with dir := { x.dir with dropping := true } }
  else
    let s1 := s.putRport p { x with fails := 0, dir := { x.dir with expect := (x.dir.expect + 1) % 4096, dropping := false, sinceAck := x.dir.sinceAck + 1, partMsg := if fld h 29 28 = 0 then x.dir.partMsg ++ flit else [] } }
    let mine := fld h 15 12 == s.core.pos || msgToAll msg
    let s2 : State := if fld h 15 12 != s.core.pos || msgToAll msg then { s1 with rhz := { s1.rhz with passed := s1.rhz.passed ++ [(1 - p, flit)] } } else s1
    if mine then s2.rhzTake (fld h 11 8) msg else s2

/-- RHZ_FLIT_RECEIVE. -/
def execRhzFlitReceive (index : Nat) (flit : List Byte) (msg : RhzMsg) (s : State) : Host.Outcome State Fault Refusal := s.ends (if index < 2 then s.rhzReceive index flit msg else s)

/-! ## Forming the wall -/

/-- The position in a list of the device with the lowest serial among those a test picks. -/
def lowestSerial (l : List (Nat × Nat)) : Option Nat := (l.foldl (fun (b : Option (Nat × Nat)) e => match b with | none => some e | some m => if e.2 < m.2 then some e else b) none).map Prod.fst

/-- The master among the devices of a ring: the one whose strap is high, else by lowest serial among those, or among all (R557). -/
def masterOf (devices : List (Nat × Bool)) : Nat :=
  let all := devices.zipIdx.map (fun e => (e.2, e.1.1))
  let high := (devices.zipIdx.filter (fun e => e.1.2)).map (fun e => (e.2, e.1.1))
  (lowestSerial (if high.isEmpty then all else high)).getD 0

/-- The deputy under DEPUTY_AUTO (R558): the lowest serial among the members left. -/
def autoDeputy (serials : Tbl Nat) (out : List Nat) : Nat := (lowestSerial (serials.filter (fun e => !out.contains e.1))).getD 0

/-- ROLE of a position (Table 17.2). -/
def roleOf (members pos master deputy : Nat) : Nat := if members ≤ 1 then 0 else if pos = master then 1 else if pos = deputy then 2 else 3

/-- WALL_FORM (R554, R557): the devices of the ring in the down direction with serials and straps, and this device's place among them. -/
def execWallForm (devices : List (Nat × Bool)) (self version : Nat) (s : State) : Host.Outcome State Fault Refusal :=
  s.ends (
    let n := devices.length
    if s.rhz.role ≠ 4 ∨ n = 0 ∨ 16 < n ∨ n ≤ self ∨ (devices.map Prod.fst)[self]? ≠ some s.fix.serial then s
    else
      let m := masterOf devices
      let posOf (i : Nat) : Nat := (i + n - m) % n
      let pos := posOf self
      let serials : Tbl Nat := devices.zipIdx.foldl (fun t e => Tbl.put t (posOf e.2) e.1.1) []
      let deputy := if s.rhz.auto || decide (n ≤ s.rhz.deputyWord) || s.rhz.deputyWord == 0 then autoDeputy serials [0] else s.rhz.deputyWord
      let s1 : State := { s with
        core := { s.core with pos := pos, inWall := decide (1 < n), wallMaster := pos == 0, reachable := List.range n },
        rhz := { s.rhz with masterPos := 0, deputyPos := deputy, members := n, serials := serials, role := roleOf n pos 0 deputy, ver := version, lastBeacon := s.core.now, changes := 0, time := (if pos = 0 then 2 else 1), broken := [], split := false } }
      let s2 := if 1 < n then { s1 with frd := { s1.frd with outs := Tbl.mapVals s1.frd.outs (fun _ o => match o.genlock with | w :: l => { o with genlock := (w / 4 * 4 + 1) :: l } | [] => o) } } else s1
      s2.mapCore (fun c => c.event 0xFEB0 0 (uid 0xF0 0 0) n (le 1 0 ++ le 1 deputy ++ le 1 version)))

/-- MASTER_BEACON (R559): the master sends a beacon in both directions; its payload bytes are free. -/
def execMasterBeacon (s : State) : Host.Outcome State Fault Refusal :=
  s.ends (if s.core.inWall && s.core.wallMaster then
      ((s.mapCore (fun c => c.useFree 56)).rhzSend 0 0 0 (s.core.freeBytes 56)).rhzSend 1 0 0 (s.core.freeBytes 56)
    else s)

/-- The bytes of WALL_ROLE (chapter 17): the new role, the master's and the deputy's position, the device time. -/
def wallRole (role master deputy now : Nat) : List Byte := le 1 role ++ le 1 master ++ le 1 deputy ++ [0] ++ le 8 now

/-- MASTER_LOST (R559, R560): no beacon for 1,000 µs. The deputy takes over; a new deputy is chosen as under DEPUTY_AUTO; what was owed to the old master is counted lost and its slices' sessions end. -/
def execMasterLost (s : State) : Host.Outcome State Fault Refusal :=
  s.ends (
    if !s.core.inWall || s.core.wallMaster || decide (s.core.now < s.rhz.lastBeacon + 10 ^ 6) then s
    else
      let old := s.rhz.masterPos
      let new := s.rhz.deputyPos
      let reach := s.core.reachable.filter (· != old)
      let deputy := autoDeputy (Tbl.keep s.rhz.serials (fun p _ => reach.contains p)) [new, old]
      let mine := s.core.pos == new
      let s1 : State := { s with
        core := { s.core with wallMaster := mine, reachable := reach, fwdReplies := s.core.fwdReplies.filter (fun e => e.1 != old), fwdLost := satAdd s.core.fwdLost (s.core.fwdReplies.filter (fun e => e.1 == old)).length },
        rhz := { s.rhz with masterPos := new, deputyPos := deputy, role := roleOf s.rhz.members s.core.pos new deputy, changes := s.rhz.changes + 1, lastBeacon := s.core.now, time := (if mine then 2 else 3), holdAt := s.core.now,
                            auths := Tbl.keep s.rhz.auths (fun k _ => k / 2 ^ 16 != old), challenges := Tbl.keep s.rhz.challenges (fun k _ => k / 2 ^ 16 != old) } }
      let s2 := s1.mapCore (fun c => c.event 0xFEB1 0 (uid 0xF0 0 0) new (le 1 old ++ le 1 deputy ++ le 8 c.now))
      if mine then s2.mapCore (fun c => c.notify 0x0014 0 0 (wallRole 1 new deputy c.now)) else s2)

/-! ## Wall time -/

/-- RHZ_TIMING_MESSAGE (R561): a member's clock follows the master's; it is LOCKED within 20 ns for each hop. -/
def execRhzTimingMessage (index : Nat) (offset : Int) (s : State) : Host.Outcome State Fault Refusal :=
  s.endsTime (
    if 2 ≤ index ∨ !s.core.inWall ∨ s.core.wallMaster ∨ !(s.rport index).up then s
    else
      let hop := max 1 (pathTo s.rhz.members s.core.pos s.rhz.masterPos s.rhz.broken).length
      let near := decide (offset.natAbs ≤ 20 * hop)
      let p := s.ing.ptp
      let s1 : State := { s with ing := { s.ing with ptp := { p with offset := offset } }, rhz := { s.rhz with time := if near then 2 else 1 } }
      let s2 := s1.follow (near && !p.everLocked) ((s.core.now : Int) - offset).toNat
      { s2 with ing := { s2.ing with ptp := { s2.ing.ptp with everLocked := p.everLocked || near, lastSync := s.core.now } } })

/-- RHZ_TIME_HOLDOVER (R559): after 10 ms of HOLDOVER the outputs' device-time reference counts as missing. -/
def execRhzTimeHoldover (s : State) : Host.Outcome State Fault Refusal :=
  s.ends (
    if s.rhz.time = 3 ∧ s.rhz.holdAt + 10 ^ 7 ≤ s.core.now then
      (Tbl.keys s.frd.outs).foldl (fun t o =>
        match t.out o with
        | some x => if x.source = 1 ∧ (x.lock = 1 ∨ x.lock = 2) then (t.updOut o (fun y => { y with rateMean := y.pixelHz })).setLock o 3 else t
        | none => t) s
    else s)

/-! ## Remote tags and shared sources -/

/-- The tag state with a code (Table 8.2). -/
def tagStOf : Nat → TagSt
  | 1 => .live
  | 2 => .stale
  | 3 => .frozen
  | 4 => .retired
  | _ => .unbound

/-- Copies an update into the mirror of a remote tag (R570). -/
def State.mirrorTag (s : State) (u : TagUpd) : State :=
  s.updTag (s.tagKey u.tag) (fun t => if t.remote then { t with last := u.last, maxAge := u.maxAge, st := tagStOf u.st } else t)

/-- REMOTE_TAG_UPDATE (R570, R571): an update that a frame of a receiver with a route here caused waits until that frame's copy has landed; recv is 0 for the others. -/
def execRemoteTagUpdate (tag : BitVec 32) (last maxAge st : Nat) (recv : BitVec 32) (stamp : Nat) (s : State) : Host.Outcome State Fault Refusal :=
  s.ends (
    let u : TagUpd := { tag := tag.toNat, last := last % 2 ^ 48, maxAge := maxAge, st := st, recv := recv.toNat, stamp := stamp }
    if uPos tag.toNat = s.core.pos then s
    else if recv = 0 ∨ (Tbl.find s.rhz.landed recv.toNat).elim false (fun n => decide (stamp ≤ n)) then s.mirrorTag u
    else { s with rhz := { s.rhz with tagWait := s.rhz.tagWait ++ [u] } })

/-- SHARED_FRAME_LAND (R567, R568, R571): a copy of a frame is stored in a landing surface that nothing holds, posted to its layer, and releases the tag updates that waited for it. -/
def execSharedFrameLand (recv layer : BitVec 32) (inst : Nat) (landing : List Nat) (stamp : Nat) (planes : List (List Nat)) (s : State) : Host.Outcome State Fault Refusal :=
  s.ends (
    match landing.find? (fun u => (s.surf u).elim false (fun sf => !sf.locked && sf.owner == inst)) with
    | none => s
    | some u =>
      if uPos layer.toNat ≠ s.core.pos then s
      else
        let s1 := (s.surf u).elim s (fun sf =>
          (List.range (planesOf sf.format).length).foldl (fun t p =>
            let w := sf.shape.pw p
            t.putRect (uNum u) 18 (some inst) 0 p 0 0 w (sf.shape.ph p) (fun x y => (planes.getD p []).getD (y * w + x) 0)) s)
        let s2 := s1.devicePost (subKey layer.toNat) (surfUnit (uNum u)) inst 0 none
        let due (x : TagUpd) : Bool := x.recv == recv.toNat && decide (x.stamp ≤ stamp)
        let s3 : State := { s2 with rhz := { s2.rhz with landed := Tbl.put s2.rhz.landed recv.toNat stamp, tagWait := s2.rhz.tagWait.filter (fun x => !due x) } }
        (s2.rhz.tagWait.filter due).foldl State.mirrorTag s3)

/-! ## Commands -/

/-- RHZ_STATUS (Table 17.2); a segment of a split wall counts its own members (R574). -/
def State.rhzStatus (s : State) : Nat :=
  let r := s.rhz
  s.core.pos * 2 ^ 28 + r.masterPos * 2 ^ 24 + r.deputyPos * 2 ^ 20 + (if r.split then s.core.reachable.length else r.members) * 2 ^ 15 + r.role * 2 ^ 12 + b2n r.split * 2 ^ 11 + b2n s.fix.cascMaster * 2 ^ 10 + r.time * 2 ^ 8

/-- RHZ_PORT_STATUS (Table 17.3). -/
def RPort.status (x : RPort) : Nat := x.major * 2 ^ 28 + x.minor * 2 ^ 24 + b2n x.up * 2 ^ 23 + x.neighbour * 2 ^ 19 + x.lanes * 2 ^ 15

/-- WALL_SET (R558, Table 17.1). -/
def cmdWallSet : Cmd :=
  { opcode := 0x1000, forms := .both, secure := false, always := false,
    form := fun s _ p => pkLen p 1 && fld (pkW p 0) 63 5 == 0 && (bitOf (pkW p 0) 4 || (decide (pkF p 0 3 0 < s.rhz.members) && pkF p 0 3 0 != s.rhz.masterPos)), qform := bufForm,
    unitOk := fun _ _ p => uCls (pkUnit p) == 0xF0 && unitInRange (pkUnit p), may := fun s w _ => w.is 0 && (!s.core.inWall || s.core.wallMaster), active := fun _ _ => true, check := noCheck,
    run := fun s _ p =>
      let auto := bitOf (pkW p 0) 4
      let deputy := if auto then autoDeputy s.rhz.serials [s.rhz.masterPos] else pkF p 0 3 0
      .done { s with rhz := { s.rhz with auto := auto, deputyWord := pkF p 0 3 0, deputyPos := deputy, role := if s.rhz.role = 4 then 4 else roleOf s.rhz.members s.core.pos s.rhz.masterPos deputy } } (Rsp.plain .served),
    ask := fun s w p => s.answerWords w p [BitVec.ofNat 64 (s.rhz.deputyPos + b2n s.rhz.auto * 16)] }

/-- WALL_SET. -/
def execWallSet (port : Port) (s : State) : Host.Outcome State Fault Refusal := s.ends (cmdWallSet.exec port s)

/-- RHZ_PORT_SET (Table 17.1): clearing ENABLE takes the link down as a link fault. -/
def cmdRhzPortSet : Cmd :=
  { opcode := 0x1001, forms := .both, secure := false, always := false, form := fun _ _ p => pkLen p 1 && fld (pkW p 0) 63 1 == 0, qform := bufForm, unitOk := fun _ _ p => pkIs p 0x90, may := fun _ w _ => w.is 0, active := ownActive, check := noCheck,
    run := fun s _ p =>
      let n := uIdx (pkUnit p)
      let on := bitOf (pkW p 0) 0
      let s1 := if on then s else s.linkFault n
      .done (s1.putRport n { s1.rport n with enable := on }) (Rsp.plain .served),
    ask := fun s w p => s.answerWords w p [BitVec.ofNat 64 (b2n (s.rport (uIdx (pkUnit p))).enable)] }

/-- RHZ_PORT_SET. -/
def execRhzPortSet (port : Port) (s : State) : Host.Outcome State Fault Refusal := s.ends (cmdRhzPortSet.exec port s)

/-- WALL_STATUS (R574). -/
def cmdWallStatus : Cmd :=
  { opcode := 0x1002, forms := .queryOnly, secure := false, always := false, form := fun _ _ p => pkLen p 0, qform := fun _ _ p => pkLen p 0, unitOk := atDevice, may := fun _ w _ => !w.secure, active := ownActive, check := noCheck, run := noRun,
    ask := fun s _ _ => (s, Rsp.ok s.rhzStatus (bitsNum ((List.range 16).map (fun p => s.core.reachable.contains p))) s.rhz.changes) }

/-- WALL_STATUS. -/
def execWallStatus (port : Port) (s : State) : Host.Outcome State Fault Refusal := s.ends (cmdWallStatus.exec port s)

end Sys2Proof.Machine
end

