-- ==== Sys2Proof/Machine/Units.lean ====
section
/-! DEFINITION. Units in transition, what a unit's reset leaves, power domains going off (R42 to R46, R54, R577, R590). -/

namespace Sys2Proof.Machine

/-- Changes the transition of a unit. -/
def State.setTr (s : State) (u : Nat) (t : UnitTr) : State := s.mapCore (fun c => { c with trans := Tbl.put c.trans (uKey u) t })

/-- The transition of a unit. -/
def State.trOf (s : State) (u : Nat) : Option UnitTr := Tbl.find s.core.trans (uKey u)

/-- A reset, update or power-down request reaches a unit (R42, R44): an ACTIVE unit drains, a request of the same kind joins, another is queued; a unit that is OFF takes none. -/
def State.startTr (s : State) (u : Nat) (k : Transition) : State :=
  match s.trOf u with
  | none => if s.isActive u then s.setTr u { phase := .draining, kind := k, queued := [], discarded := 0, began := s.core.now } else s
  | some t => if t.phase = .off ∨ t.kind = k ∨ t.queued.contains k then s else s.setTr u { t with queued := t.queued ++ [k] }

/-- The queued kind that runs first: a reset before an update, an update before a power-down (R44). -/
def firstKind (l : List Transition) : Option Transition := [Transition.reset, .update, .powerDown].find? l.contains

/-! ## What a unit's end of work leaves -/

/-- A compose pass ends with the failure (Table 1.13, 0x24). -/
def State.failPass (s : State) (ps : Pass) : State :=
  (({ s with frd := { s.frd with passes := s.frd.passes.filter (fun q => q.work != ps.work) } } : State).dropWork ps.work).finishWork ps.work (Rsp.plain .failedUnitReset)

/-- The pre-compose engine is idle. -/
def State.resetPcm (s : State) : State := s.frd.passes.foldl State.failPass s

/-- A raster core is idle: its tile returns to the list (R400, Table 1.13). -/
def State.resetCore (s : State) (c : Nat) : State :=
  match Tbl.find s.ras.cores c with
  | none => s
  | some k => (({ s with ras := { s.ras with cores := Tbl.del s.ras.cores c } } : State).endStopped k.work).takeTiles

/-- A stream receiver waits again: its frames in progress are dropped as not good; one that was closing is closed (Table 1.13, R433). -/
def State.resetRecv (s : State) (r : Nat) : State :=
  match s.recv r with
  | none => s
  | some x =>
    if x.st = 0 then s
    else
      let s1 := x.frames.foldl (fun t f => t.badFrame r f x.cause) s
      (s1.updRecv r (fun y => { y with st := 1, frames := [], waitSince := none })).endClosing r

/-- A JPEG XS lane is idle: the frame in progress of its receivers is dropped as not good. -/
def State.resetLane (s : State) (lane : Nat) : State :=
  s.ing.recvs.foldl (fun t e => if bitOf e.2.lanes lane then (match e.2.frames with | f :: _ => (t.badFrame e.1 f e.2.cause).endClosing e.1 | [] => t) else t) s

/-- A check engine is idle: a scan in progress fails, a queued one is refused. -/
def State.resetEngine (s : State) (e : Nat) : State :=
  let g := s.engine e
  let s1 := g.scan.elim s (fun c => s.finishWork c.work (Rsp.plain .failedUnitReset))
  let s2 := g.queued.elim s1 (fun c => s1.finishWork c.work (Rsp.plain .refusedUnitReset))
  s2.idle e

/-- What the reset of a unit of Table 1.13 leaves. -/
def State.applyReset (s : State) (u : Nat) : State :=
  match uCls u with
  | 0x24 => s.resetPcm
  | 0x30 => s.resetCore (uIdx u)
  | 0x41 => s.resetRecv (uIdx u)
  | 0x42 => s.resetLane (uIdx u)
  | 0x53 => s.resetEngine (uIdx u)
  | 0x60 => s.surfUpdate (uIdx u)
  | 0x61 => s.chanUpdate (uIdx u)
  | 0x70 => s.audReset u
  | 0x71 => s.audReset u
  | 0x72 => s.audReset u
  | 0x73 => s.audReset u
  | 0x74 => s.audReset u
  | 0x90 => s.linkFault (uIdx u)
  | _ => s

/-- The classes of Table 1.13 other than groups. -/
def resettable (u : Nat) : Bool := [0x24, 0x30, 0x41, 0x42, 0x53, 0x60, 0x61, 0x70, 0x71, 0x72, 0x73, 0x74, 0x90].contains (uCls u)

/-- Held requests at a drain limit: not started ones are refused, started ones fail (R42). -/
def State.abortHeld (s : State) (pick : Owed → Bool) : State :=
  s.finishWhere pick (fun o => Rsp.plain (if o.started then .failedUnitReset else .refusedUnitReset))

/-- The generation of a unit moves on, and its drain is journaled (R40, R86). -/
def State.bumpDrained (s : State) (u discarded : Nat) : State :=
  s.mapCore (fun c =>
    let old := c.genOf u
    let c1 := c.bump u
    c1.event 0xFE03 0 u discarded (le 2 old.toNat ++ le 2 (c1.genOf u).toNat ++ le 1 (uCls u)))

/-! ## Power domains going off -/

/-- INDEX and SUB ranges of the classes that a domain holds (Table 18.1), as units. -/
def domainUnits (s : State) (d : Nat) : List Nat :=
  let idx (cls n : Nat) : List Nat := (List.range n).map (fun i => uid cls i 0)
  match d with
  | 1 => idx 0x30 4 ++ [uid 0x24 0 0]
  | 2 => ((List.range 5).flatMap (fun f => uid 0x20 f 0 :: (List.range 4).map (uid 0x23 f))) ++ (Tbl.keys s.frd.layers).filterMap (fun k => if k / 256 < 5 then some (uid 0x21 (k / 256) (k % 256)) else none) ++ (Tbl.keys s.led.sregs).filterMap (fun k => if k / 256 < 5 then some (uid 0x52 (k / 256) (k % 256)) else none)
  | 3 => ((List.range 4).flatMap (fun i => uid 0x20 (5 + i) 0 :: (List.range 4).map (uid 0x23 (5 + i)))) ++ (Tbl.keys s.frd.layers).filterMap (fun k => if 5 ≤ k / 256 then some (uid 0x21 (k / 256) (k % 256)) else none) ++ (Tbl.keys s.led.sregs).filterMap (fun k => if 5 ≤ k / 256 then some (uid 0x52 (k / 256) (k % 256)) else none)
  | 4 => idx 0x40 4 ++ idx 0x41 64 ++ idx 0x42 8 ++ (List.range 16).map (fun i => uid 0x53 (16 + i) 0)
  | 5 => uid 0x10 0 0 :: (List.range 64).map (uid 0x12 0)
  | 6 => uid 0x10 1 0 :: (List.range 64).map (uid 0x12 1)
  | 10 => idx 0x60 8 ++ idx 0x61 8 ++ idx 0x62 256 ++ idx 0x70 48 ++ idx 0x71 32 ++ idx 0x72 16 ++ idx 0x73 1 ++ idx 0x74 2
  | _ => []

/-- A layer's posts are aborted and their references dropped. -/
def State.clearPosts (s : State) (key : Nat) : State :=
  (Tbl.find s.frd.layers key).elim s (fun l => l.posts.foldl (fun t q => (t.dropRef (uNum q.surf) (.layer (key / 256) (key % 256) q.ref) 0 0 false).endPost q (Rsp.plain .refusedUnitReset)) (s.updLayer key (fun x => { x with posts := [] })))

/-- A frond loses power: what it composes ends; its settings are kept (DESIGN CHOICE, log entry 70). -/
def State.frondOff (s : State) (f : Nat) : State :=
  match s.frond f with
  | none => s
  | some fr =>
    let s1 := (fr.commits ++ fr.staged).foldl (fun t c => ((t.dropCommitRef c).dropUncreated c).finishWork c.work (Rsp.plain .refusedUnitReset)) (s.updFrond f (fun x => { x with commits := [], staged := [], scan := none, next := none }))
    (s1.layersOf f).foldl (fun t e => t.clearPosts (f * 256 + e.1)) s1

/-- Raster and pre-compose lose power: started jobs fail, others are refused (R42, R590). -/
def State.rasterOff (s : State) : State :=
  let s1 : State := { s with ras := { s.ras with cores := [] } }
  (s1.ras.jobs.foldl (fun t j => t.endJob j (Rsp.plain (if j.started then .failedUnitReset else .refusedUnitReset))) s1).resetPcm

/-- Touch, haptics and audio lose power: settings are kept (log entry 70). -/
def State.senseOff (s : State) : State :=
  let s1 := (Tbl.keys s.tch.surfs).foldl (fun t n => (t.surfUpdate n).updTsurf n (fun x => { x with st := 0 })) s
  let s2 := (Tbl.keys s.hap.chans).foldl (fun t n => (t.chanUpdate n).updChan n (fun h => { h.rest with st := 0 })) s1
  let s3 := s2.aud.applies.foldl (fun t n => t.finishWork n (Rsp.plain .failedUnitReset)) s2
  let srcs := Tbl.mapVals s3.aud.srcs (fun _ x => { x with ahead := none, hist := [], last := [], dip := 1 })
  let buses := Tbl.mapVals s3.aud.buses (fun _ x => { x with out := [], dip := 1 })
  let sinks := Tbl.mapVals s3.aud.sinks (fun _ x => { x with out := [], dip := 1 })
  { s3 with aud := { s3.aud with applies := [], jack := 0, pressed := false, button := 0, srcs := srcs, buses := buses, sinks := sinks } }

/-- Work of a domain ends and the domain is without power: state OFF, or SHED after a thermal trip (R577, R590). -/
def State.domainOff (s : State) (d : Nat) (st : DomSt) : State :=
  let us := domainUnits s d
  let s1 := match d with
    | 1 => s.rasterOff
    | 2 => (List.range 5).foldl State.frondOff s
    | 3 => [5, 6, 7, 8].foldl State.frondOff s
    | 4 => us.foldl State.applyReset ((List.range 4).foldl State.portDown { s with ing := { s.ing with ports := Tbl.mapVals s.ing.ports (fun _ q => { q with link := false }) } })
    | 5 => s.updGroup 0 (fun g => { g with st := .offline, queue := [] })
    | 6 => s.updGroup 1 (fun g => { g with st := .offline, queue := [] })
    | 10 => s.senseOff
    | _ => s
  let s2 := s1.abortHeld (fun o => match o.wait with | .unit u => us.contains u && o.op != 0x0E00 | _ => false)
  let s3 := us.foldl (fun t u => (t.mapCore (fun c => { c with trans := Tbl.del c.trans (uKey u) })).bumpDrained u 0) s2
  { s3 with pwr := { s3.pwr with dom := Tbl.put s3.pwr.dom d st } }

end Sys2Proof.Machine
end

