-- ==== Sys2Proof/Machine/Tenants.lean ====
section
/-! DEFINITION. Chapter 3: slices, resets of instances and slices, share records, the DTU's commands, the manager's mailbox (R105 to R142, R641). -/

namespace Sys2Proof.Machine

/-! ## Slices -/

/-- A slice as its creation or reset leaves it (R110). -/
def freshSlice (pasid : Nat) (disable : Bool) (cb s1base : Nat) : Slice :=
  { st := .opened, pasid := pasid, disable := disable, cb := cb, s1base := s1base, ver := 0, rings := { subBase := 0, cmpBase := 0, stsBase := 0, fltBase := 0, sizes := 0, vectors := 0 },
    subHead := 0, tail := 0, visible := [], cmp := { next := 0, phase := true }, sts := { next := 0, phase := true }, flt := { next := 0, phase := true },
    lastAccepted := 0, lastCompleted := 0, outstanding := 0, lastJseq := 0, cmpStall := false, jrnWait := false, countedToken := false, countedBuffer := false, auth := none, challenge := none }

/-- Opens a slice: its control block shows it (R109, R110). PF slice 0 takes its register's address (R638). -/
def Core.openSlice (c : Core) (inst idx : Nat) (sl : Slice) : Core :=
  let cb := if inst = 0 ∧ idx = 0 then c.slice0Cb else sl.cb
  let c1 : Core := { c with slices := Tbl.put c.slices (sliceKey inst idx) { sl with cb := cb } }
  if cb = 0 ∨ cb % 4096 ≠ 0 then c1 else c1.syncCb inst idx

/-- The slices of an instance. -/
def Core.slicesOf (c : Core) (inst : Nat) : List Nat := (Tbl.keys (Tbl.keep c.slices (fun k _ => k / 256 == inst))).map (· % 256)

/-- UNIT names a slice that exists. -/
def atSlice (s : State) (_ : Who) (p : Packet) : Bool := pkIs p 0x02 && (s.core.slice (uIdx (pkUnit p)) (uSub (pkUnit p))).isSome

/-- UNIT names an instance. -/
def atInstance (_ : State) (_ : Who) (p : Packet) : Bool := pkIs p 0x01

/-- A slice, or its instance, is in a reset. -/
def State.resetting (s : State) (inst idx : Nat) : Bool :=
  Tbl.has s.core.resets (sliceUnit inst idx) || (Tbl.find s.core.resets (uid 0x01 inst 0)).elim false (fun r => !r.queued)

/-- SLICE_CREATE (R109, R124); its query form returns the three words. -/
def cmdSliceCreate : Cmd :=
  { opcode := 0x0140, forms := .both, secure := false, always := false, form := fun _ _ p => pkLen p 3 && fld (pkW p 0) 63 21 == 0 && multOf 4096 (pkW p 1) && multOf 4096 (pkW p 2) && (!bitOf (pkW p 0) 20 || (uSub (pkUnit p) == 0 && pkW p 2 == 0)), qform := bufForm,
    unitOk := fun s w p => pkIs p 0x02 && (!pkQuery p || atSlice s w p), may := pfOnly,
    active := fun s p =>
      let i := uIdx (pkUnit p)
      s.isActive (pkUnit p) && s.isActive (uid 0x01 i 0) && (pkQuery p || !(s.resetting i (uSub (pkUnit p)))),
    check := fun s _ p =>
      let i := uIdx (pkUnit p)
      if (s.core.slice i (uSub (pkUnit p))).isSome then some (Rsp.code .refusedLocked 0)
      else if (Tbl.keep s.core.slices (fun k sl => k / 256 == i && sl.pasid == pkF p 0 19 0)) != [] then some (Rsp.code .refusedLocked 1)
      else if (s.core.share i).elim 0 Share.maxSlices ≤ (s.core.slicesOf i).length then some (Rsp.code .refusedShare 0)
      else if 4096 ≤ s.core.slices.length then some (Rsp.code .refusedShare 1) else none,
    run := fun s _ p => .done (s.mapCore (fun c => c.openSlice (uIdx (pkUnit p)) (uSub (pkUnit p)) (freshSlice (pkF p 0 19 0) (bitOf (pkW p 0) 20) (pkW p 1) (pkW p 2)))) (Rsp.plain .served),
    ask := fun s w p =>
      match s.core.slice (uIdx (pkUnit p)) (uSub (pkUnit p)) with
      | some sl => s.answerWords w p [BitVec.ofNat 64 (sl.pasid + b2n sl.disable * 2 ^ 20), BitVec.ofNat 64 sl.cb, BitVec.ofNat 64 sl.s1base]
      | none => (s, Rsp.plain .rejectedUnit) }

/-- SLICE_CREATE. -/
def execSliceCreate (port : Port) (s : State) : Host.Outcome State Fault Refusal := s.ends (cmdSliceCreate.exec port s)

/-! ## Work of an instance or a slice -/

/-- An issuer is this instance, and this slice of it where one is named. -/
def Who.ofSlice (w : Who) (inst : Nat) (slice : Option Nat) : Bool := !w.secure && w.remote.isNone && w.inst == inst && slice.elim true (fun i => w.slice == i)

/-- Commands and group commands of an issuer that have no final completion are dropped (R136); answers how many. -/
def State.dropOwed (s : State) (mine : Who → Bool) : State × Nat :=
  let n := (s.core.owed.filter (fun o => mine o.who && o.group.isNone)).length + (s.core.groupRuns.filter (fun e => mine e.2.who)).length
  (s.mapCore (fun c => { c with owed := c.owed.filter (fun o => !mine o.who), groupRuns := c.groupRuns.filter (fun e => !mine e.2.who) }), n)

/-- Counts of work that a reset stops. -/
structure Stopped where
  dma : Nat
  tiles : Nat
  deriving DecidableEq, Repr

/-- Copies of an issuer end at the burst in progress; a surface that was only waiting for one is released (R136, R209). -/
def State.stopCopies (s : State) (mine : Who → Bool) : State :=
  (s.srf.copies.filter (fun c => mine c.who)).foldl (fun t c =>
    let t1 : State := { t with srf := { t.srf with copies := t.srf.copies.filter (fun x => x.work != c.work) } }
    let t2 := t1.dropWork c.work
    (Tbl.find t2.srf.surfs c.surf).elim t2 (fun sf =>
      if sf.releasing && !sf.locked && !t2.srf.copies.any (fun x => x.surf == c.surf) then (t2.dropSurf c.surf).finishWhere (fun o => asOp o.op == 0x0201 && o.wait == .unit (surfUnit c.surf)) (fun _ => Rsp.ok 0 0x200 0) else t2)) s

/-- Admitted work of an issuer stops at each engine's stopping point (R136, Table 3.11): raster jobs, compose passes, copies, scans, sound sources. -/
def State.stopWork (s : State) (inst : Nat) (slice : Option Nat) : State × Stopped :=
  let mine (w : Who) : Bool := w.ofSlice inst slice
  let jobs := s.ras.jobs.filter (fun j => mine j.who)
  let tiles := (jobs.map (fun j => if j.started then (s.tilesLeft j).length else 0)).foldl (· + ·) 0
  let dma := (s.srf.copies.filter (fun c => mine c.who)).length
  let s1 := jobs.foldl State.stopJob s
  let s2 := (s1.frd.passes.filter (fun q => mine q.who)).foldl State.failPass s1
  let s3 := s2.stopCopies mine
  let s4 := (Tbl.keys (Tbl.keep s3.chk.engines (fun _ g => g.scan.elim false (fun c => mine c.who)))).foldl State.resetEngine s3
  let s5 := (Tbl.keys (Tbl.keep s4.aud.srcs (fun _ x => x.st != 0 && x.owner == inst && slice.elim true (fun i => x.slice == i)))).foldl State.closeSrc s4
  (s5.mapCore (fun c => { c with dtuFaults := satAdd c.dtuFaults dma }), { dma := dma, tiles := tiles })

/-- Commits of an issuer that are staged or wait for their latch point are dropped. -/
def State.dropCommits (s : State) (inst : Nat) (slice : Option Nat) : State :=
  let mine (c : Commit) : Bool := c.inst == inst && slice.elim true (fun i => c.slice == i)
  (Tbl.keys s.frd.fronds).foldl (fun t f =>
    (t.frond f).elim t (fun fr =>
      ((fr.commits ++ fr.staged).filter mine).foldl (fun u c => (u.dropCommitRef c).dropUncreated c)
        (t.updFrond f (fun x => { x with commits := x.commits.filter (fun c => !mine c), staged := x.staged.filter (fun c => !mine c) })))) s

/-- Layers of an issuer go at their frond's next latch point, at once where it drives no output; their regions take the SERVICE badge (R136, R137). -/
def State.dropLayers (s : State) (inst : Nat) (slice : Option Nat) : State × Nat :=
  let keys := Tbl.keys (Tbl.keep s.frd.layers (fun _ l => l.owner == inst && slice.elim true (fun i => l.slice == i)))
  let on (place : Nat) : Bool := uCls place == 0x21 && keys.contains (subKey place)
  let s1 := s.setCause .instanceReset true (fun _ r => on r.place && !r.orphan) (fun _ r => on r.place && !r.orphan)
  (keys.foldl (fun t k =>
    let t1 := (t.updLayer k (fun l => { l with removing := if l.removing.isSome then l.removing else some (0, false) })).clearPosts k
    if (s.outOf (k / 256)).isNone then t1.endLayer k else t1) s1, keys.length)

/-- Surfaces of an instance are freed; one still referenced stays until its last reference retires (R137). -/
def State.dropSurfs (s : State) (inst : Nat) : State × Nat :=
  let ns := Tbl.keys (Tbl.keep s.srf.surfs (fun _ sf => sf.owner == inst))
  let s1 := ns.foldl (fun t n => (Tbl.find t.srf.surfs n).elim t (fun sf =>
    if sf.locked || t.srf.copies.any (fun c => c.surf == n) then t.updSurf n (fun x => { x with releasing := true }) else t.dropSurf n)) s
  (s1, (Tbl.keep s1.srf.surfs (fun _ sf => sf.owner == inst && sf.releasing)).length)

/-! ## Resets -/

/-- The unit of a reset. -/
def resetUnit (inst : Nat) (slice : Option Nat) : Nat := slice.elim (uid 0x01 inst 0) (fun i => sliceUnit inst i)

/-- What happens at once when a reset begins (R135, R136): generations, cached translations, queued commands, engines. -/
def State.beginReset (s : State) (inst : Nat) (slice : Option Nat) (flr : Bool) : State :=
  let u := resetUnit inst slice
  let old := s.core.genOf u
  let idxs := slice.elim (s.core.slicesOf inst) (fun i => [i])
  let pasids := idxs.filterMap (fun i => (s.core.slice inst i).map Slice.pasid)
  let d := s.dropOwed (fun w => w.ofSlice inst slice)
  let s1 := d.1.mapCore (fun c =>
    let c1 : Core := { c with tlb := c.tlb.filter (fun e => !(e.inst == inst && (slice.isNone || (e.stage == 1 && pasids.contains e.pasid)))),
                              discReset := Tbl.addTo c.discReset inst d.2,
                              slices := idxs.foldl (fun t i => Tbl.upd t (sliceKey inst i) (fun sl => { sl with st := .draining, visible := [], auth := none, challenge := none })) c.slices }
    let c2 := if slice.isNone then ({ c1 with tokens := Tbl.del c1.tokens inst, tokenTime := Tbl.del c1.tokenTime inst, adm := Tbl.del c1.adm inst } : Core).bump u else c1
    idxs.foldl (fun k i => k.bump (sliceUnit inst i)) c2)
  let w := s1.stopWork inst slice
  let l := (w.1.dropCommits inst slice).dropLayers inst slice
  let s2 : State := { l.1 with srf := { l.1.srf with maps := l.1.srf.maps.filter (fun m => !(m.inst == inst && slice.elim true (fun i => m.slice == i))) } }
  let open' := Tbl.keys (Tbl.keep s2.ing.recvs (fun _ r => r.owner == some inst && r.st != 0))
  let s3 := if slice.isNone then open'.foldl (fun t r => t.stopRecv r false) s2 else s2
  let s4 : State := { s3 with ras := { s3.ras with loads := s3.ras.loads.filter (fun x => x.1 != inst || (slice.isSome && s3.core.owed.any (fun o => o.wait == .work x.2.2.2))) } }
  let f := if slice.isNone then s4.dropSurfs inst else (s4, 0)
  let run : ResetRun := { start := s.core.now, oldGen := old, completions := d.2, dma := w.2.dma, tiles := w.2.tiles, decodes := 0, layers := l.2, surfaces := f.2, flr := flr, queued := false }
  f.1.mapCore (fun c => { c with resets := Tbl.put c.resets u run })

/-- An instance reset is asked for (R139, R141): it joins one in progress, waits for resets of its slices, or begins. -/
def State.askReset (s : State) (inst : Nat) (flr : Bool) : State :=
  let u := uid 0x01 inst 0
  match Tbl.find s.core.resets u with
  | some r => s.mapCore (fun c => { c with resets := Tbl.put c.resets u { r with flr := r.flr || flr } })
  | none =>
    if s.core.resets.any (fun e => uCls e.1 == 0x02 && uIdx e.1 == inst) then
      s.mapCore (fun c => { c with resets := Tbl.put c.resets u { start := c.now, oldGen := c.genOf u, completions := 0, dma := 0, tiles := 0, decodes := 0, layers := 0, surfaces := 0, flr := flr, queued := true } })
    else s.beginReset inst none flr

/-- Receivers of an instance that have not closed yet. -/
def State.closingRecvs (s : State) (inst : Nat) : List Nat := Tbl.keys (Tbl.keep s.ing.recvs (fun _ r => r.owner == some inst && r.closing.isSome))

/-- A reset's engines have reached their stopping points. -/
def State.stopped (s : State) (inst : Nat) (slice : Option Nat) : Bool :=
  !s.ras.jobs.any (fun j => j.stopped && j.who.ofSlice inst slice) && (slice.isSome || (s.closingRecvs inst).isEmpty)

/-- At 2 ms frames still coming in are dropped and the tiles still at work end (Table 3.11); answers the frames dropped. -/
def State.forceStop (s : State) (inst : Nat) (slice : Option Nat) : State × Nat :=
  let works := (s.ras.jobs.filter (fun j => j.stopped && j.who.ofSlice inst slice)).map RJob.work
  let s1 := works.foldl State.endStopped { s with ras := { s.ras with cores := Tbl.keep s.ras.cores (fun _ c => !works.contains c.work) } }
  if slice.isSome then (s1.takeTiles, 0)
  else
    let rs := s1.closingRecvs inst
    (rs.foldl (fun t r => t.closeRecv r false) s1.takeTiles, (rs.map (fun r => (s1.recv r).elim 0 (fun x => x.frames.length))).foldl (· + ·) 0)

/-- The data bytes of RESET_DONE (R138, R140). -/
def resetData (r : ResetRun) (new : Gen) (now : Nat) (slice : Option Nat) : List Byte :=
  le 2 r.oldGen.toNat ++ le 2 new.toNat ++ le 4 r.completions ++ le 4 r.dma ++ le 4 r.tiles ++ le 4 r.decodes ++ le 4 r.layers ++ le 4 r.surfaces ++ le 4 ((now - r.start) / 1000) ++ le 2 (slice.getD 0)

/-- A reset ends (R138, R140, R641): slices are OPEN again, RESET_DONE and DISCARD_SUMMARY, the commands that asked complete. A slice whose destruction was asked meanwhile goes on draining. -/
def State.endReset (s : State) (inst : Nat) (slice : Option Nat) (r : ResetRun) : State :=
  let u := resetUnit inst slice
  let idxs := slice.elim (s.core.slicesOf inst) (fun i => [i])
  let new := s.core.genOf u
  let s1 := s.mapCore (fun c =>
    let c1 := idxs.foldl (fun k i => (k.slice inst i).elim k (fun sl =>
      k.openSlice inst i { freshSlice sl.pasid sl.disable sl.cb sl.s1base with st := if Tbl.has k.trans (sliceUnit inst i) then .draining else .opened })) { c with resets := Tbl.del c.resets u }
    let c2 := c1.notify 0x0001 inst u (resetData r new c.now slice)
    c2.event 0xFE03 inst u r.completions (le 2 r.oldGen.toNat ++ le 2 new.toNat ++ le 1 (uCls u)))
  let s2 := s1.finishWhere (fun o => o.op == 0x0143 && o.wait == .unit u) (fun _ => Rsp.ok new.toNat 0 0)
  idxs.foldl (fun t i => t.finishWhere (fun o => o.op == 0x0142 && o.wait == .unit (sliceUnit inst i)) (fun _ => Rsp.ok (t.core.genOf (sliceUnit inst i)).toNat 0 0)) s2

/-- An instance reset that waited for its slices' resets begins (R141). -/
def State.nextReset (s : State) (inst : Nat) : State :=
  match Tbl.find s.core.resets (uid 0x01 inst 0) with
  | some r => if r.queued && !s.core.resets.any (fun e => uCls e.1 == 0x02 && uIdx e.1 == inst) then s.beginReset inst none r.flr else s
  | none => s

/-- RESET_DONE (R138): due when the engines have stopped, and at 2 ms at the latest. -/
def execResetDone (inst : Nat) (slice : Option Nat) (s : State) : Host.Outcome State Fault Refusal :=
  s.ends (match Tbl.find s.core.resets (resetUnit inst slice) with
    | none => s
    | some r =>
      if r.queued then s
      else if s.stopped inst slice then (s.endReset inst slice r).nextReset inst
      else if s.core.now < r.start + 2 * 10 ^ 6 then s
      else
        let f := s.forceStop inst slice
        (f.1.endReset inst slice { r with decodes := r.decodes + f.2 }).nextReset inst)

/-- SLICE_RESET (R140, R141, R641). -/
def cmdSliceReset : Cmd :=
  { opcode := 0x0142, forms := .setOnly, secure := false, always := false, form := fun _ _ p => pkLen p 0, qform := bufForm, unitOk := atSlice,
    may := fun _ w p => !w.secure && (w.inst == 0 || w.inst == uIdx (pkUnit p)) && !(w.remote.isNone && w.inst == uIdx (pkUnit p) && w.slice == uSub (pkUnit p)),
    active := fun s p => s.isActive (pkUnit p), check := noCheck,
    run := fun s _ p =>
      let i := uIdx (pkUnit p)
      let k := uSub (pkUnit p)
      .silent (if s.resetting i k then s else s.beginReset i (some k) false) (.unit (uKey (pkUnit p))),
    ask := noAsk }

/-- SLICE_RESET. -/
def execSliceReset (port : Port) (s : State) : Host.Outcome State Fault Refusal := s.ends (cmdSliceReset.exec port s)

/-- SLICE_DESTROY (R108, R641): the slice drains; UNIT_QUIET ends it. -/
def cmdSliceDestroy : Cmd :=
  { opcode := 0x0141, forms := .setOnly, secure := false, always := false, form := fun _ _ p => pkLen p 0, qform := bufForm, unitOk := atSlice,
    may := fun _ w p => !w.secure && w.inst == 0 && !(uIdx (pkUnit p) == 0 && uSub (pkUnit p) == 0) && !(w.remote.isNone && uIdx (pkUnit p) == 0 && w.slice == uSub (pkUnit p)),
    active := fun s p => s.isActive (pkUnit p) || Tbl.has s.core.trans (uKey (pkUnit p)), check := noCheck,
    run := fun s _ p =>
      let s1 := s.startTr (pkUnit p) .powerDown
      .silent (s1.mapCore (fun c => c.updSlice (uIdx (pkUnit p)) (uSub (pkUnit p)) (fun sl => { sl with st := .draining, visible := [] }))) (.unit (uKey (pkUnit p))),
    ask := noAsk }

/-- SLICE_DESTROY. -/
def execSliceDestroy (port : Port) (s : State) : Host.Outcome State Fault Refusal := s.ends (cmdSliceDestroy.exec port s)

/-- INSTANCE_RESET (R135 to R138, R641). -/
def cmdInstanceReset : Cmd :=
  { opcode := 0x0143, forms := .setOnly, secure := false, always := false, form := fun _ _ p => pkLen p 0, qform := bufForm, unitOk := fun s w p => atInstance s w p && uIdx (pkUnit p) != 0, may := pfOnly,
    active := ownActive, check := noCheck, run := fun s _ p => .silent (s.askReset (uIdx (pkUnit p)) false) (.unit (uKey (pkUnit p))), ask := noAsk }

/-- INSTANCE_RESET. -/
def execInstanceReset (port : Port) (s : State) : Host.Outcome State Fault Refusal := s.ends (cmdInstanceReset.exec port s)

/-- FUNCTION_LEVEL_RESET (R139): of a VF with FLR_STARTED, or of the PF. -/
def execFunctionLevelReset (inst : Nat) (s : State) : Host.Outcome State Fault Refusal :=
  s.ends (if 64 ≤ inst ∨ !s.core.ready then s else (if inst = 0 then s else s.mapCore (fun c => c.notify 0x0004 inst (uid 0x01 inst 0) [])).askReset inst true)

/-- VF_ENABLE_CLEAR (R139): every VF instance is reset. -/
def execVfEnableClear (s : State) : Host.Outcome State Fault Refusal :=
  s.ends (if s.core.ready then (List.range 63).foldl (fun t i => t.askReset (i + 1) false) s else s)

/-! ## Share records -/

/-- The record that SHARE_SET's words spell (Table 3.8). -/
def shareOf (p : Packet) : Share :=
  { bands := pkF p 0 11 8, exportOk := bitOf (pkW p 0) 12, weight := pkF p 0 47 32, refOutput := pkF p 0 26 24, resAMemA := pkF p 1 15 0, resBMemA := pkF p 1 31 16, resAMemB := pkF p 1 47 32, resBMemB := pkF p 1 63 48,
    rasterUs := pkF p 2 63 32, rasterAUs := pkF p 2 31 0, pcmUs := pkF p 3 63 32, pcmAUs := pkF p 3 31 0, layerQuota := pkF p 4 44 0, maxSlices := pkF p 5 56 48, streamRx := pkF p 5 47 40, jrnRate := pkF p 5 31 0,
    tagQuota := pkF p 6 44 24, dAge := pkF p 6 23 16, dDepth := pkF p 6 15 0 }

/-- The words of a record (Table 3.8). -/
def Share.words (r : Share) (inst : Nat) : List Word64 :=
  [BitVec.ofNat 64 (r.weight * 2 ^ 32 + r.refOutput * 2 ^ 24 + b2n r.exportOk * 2 ^ 12 + r.bands * 2 ^ 8 + inst),
   BitVec.ofNat 64 (r.resBMemB * 2 ^ 48 + r.resAMemB * 2 ^ 32 + r.resBMemA * 2 ^ 16 + r.resAMemA), BitVec.ofNat 64 (r.rasterUs * 2 ^ 32 + r.rasterAUs), BitVec.ofNat 64 (r.pcmUs * 2 ^ 32 + r.pcmAUs),
   BitVec.ofNat 64 r.layerQuota, BitVec.ofNat 64 (r.maxSlices * 2 ^ 48 + r.streamRx * 2 ^ 40 + r.jrnRate), BitVec.ofNat 64 (r.tagQuota * 2 ^ 24 + r.dAge * 2 ^ 16 + r.dDepth)]

/-- The ranges of Table 3.8. -/
def shareForm (_ : State) (_ : Who) (p : Packet) : Bool :=
  let r := shareOf p
  pkLen p 7 && pkF p 0 63 48 == 0 && pkF p 0 31 27 == 0 && pkF p 0 23 13 == 0 && pkF p 0 7 6 == 0 && pkF p 0 5 0 == uIdx (pkUnit p) && decide (1 ≤ r.weight) &&
  [r.resAMemA, r.resBMemA, r.resAMemB, r.resBMemB].all (fun v => decide (v ≤ 1024)) && decide (r.rasterAUs ≤ r.rasterUs) && decide (r.pcmAUs ≤ r.pcmUs) &&
  pkF p 4 63 45 == 0 && (List.range 9).all (fun f => decide (fld r.layerQuota (5 * f + 4) (5 * f) ≤ 16)) && pkF p 5 63 57 == 0 && decide (r.maxSlices ≤ 256) && decide (r.streamRx ≤ 64) && pkF p 5 39 32 == 0 &&
  decide (1 ≤ r.jrnRate) && decide (r.jrnRate ≤ 200000) && pkF p 6 63 45 == 0 && decide (r.tagQuota ≤ 1048576) && decide (1 ≤ r.dAge) && decide (1 ≤ r.dDepth)

/-- Frame period of a record's REF_OUTPUT in ns; none without a committed mode. -/
def State.framePeriod (s : State) (r : Share) : Option Nat := (s.out r.refOutput).bind (fun o => if o.mode.isEmpty ∨ o.frameNs = 0 then none else some o.frameNs)

/-- A row 3 or 4 check (Table 3.9, R124): the new record's own times against its frame, and band A's part of every frame summed. -/
def State.engineRow (s : State) (shares : Tbl Share) (new : Share) (all a : Share → Nat) : Bool :=
  let part (r : Share) : Rat := (s.framePeriod r).elim 0 (fun p => ((a r * 1000 : Nat) : Rat) / ((p : Nat) : Rat))
  (all new == 0 && a new == 0 || (s.framePeriod new).elim false (fun p => decide (all new * 1000 ≤ p))) && decide ((shares.map (fun e => part e.2)).foldl (· + ·) 0 ≤ 7 / 10)

/-- The first row of Table 3.9 that the records would break. -/
def State.brokenRow (s : State) (shares : Tbl Share) (new : Share) : Option Nat :=
  let sum (f : Share → Nat) : Nat := (shares.map (fun e => f e.2)).foldl (· + ·) 0
  match slotRows (s.frondEntries 0) (s.frondEntries 1) shares with
  | some n => some n
  | none =>
    if !s.engineRow shares new Share.rasterUs Share.rasterAUs then some 3
    else if !s.engineRow shares new Share.pcmUs Share.pcmAUs then some 4
    else if 140000 < sum (fun r => if bitOf r.bands 0 then r.jrnRate else 0) then some 5
    else if 64 < sum Share.streamRx then some 6
    else if 1048576 < sum Share.tagQuota then some 7
    else none

/-- The records in force with those that wait put in place (R132, R134). -/
def Core.newestShares (c : Core) : Tbl Share := c.sharesPending.foldl (fun t e => Tbl.put t e.1 e.2) c.shares

/-- SHARE_SET (R121 to R124, R132, R134): takes effect at the next admission decision. -/
def cmdShareSet : Cmd :=
  { opcode := 0x0144, forms := .both, secure := false, always := false, form := shareForm, qform := bufForm, unitOk := atInstance, may := fun _ w p => !w.secure && (w.inst == 0 || (pkQuery p && w.inst == uIdx (pkUnit p))),
    active := fun s p => s.isActive (pkUnit p),
    check := fun s _ p => (s.brokenRow (Tbl.put s.core.newestShares (uIdx (pkUnit p)) (shareOf p)) (shareOf p)).map (Rsp.code .refusedShare),
    run := fun s _ p => .done (s.mapCore (fun c => { c with sharesPending := Tbl.put c.sharesPending (uIdx (pkUnit p)) (shareOf p) })) (Rsp.plain .served),
    ask := fun s w p =>
      let i := uIdx (pkUnit p)
      s.answerWords w p ((s.core.share i).elim [] (fun r => ({ r with weight := (if i = 0 then Tbl.at s.mem.devWeight 256 7 % 2 ^ 16 else r.weight) } : Share).words i)) }

/-- SHARE_SET. -/
def execShareSet (port : Port) (s : State) : Host.Outcome State Fault Refusal := s.ends (cmdShareSet.exec port s)

/-- The record of R131. -/
def AdmCount.record (a : AdmCount) : List Byte :=
  fit 64 ([a.delayed, a.refused, a.late, a.shownNew, a.shownHeld, a.notShown, a.veiled, a.dropped, a.bandCDelay].flatMap (le 4))

/-- ADMISSION_STATUS (R131). -/
def cmdAdmissionStatus : Cmd :=
  { opcode := 0x0145, forms := .queryOnly, secure := false, always := false, form := fun _ _ p => pkLen p 1, qform := fun _ _ p => pkLen p 1, unitOk := atInstance, may := fun _ w p => w.ownerOrPf (uIdx (pkUnit p)), active := ownActive,
    check := noCheck, run := noRun,
    ask := fun s w p =>
      let a := Tbl.at s.core.adm AdmCount.zero (uIdx (pkUnit p))
      let r := Rsp.ok a.delayed a.refused a.late
      if pkW p 0 = 0 then (s, r) else s.answer w (pkW p 0) a.record r }

/-- ADMISSION_STATUS. -/
def execAdmissionStatus (port : Port) (s : State) : Host.Outcome State Fault Refusal := s.ends (cmdAdmissionStatus.exec port s)

/-! ## The DTU -/

/-- Cached entries that DTU_INVALIDATE names: of a slice's PASID or an instance's stage 2, all or those of a range (DESIGN CHOICE, log entry 73). -/
def invalidated (s : State) (p : Packet) (e : TlbEntry) : Bool :=
  let i := uIdx (pkUnit p)
  let inRange := pkW p 1 == 0 || (decide (pkW p 0 / 4096 ≤ e.page) && decide (e.page * 4096 < pkW p 0 + pkW p 1))
  e.inst == i && inRange && (if uCls (pkUnit p) = 0x01 then e.stage == 2 else e.stage == 1 && (s.core.slice i (uSub (pkUnit p))).elim false (fun sl => sl.pasid == e.pasid))

/-- DTU_INVALIDATE (R120): word 0 an address and word 1 a length in bytes, 0 for all (log entry 73). -/
def cmdDtuInvalidate : Cmd :=
  { opcode := 0x0146, forms := .setOnly, secure := false, always := false, form := fun _ _ p => pkLen p 2, qform := bufForm, unitOk := fun s w p => atInstance s w p || atSlice s w p,
    may := fun _ w p => !w.secure && (if uCls (pkUnit p) = 0x01 then w.inst == 0 else w.inst == uIdx (pkUnit p)), active := ownActive, check := noCheck,
    run := fun s _ p => .done (s.mapCore (fun c => { c with tlb := c.tlb.filter (fun e => !invalidated s p e) })) (Rsp.plain .served), ask := noAsk }

/-- DTU_INVALIDATE. -/
def execDtuInvalidate (port : Port) (s : State) : Host.Outcome State Fault Refusal := s.ends (cmdDtuInvalidate.exec port s)

/-- STAGE2_SET (R116): word 0 holds the table base, 4 KiB aligned, and ENABLE in [0] (DESIGN CHOICE, log entry 73). The instance's cached stage 2 goes with the old context. -/
def cmdStage2Set : Cmd :=
  { opcode := 0x0147, forms := .both, secure := false, always := false, form := fun _ _ p => pkLen p 1 && pkF p 0 11 1 == 0 && pkF p 0 63 52 == 0, qform := bufForm, unitOk := atInstance, may := pfOnly, active := ownActive, check := noCheck,
    run := fun s _ p =>
      let i := uIdx (pkUnit p)
      .done (s.mapCore (fun c => { c with stage2 := Tbl.put c.stage2 i { base := pkW p 0 / 4096 * 4096, enabled := bitOf (pkW p 0) 0 }, tlb := c.tlb.filter (fun e => !(e.inst == i && e.stage == 2)) })) (Rsp.plain .served),
    ask := fun s w p =>
      let x := Tbl.at s.core.stage2 { base := 0, enabled := false } (uIdx (pkUnit p))
      s.answerWords w p [BitVec.ofNat 64 (x.base + b2n x.enabled)] }

/-- STAGE2_SET. -/
def execStage2Set (port : Port) (s : State) : Host.Outcome State Fault Refusal := s.ends (cmdStage2Set.exec port s)

/-! ## The manager's mailbox -/

/-- MGT_MBOX_UP_HEAD_WRITE (R114): entries come back, and waiting notifications are posted while there is room. -/
def execMgtMboxUpHeadWrite (head : Nat) (s : State) : Host.Outcome State Fault Refusal :=
  s.ends (s.mapCore (fun c => Core.postWaiting (c.waitingN.length + c.keptN.length) { c with upHead := head % 2 ^ 32 }))

/-- VF_MBOX_SEND (R115, R628): the tenant's bytes go to its slot of the up mailbox; while a request has no reply it is ignored and sets BUSY. A count above 512 is ignored, and so is a send while MGT_MBOX_UP_BASE is 0 (log entry 8). -/
def execVfMboxSend (inst count : Nat) (s : State) : Host.Outcome State Fault Refusal :=
  s.ends (
    let n := fld count 9 0
    if inst = 0 ∨ 64 ≤ inst ∨ 512 < n then s
    else if Tbl.at s.core.vfAsked false inst then s.mapCore (fun c => { c with vfBusy := Tbl.put c.vfBusy inst true })
    else if s.core.mboxUp = 0 then s
    else s.mapCore (fun c =>
      let bytes := (fit 512 (Tbl.at c.vfReq [] inst)).take n
      Core.notify { Core.wr2 0 bytes c (c.mboxUp + 32768 + 512 * inst) with vfAsked := Tbl.put c.vfAsked inst true } 0x0003 inst (uid 0x01 inst 0) (le 2 n)))

/-- MGT_MBOX_REPLY (R115): the reply in the down slot goes to VF_MBOX_RSP, REPLY is set and the VF's mailbox vector raised; stores are the manager's own writes to host memory (log entry 13). A count above 1,024 is ignored. -/
def execMgtMboxReply (inst count : Nat) (stores : List Host.Cell) (s : State) : Host.Outcome State Fault Refusal :=
  let s1 := s.mapCore (fun c => { c with host := stores.foldl (fun m e => Memory.wr m e.1 e.2) c.host })
  s.ends (
    if inst = 0 ∨ 64 ≤ inst ∨ 1024 < count ∨ s.core.mboxDown = 0 then s1
    else s1.mapCore (fun c =>
      let bytes := c.rd2 0 (c.mboxDown + 1024 * inst) count
      let c1 : Core := { c with vfRsp := Tbl.put c.vfRsp inst (bytes ++ (fit 1024 (Tbl.at c.vfRsp [] inst)).drop count), vfReply := Tbl.put c.vfReply inst true, vfAsked := Tbl.put c.vfAsked inst false, vfBusy := Tbl.put c.vfBusy inst false }
      c1.raise inst Config.mailboxVector.toNat))

/-- VF_MBOX_RSP_READ (R628): the bytes read, and REPLY is clear. -/
def execVfMboxRspRead (inst off size : Nat) (s : State) : Host.Outcome State Fault Refusal :=
  s.ends (
    if inst = 0 ∨ 64 ≤ inst ∨ 1024 < off + size then s
    else s.mapCore (fun c => { c with rdData := ((fit 1024 (Tbl.at c.vfRsp [] inst)).drop off).take size, vfReply := Tbl.put c.vfReply inst false }))

end Sys2Proof.Machine
end

