-- ==== Sys2Proof/Machine/Groups.lean ====
section
/-! DEFINITION. Chapter 1: UNIT_DRAIN_START, UNIT_QUIET, DRAIN_LIMIT_EXPIRE, groups and UNIT_RESET (R37 to R46, R51 to R54). -/

namespace Sys2Proof.Machine

/-- Commands that a unit holds: those of a slice, or those that wait for the unit, other than its own transitions and those its reset ends itself. -/
def heldFor (u : Nat) (o : Owed) : Bool :=
  if uCls u = 0x02 then o.who.ofSlice (uIdx u) (some (uSub u))
  else o.wait == .unit (uKey u) && !([0x0102, 0x0103, 0x0141, 0x0142, 0x0143, 0x0E00].contains o.op) && o.op / 256 != 6

/-! ## UNIT_DRAIN_START, UNIT_QUIET, DRAIN_LIMIT_EXPIRE -/

/-- Members of a group that are neither groups nor of another device. -/
def State.ownLeaves (s : State) (u : Nat) : List Nat := (s.core.leaves s.core.leafFuel [uKey u]).filter (fun v => !s.foreign v)

/-- Every member of a draining group is done (R46). -/
def State.groupDone (s : State) (u : Nat) : Bool :=
  !(s.ownLeaves u).any (fun v => resettable v && (s.trOf v).elim false (fun t => t.phase == .draining)) &&
  !s.core.owed.any (fun o => o.op == 0x0103 && o.group.isSome && (match o.wait with | .remote _ => true | _ => false) && (s.core.leaves s.core.leafFuel [uKey u]).contains (pkUnit o.pk))

/-- A unit is a group that GROUP_CREATE makes. -/
def isGroupUnit (u : Nat) : Bool := isMadeGroup (uCls u)

/-- Removes a group and its wait (R53). -/
def State.dropGroup (s : State) (u : Nat) : State := s.mapCore (fun c => { c with groups := Tbl.del c.groups (uKey u) })

/-- A slice that is destroyed returns to NONE; what its engines still do for it ends (R108). -/
def State.dropSlice (s : State) (inst idx : Nat) : State :=
  let s1 := (s.stopWork inst (some idx)).1
  s1.mapCore (fun c => { c with slices := Tbl.del c.slices (sliceKey inst idx), tlb := c.tlb.filter (fun e => !(e.inst == inst && e.stage == 1 && (c.slice inst idx).elim false (fun sl => sl.pasid == e.pasid))) })

/-- A unit is QUIET (R42, R44): it holds nothing, its generation moves on, the commands that asked complete, and the first queued request starts. -/
def State.quiet (s : State) (u : Nat) (t : UnitTr) : State :=
  let s1 := match t.kind with | .reset => s.applyReset u | .update => s | .powerDown => if isGroupUnit u then s.dropGroup u else if uCls u = 0x02 then s.dropSlice (uIdx u) (uSub u) else s
  let s2 := s1.bumpDrained u t.discarded
  let g := (s2.core.genOf u).toNat
  let others := if isGroupUnit u then ((s.core.leaves s.core.leafFuel [uKey u]).filter (fun v => !resettable v)).length else 0
  match t.kind with
  | .powerDown =>
    let s3 := if isGroupUnit u || uCls u == 0x02 then s2.mapCore (fun c => { c with trans := Tbl.del c.trans (uKey u) }) else s2.setTr u { t with phase := .off, queued := [] }
    let s4 := s3.finishWhere (fun o => o.wait == .unit (uKey u) && o.op == 0x0103) (fun _ => Rsp.plain .refusedUnitReset)
    (s4.finishWhere (fun o => o.wait == .unit (uKey u) && o.op == 0x0102) (fun _ => Rsp.plain .served)).finishWhere (fun o => o.wait == .unit (uKey u) && o.op == 0x0141) (fun _ => Rsp.ok g 0 0)
  | _ =>
    let s3 := match firstKind t.queued with
      | some k => s2.setTr u { phase := .draining, kind := k, queued := t.queued.erase k, discarded := 0, began := s.core.now }
      | none => s2.mapCore (fun c => { c with trans := Tbl.del c.trans (uKey u) })
    if t.kind = .reset then s3.finishWhere (fun o => o.wait == .unit (uKey u) && o.op == 0x0103) (fun _ => Rsp.ok g others 0) else s3

/-- Groups whose last member is QUIET become QUIET (R46). -/
def State.settleGroups (s : State) : State :=
  s.core.trans.foldl (fun t e => if isGroupUnit e.1 && e.2.phase == .draining && e.2.kind == .reset && t.groupDone e.1 then t.quiet e.1 e.2 else t) s

/-- A group command of this unit is still at work. -/
def State.groupBusy (s : State) (u : Nat) : Bool := s.core.groupRuns.any (fun e => uKey (pkUnit e.2.pk) == uKey u)

/-- A draining unit holds nothing more. -/
def State.drained (s : State) (u : Nat) (t : UnitTr) : Bool :=
  if isGroupUnit u then (if t.kind = .reset then s.groupDone u else !s.groupBusy u) else !s.core.owed.any (heldFor u) && !(uCls u == 0x02 && s.resetting (uIdx u) (uSub u))

/-- UNIT_DRAIN_START (R42, R44): a request reaches a unit of this device; a power-down of a leased unit is deferred and starts nothing (R506). Instances, slices and domains have commands of their own. -/
def execUnitDrainStart (unit : BitVec 32) (kind : Transition) (s : State) : Host.Outcome State Fault Refusal :=
  s.ends (
    let u := unit.toNat
    if s.foreign u ∨ !unitInRange u ∨ uCls u ≤ 0x02 ∨ uCls u = 0xA0 ∨ (kind = .powerDown ∧ s.leased u) then s else s.startTr u kind)

/-- UNIT_QUIET (R42, R46): a draining unit that holds nothing more is QUIET; a draining power domain goes OFF and its command is served (R577). -/
def execUnitQuiet (unit : BitVec 32) (s : State) : Host.Outcome State Fault Refusal :=
  s.ends (
    let u := unit.toNat
    if s.foreign u then s
    else if uCls u = 0xA0 then
      if Tbl.at s.pwr.dom .off (uIdx u) = .draining ∧ !s.core.owed.any (fun o => match o.wait with | .unit v => (domainUnits s (uIdx u)).contains v | _ => false) then
        (((s.domainOff (uIdx u) .off).bumpDrained u 0).mapCore (fun c => ({ c with trans := Tbl.del c.trans (uKey u) } : Core).event 0xFEC1 0 u (uIdx u) (le 1 1))).finishWhere (fun o => o.wait == .unit (uKey u) && o.op == 0x0E00 && o.started) (fun _ => Rsp.plain .served)
      else s
    else
      match s.trOf u with
      | some t => if t.phase = .draining ∧ s.drained u t then (s.quiet u t).settleGroups else s
      | none => s)

/-- The drain limit of a unit has passed (R43). -/
def State.limitPast (s : State) (u : Nat) (t : UnitTr) : Bool :=
  let frameEnded (f : Nat) : Bool := (s.outOf f).elim true (fun e => decide (t.began < e.2.sav)) || (s.frond f).elim true (fun fr => fr.scan.isNone)
  let two := decide (t.began + 2 * 10 ^ 6 ≤ s.core.now)
  match uCls u with
  | 0x20 => frameEnded (uIdx u)
  | 0x21 => frameEnded (uIdx u)
  | 0x22 => (s.out (uIdx u)).elim true (fun o => frameEnded o.frond)
  | 0x30 => two || !Tbl.has s.ras.cores (uIdx u)
  | 0x81 => s.core.jrn.buffer.isEmpty && s.core.jrn.flushing.isEmpty
  | _ => two

/-- Group commands still at work on a group whose drain limit is reached fail (R42). -/
def State.abortRuns (s : State) (u : Nat) : State :=
  (s.core.groupRuns.filter (fun e => uKey (pkUnit e.2.pk) == uKey u)).foldl (fun t e =>
    (t.mapCore (fun c => { c with groupRuns := Tbl.del c.groupRuns e.1 })).mapCore (fun c => c.completeOrWait e.2.who e.2.pk (Rsp.plain .failedUnitReset) (pkSync e.2.pk) e.2.jseq)) s

/-- DRAIN_LIMIT_EXPIRE (R43): what a draining unit, or power domain, still holds is aborted, and the unit is QUIET. -/
def execDrainLimitExpire (unit : BitVec 32) (s : State) : Host.Outcome State Fault Refusal :=
  s.ends (
    let u := unit.toNat
    if s.foreign u then s
    else
      match s.trOf u with
      | none => s
      | some t =>
        if t.phase ≠ .draining ∨ !s.limitPast u t then s
        else if uCls u = 0xA0 then
          (((s.domainOff (uIdx u) .off).bumpDrained u 0).mapCore (fun c => ({ c with trans := Tbl.del c.trans (uKey u) } : Core).event 0xFEC1 0 u (uIdx u) (le 1 1))).finishWhere (fun o => o.wait == .unit (uKey u) && o.op == 0x0E00 && o.started) (fun _ => Rsp.plain .served)
        else (((if isGroupUnit u then s.abortRuns u else s).abortHeld (heldFor u)).quiet u t).settleGroups)

/-! ## Group commands -/

/-- GROUP_CREATE (R51). -/
def cmdGroupCreate : Cmd :=
  { opcode := 0x0100, forms := .setOnly, secure := false, always := false, form := fun _ _ p => pkLen p 0, qform := bufForm, unitOk := fun _ _ p => isMadeGroup (uCls (pkUnit p)) && unitInRange (pkUnit p),
    may := fun _ w _ => !w.secure, active := fun s p => s.isActive (pkUnit p),
    check := fun s _ p =>
      if Tbl.has s.core.groups (uKey (pkUnit p)) then some (Rsp.code .refusedShare 0x01)
      else if 16384 ≤ s.core.groups.length + s.frd.glayers.length then some (Rsp.code .refusedShare 0x02) else none,
    run := fun s w p => .done (s.mapCore (fun c => { c with groups := Tbl.put c.groups (uKey (pkUnit p)) { owner := w.inst, members := [] } })) (Rsp.plain .served), ask := noAsk }

/-- GROUP_CREATE. -/
def execGroupCreate (port : Port) (s : State) : Host.Outcome State Fault Refusal := s.ends (cmdGroupCreate.exec port s)

/-- The group a packet names exists. -/
def atGroup (s : State) (_ : Who) (p : Packet) : Bool := isMadeGroup (uCls (pkUnit p)) && unitInRange (pkUnit p) && Tbl.has s.core.groups (uKey (pkUnit p))

/-- The owner of the group, or the PF (Table 1.12). -/
def groupMay (s : State) (w : Who) (p : Packet) : Bool := !w.secure && (w.inst == 0 || (Tbl.find s.core.groups (uKey (pkUnit p))).elim false (fun g => g.owner == w.inst))

/-- The live region that a group is bound to as its tag group (R319). -/
def State.tagGroupOf (s : State) (u : Nat) : Option Nat := (s.led.regions.find? (fun e => uKey (e.2.slots.headD 0) == uKey u && e.2.slots.headD 0 != 0)).map Prod.fst

/-- A class that a member of a group may have (R52); a bound tag group takes live tags only. -/
def State.memberClass (s : State) (g m : Nat) : Bool :=
  unitInRange m && (match uCls g with
    | 0xF1 => uCls m == 0x22 || uCls m == 0xF1
    | 0xF3 => uCls m == 0x60 || uCls m == 0xF3
    | _ => uCls m != 0x00 && ((s.tagGroupOf g).isNone || uCls m == 0x50))

/-- The owner of a unit that an instance may hold; none where no instance owns it. -/
def State.unitOwner (s : State) (u : Nat) : Option Nat :=
  match uCls u with
  | 0x01 => some (uIdx u)
  | 0x02 => some (uIdx u)
  | 0x11 => (Tbl.find s.srf.surfs (uNum u)).map Surf.owner
  | 0x21 => (s.layer u).map Layer.owner
  | 0x23 => (Tbl.find s.frd.layers (subKey u)).map Layer.owner
  | 0x41 => (s.recv (uIdx u)).bind Recv.owner
  | 0x50 => (Tbl.find s.led.tags (uNum u)).map Tag.owner
  | 0x51 => (Tbl.find s.led.regions (uNum u)).bind (fun r => if r.secure then none else some r.inst)
  | 0x52 => (s.sreg u).bind (fun r => if r.secure then none else some r.inst)
  | 0x61 => some (s.chan (uIdx u)).owner
  | 0x62 => (Tbl.find s.hap.slots (uIdx u)).map HSlot.owner
  | 0x70 => (s.srcInfo (uIdx u)).map SrcInfo.owner
  | 0x71 => (s.asink (uIdx u)).owner
  | 0x72 => (s.abus (uIdx u)).owner
  | 0x73 => some s.aud.hsOwner
  | 0xF2 => (s.glayer u).map GLayer.owner
  | _ => (Tbl.find s.core.groups (uKey u)).map Group.owner

/-- True where an issuer may command a unit (R52): the PF any, an instance the units it owns and those whose commands any instance may send (DESIGN CHOICE, log entry 71). -/
def State.mayCommand (s : State) (w : Who) (u : Nat) : Bool :=
  w.inst == 0 || (if s.foreign u then uCls u == 0x50 else s.unitOwner u == some w.inst || [0x20, 0x30, 0x53, 0x60].contains (uCls u))

/-- True where a unit is reached from a list of units through groups (R37). -/
def Core.reaches (c : Core) (target : Nat) : Nat → List Nat → Bool
  | _, [] => false
  | 0, _ => false
  | f + 1, u :: us => uKey u == target || Core.reaches c target f (((Tbl.find c.groups (uKey u)).elim [] Group.members) ++ us)

/-- GROUP_MEMBER (R52). -/
def cmdGroupMember : Cmd :=
  { opcode := 0x0101, forms := .both, secure := false, always := false, form := fun s _ p => pkLen p 1 && fld (pkW p 0) 63 33 == 0 && s.memberClass (pkUnit p) (pkF p 0 31 0), qform := bufForm, unitOk := atGroup,
    may := fun s w p => groupMay s w p && (pkQuery p || s.mayCommand w (pkF p 0 31 0)), active := ownActive,
    check := fun s _ p =>
      let m := pkF p 0 31 0
      let g := (Tbl.find s.core.groups (uKey (pkUnit p))).elim [] Group.members
      if bitOf (pkW p 0) 32 || g.contains m then none
      else if !s.foreign m && s.core.reaches (uKey (pkUnit p)) (s.core.leafFuel + 1) [m] then some (Rsp.plain .rejectedCycle)
      else if 1024 ≤ g.length then some (Rsp.code .refusedShare 0x03) else none,
    run := fun s _ p =>
      let m := pkF p 0 31 0
      let u := uKey (pkUnit p)
      match Tbl.find s.core.groups u with
      | none => .done s (Rsp.plain .rejectedUnit)
      | some g =>
        if bitOf (pkW p 0) 32 != g.members.contains m then .done s (Rsp.ok 0 1 0)
        else .done (s.mapCore (fun c => ({ c with groups := Tbl.put c.groups u { g with members := if bitOf (pkW p 0) 32 then g.members.filter (· != m) else g.members ++ [m] } }).bump u)) (Rsp.plain .served),
    ask := fun s w p =>
      let ms := (Tbl.find s.core.groups (uKey (pkUnit p))).elim [] Group.members
      let n := min ms.length (pkW p 1 / 4)
      s.answer w (pkW p 0) ((ms.take n).flatMap (le 4)) (Rsp.ok n ms.length 0) }

/-- GROUP_MEMBER. -/
def execGroupMember (port : Port) (s : State) : Host.Outcome State Fault Refusal := s.ends (cmdGroupMember.exec port s)

/-- Takes a group out of every group that holds it; each of those moves its generation on (R53). -/
def State.leaveGroups (s : State) (u : Nat) : State :=
  s.core.groups.foldl (fun t e =>
    if e.2.members.any (fun m => uKey m == uKey u) then t.mapCore (fun c => ({ c with groups := Tbl.put c.groups e.1 { e.2 with members := e.2.members.filter (fun m => uKey m != uKey u) } }).bump e.1) else t) s

/-- GROUP_DESTROY (R53): served at once where no command to the group is at work, else when the group is QUIET. -/
def cmdGroupDestroy : Cmd :=
  { opcode := 0x0102, forms := .setOnly, secure := false, always := false, form := fun _ _ p => pkLen p 0, qform := bufForm, unitOk := atGroup, may := groupMay, active := ownActive,
    check := fun s _ p => (s.tagGroupOf (pkUnit p)).map (fun n => Rsp.code .refusedLocked (s.core.here (uidN 0x51 n))),
    run := fun s _ p =>
      let s1 := (s.leaveGroups (pkUnit p)).startTr (pkUnit p) .powerDown
      match s1.trOf (pkUnit p) with
      | some t => if s1.groupBusy (pkUnit p) then .silent s1 (.unit (uKey (pkUnit p))) else .done (s1.quiet (pkUnit p) t) (Rsp.plain .served)
      | none => .done s1 (Rsp.plain .served),
    ask := noAsk }

/-- GROUP_DESTROY. -/
def execGroupDestroy (port : Port) (s : State) : Host.Outcome State Fault Refusal := s.ends (cmdGroupDestroy.exec port s)

/-! ## UNIT_RESET -/

/-- A unit that a reset can start on, join or queue at: ACTIVE, or in a transition of its own (R44). -/
def State.takesReset (s : State) (u : Nat) : Bool := s.isActive u || (s.trOf u).elim false (fun t => t.phase == .draining)

/-- The units a reset reaches that Table 1.13 lists: the unit, or a group's members. -/
def State.resetUnits (s : State) (u : Nat) : List Nat := if isGroupUnit u then (s.ownLeaves u).filter resettable else [u]

/-- UNIT_RESET (R46, R54). Members of a group on other devices of the wall are forwarded (R563). -/
def cmdUnitReset : Cmd :=
  { opcode := 0x0103, forms := .setOnly, secure := false, always := false, form := fun _ _ p => pkLen p 0, qform := bufForm,
    unitOk := fun s w p => atGroup s w p || (resettable (pkUnit p) && unitInRange (pkUnit p)),
    may := fun s w p =>
      let own (u : Nat) : Bool := (uCls u == 0x41 || (decide (0x70 ≤ uCls u) && decide (uCls u ≤ 0x74))) && s.unitOwner u == some w.inst
      !w.secure && (w.inst == 0 || (if isGroupUnit (pkUnit p) then groupMay s w p && (s.resetUnits (pkUnit p)).all own else own (pkUnit p))),
    active := fun s p => s.takesReset (pkUnit p) && (s.resetUnits (pkUnit p)).all s.takesReset, check := noCheck,
    run := fun s w p =>
      let u := pkUnit p
      let s1 := (s.resetUnits u).foldl (fun t v => t.startTr v .reset) s
      if isGroupUnit u then
        let far := (s.core.leaves s.core.leafFuel [uKey u]).filter (fun v => s.foreign v && resettable v && s.canForward v)
        let (s2, n) := s1.newWork
        .silent (far.foldl (fun t v => t.forward w (withUnit p v) (some n)) (s2.startTr u .reset)) (.unit (uKey u))
      else .silent s1 (.unit (uKey u)),
    ask := noAsk }

/-- UNIT_RESET. -/
def execUnitReset (port : Port) (s : State) : Host.Outcome State Fault Refusal := s.ends (cmdUnitReset.exec port s)

end Sys2Proof.Machine
end

