-- ==== Sys2Proof/Machine/Link.lean ====
section
/-! DEFINITION. Chapter 1: the Lichen link, output-stage heartbeats, lanes, pace and overload (R19 to R33). -/

namespace Sys2Proof.Machine

/-- One direction of the Lichen link. -/
def Lnk.dir (l : Lnk) (toWarden : Bool) : LinkDir := if toWarden then l.toWarden else l.toCanvas

/-- Changes one direction of the Lichen link. -/
def State.updDir (s : State) (toWarden : Bool) (f : LinkDir → LinkDir) : State :=
  { s with lnk := if toWarden then { s.lnk with toWarden := f s.lnk.toWarden } else { s.lnk with toCanvas := f s.lnk.toCanvas } }

/-- The 32 bytes of a flit (Table 1.2). -/
def lichenFlit (cls kind seq : Nat) (payload : List Byte) : List Byte :=
  let body := le 2 (cls * 2 ^ 14 + kind * 2 ^ 12 + seq % 4096) ++ fit 28 payload
  body ++ le 2 (crc16 body)

/-- A flit whose CRC holds (R22). -/
def lichenOk (flit : List Byte) : Bool := flit.length == 32 && ofLe (flit.drop 30) == crc16 (flit.take 30)

/-- The initialisation vector of a secure message: the direction's message counter, then 32 bits that encode the direction, 0 to the Canvas and 1 to the Warden (R25; DESIGN CHOICE, log entry 72). -/
def secureIv (count : Nat) (toWarden : Bool) : BitVec 96 := BitVec.ofNat 96 (count % 2 ^ 64 + b2n toWarden * 2 ^ 64)

/-- A data flit is sent: numbered and kept for replay (R23). -/
def LinkDir.send (d : LinkDir) (cls kind : Nat) (payload : List Byte) : LinkDir :=
  { d with sendSeq := (d.sendSeq + 1) % 4096, replay := d.replay ++ [lichenFlit cls kind d.sendSeq payload] }

/-- The replay buffer's room for n more flits (R23). -/
def LinkDir.room (d : LinkDir) (n : Nat) : Bool := decide (d.replay.length + n ≤ 1024)

/-- The far end has everything before a sequence: the sender lets those flits go. -/
def LinkDir.free (d : LinkDir) (seq : Nat) : LinkDir :=
  let n := (seq + 4096 - d.acked) % 4096
  if d.replay.length < n then d else { d with acked := seq % 4096, replay := d.replay.drop n }

/-- A secure message of one flit: 12 bytes of content, then its tag (R25). The content is free: no rule gives its layout (log entry 5). -/
def State.secureFlit (s : State) (toWarden : Bool) : State :=
  let d := s.lnk.dir toWarden
  let body := s.core.freeBytes 12
  let tag := Config.gmac s.lnk.sessionKey (secureIv d.msgCount toWarden) body
  (s.mapCore (fun c => c.useFree 12)).updDir toWarden (fun x => ({ x with msgCount := x.msgCount + 1 } : LinkDir).send 1 1 (body ++ le 16 tag.toNat))

/-! ## Heartbeats -/

/-- OSU_HEARTBEAT_SEND (R20, R26): every 250 µs one secure message to each of the nine fronds, while the link is up, the Warden has not stopped them and the replay buffer has room. A frond that had lost them has its output-stage configuration loaded again, and its cause ends. -/
def execOsuHeartbeatSend (s : State) : Host.Outcome State Fault Refusal :=
  s.ends (
    let due := (List.range 9).all (fun f => (Tbl.find s.lnk.lastBeat f).elim true (fun t => decide (t + 250000 ≤ s.core.now)))
    if !s.lnk.up ∨ s.lnk.heartbeatsStopped ∨ s.sec.run = .gaveUp ∨ !due ∨ !s.lnk.toCanvas.room 9 then s
    else (List.range 9).foldl (fun t f =>
      let t1 := t.secureFlit false
      let t2 : State := { t1 with lnk := { t1.lnk with lastBeat := Tbl.put t1.lnk.lastBeat f t1.core.now, osuFault := Tbl.put t1.lnk.osuFault f false } }
      if Tbl.at t.lnk.osuFault false f then t2.causeOnFrond .heartbeat false f else t2) s)

/-- HEARTBEAT_LOSS (R20): 2 ms without a valid heartbeat. -/
def execHeartbeatLoss (frond : Nat) (s : State) : Host.Outcome State Fault Refusal :=
  s.ends (
    if 9 ≤ frond ∨ s.core.now < Tbl.at s.lnk.lastBeat 0 frond + 2000000 ∨ Tbl.at s.lnk.osuFault false frond then s
    else ({ s with lnk := { s.lnk with osuFault := Tbl.put s.lnk.osuFault frond true } } : State).causeOnFrond .heartbeat true frond)

/-! ## Flits -/

/-- A secure message fails its tag (R26): counted, the SEC interrupted; the fourth within 1 s is journaled and stops the heartbeats. -/
def State.authFail (s : State) : State :=
  let times := (s.lnk.authTimes ++ [s.core.now]).filter (fun t => decide (s.core.now ≤ t + 10 ^ 9))
  let s1 : State := { s with lnk := { s.lnk with authFail := satInc s.lnk.authFail, authTimes := times } }
  let s2 := s1.mapCore (fun c => c.irq .secLinkAuth)
  if 4 ≤ times.length then ({ s2 with lnk := { s2.lnk with authTimes := [], heartbeatsStopped := true } } : State).mapCore (fun c => c.event 0xFE05 0 0 times.length [])
  else s2

/-- The end of a secure message: its tag is checked over the bytes before it (R25). -/
def State.secureEnd (s : State) (toWarden : Bool) : State :=
  let d := s.lnk.dir toWarden
  let body := d.partMsg.take (d.partMsg.length - 16)
  let tag := Config.gmac s.lnk.sessionKey (secureIv d.msgCount toWarden) body
  let s1 := s.updDir toWarden (fun x => { x with partMsg := [], msgCount := x.msgCount + 1 })
  if le 16 tag.toNat = d.partMsg.drop (d.partMsg.length - 16) then s1 else s1.authFail

/-- What a message carries of a unit's is taken only at its issuer's current generation; else it is counted for the receiving unit (R41). -/
def State.takeItem (s : State) (item : BitVec 32 × Gen × BitVec 32) : State :=
  let u := item.1.toNat
  if s.foreign u ∨ item.2.1 = s.core.genOf u then s
  else (s.mapCore (fun c => c.countOldGen item.2.2.toNat)).mapCore (fun c => { c with trans := Tbl.upd c.trans (uKey u) (fun t => { t with discarded := t.discarded + 1 }) })

/-- LICHEN_FLIT_RECEIVE (R22, R23, R25, R41): a flit that fails its CRC, or a data flit out of sequence, is answered with a NAK, and data flits are dropped until the missing one arrives; link control frees the other direction's replay buffer. item is what the message that the flit ends carries: issuer, its generation, receiver. -/
def execLichenFlitReceive (toWarden : Bool) (flit : List Byte) (item : Option (BitVec 32 × Gen × BitVec 32)) (s : State) : Host.Outcome State Fault Refusal :=
  s.ends (
    let d := s.lnk.dir toWarden
    let h := ofLe (flit.take 2)
    if !s.lnk.up then s
    else if !lichenOk flit then
      ({ s with lnk := { s.lnk with crcErr := satInc s.lnk.crcErr } } : State).updDir toWarden (fun x => { x with dropping := true })
    else if fld h 13 12 = 2 then s.updDir (!toWarden) (fun x => x.free (fld h 11 0))
    else if fld h 13 12 = 3 then s
    else if fld h 11 0 ≠ d.expect then s.updDir toWarden (fun x => { x with dropping := true })
    else
      let s1 := s.updDir toWarden (fun x => { x with expect := (x.expect + 1) % 4096, dropping := false, sinceAck := x.sinceAck + 1, partMsg := if fld h 15 14 = 1 then x.partMsg ++ (flit.drop 2).take 28 else x.partMsg })
      let s2 := if 64 ≤ (s1.lnk.dir toWarden).sinceAck then s1.updDir toWarden (fun x => { x.free x.expect with sinceAck := 0 }) else s1
      if fld h 13 12 = 0 then s2
      else
        let s3 := if fld h 15 14 = 1 then s2.secureEnd toWarden else s2
        item.elim s3 s3.takeItem)

/-- LICHEN_ACK (R23): the receiver of a direction acknowledges what it has in order. -/
def execLichenAck (toWarden : Bool) (s : State) : Host.Outcome State Fault Refusal :=
  s.ends (if s.lnk.up ∧ (s.lnk.dir toWarden).sinceAck ≠ 0 then s.updDir toWarden (fun x => { x.free x.expect with sinceAck := 0 }) else s)

/-- Counts replayed flits. -/
def State.countReplay (s : State) (n : Nat) : State := { s with lnk := { s.lnk with replayCount := satAdd s.lnk.replayCount n } }

/-- LICHEN_NAK_RECEIVE (R23): the sender of a direction resends from the named sequence; what lies before it is acknowledged. -/
def execLichenNakReceive (toWarden : Bool) (seq : Nat) (s : State) : Host.Outcome State Fault Refusal :=
  s.ends (
    let d := s.lnk.dir toWarden
    if !s.lnk.up ∨ d.replay.length < (seq + 4096 - d.acked) % 4096 then s
    else (s.updDir toWarden (fun x => x.free seq)).countReplay (d.free seq).replay.length)

/-- LANE_FAIL (R28, R29): the first failed active lane's stripe moves to lane 4 and both directions replay; a lane failing with no spare left leaves the link in 2-lane operation. -/
def execLaneFail (lane : Nat) (s : State) : Host.Outcome State Fault Refusal :=
  s.ends (
    if 5 ≤ lane ∨ !s.lnk.up ∨ bitOf s.lnk.laneFail lane then s
    else
      let s1 : State := { s with lnk := { s.lnk with laneFail := s.lnk.laneFail + 2 ^ lane } }
      if lane = 4 ∧ !s.lnk.spareUsed then s1
      else
        let s2 := s1.countReplay (s.lnk.toWarden.replay.length + s.lnk.toCanvas.replay.length)
        if !s.lnk.spareUsed ∧ !bitOf s.lnk.laneFail 4 then { s2 with lnk := { s2.lnk with spareUsed := true, replacedLane := lane } }
        else ({ s2 with lnk := { s2.lnk with degraded := true } } : State).mapCore (fun c => c.irq .mgmtLinkDegraded))

/-- LNK_STATUS (Table 1.5). -/
def Lnk.status (l : Lnk) : Nat :=
  l.verMajor * 2 ^ 28 + l.verMinor * 2 ^ 24 + b2n l.up * 2 ^ 23 + b2n l.degraded * 2 ^ 22 + b2n l.spareUsed * 2 ^ 21 + l.replacedLane * 2 ^ 18 + l.laneFail * 2 ^ 13

/-! ## Pace -/

/-- The average device pace over the last 100 µs, in ps; known once 100 samples are there. -/
def Lnk.average (l : Lnk) : Option Nat := if l.window.length < 100 then none else some (l.window.foldl (· + ·) 0 / 100)

/-- Overload begins or ends (R32). -/
def State.setOverload (s : State) (on : Bool) : State :=
  ({ s with lnk := { s.lnk with overload := on, floorMiss := true, calmUs := 0 } } : State).mapCore (fun c => ((c.irq .mgmtPace).irq .managerPace).notify 0x0010 0 0 (le 1 (b2n on)))

/-- The average is above a number of ps: compared without rounding (R32). -/
def Lnk.above (l : Lnk) (ps : Nat) : Bool := decide (100 ≤ l.window.length) && decide (ps * 100 < l.window.foldl (· + ·) 0)

/-- PACE_SAMPLE (R30 to R32): the 48 Canvas and 8 Warden readings of one µs, in ps. -/
def execPaceSample (canvas warden : List Nat) (s : State) : Host.Outcome State Fault Refusal :=
  s.ends (
    let c := canvas.take 48
    let top := c.foldl max 0
    let win := (s.lnk.window ++ [top]).drop (s.lnk.window.length + 1 - 100)
    let l : Lnk := { s.lnk with canvasPace := c, wardenPace := warden.take 8, pacePs := min top 65535, slowest := c.findIdx (· == top), window := win }
    let l1 : Lnk := { l with calmUs := if decide (100 ≤ win.length) && !l.above 1350 then l.calmUs + 1 else 0 }
    let s1 : State := { s with lnk := l1 }
    if c.isEmpty then s else if !l1.overload && l1.above 1400 then s1.setOverload true else s1)

/-- OVERLOAD_EXIT (R32): the average has stayed at 1.35 ns or less for 1 ms. -/
def execOverloadExit (s : State) : Host.Outcome State Fault Refusal :=
  s.ends (if s.lnk.overload ∧ 1000 ≤ s.lnk.calmUs then s.setOverload false else s)

/-- PWR_PACE_STATUS (Table 1.7). -/
def Lnk.paceStatus (l : Lnk) : Nat := b2n l.overload * 2 ^ 31 + b2n l.floorMiss * 2 ^ 30 + l.slowest * 2 ^ 24 + l.pacePs

end Sys2Proof.Machine
end

