-- ==== Sys2Proof/Machine/Peat.lean ====
section
/-! DEFINITION. Chapter 16: the peat store's partitions, captures, firmware images, the power-fail flush and the flash translation layer (R527 to R551). -/

namespace Sys2Proof.Machine

/-! ## Partitions -/

/-- The minimum sizes of the partitions in MiB (Table 16.2). -/
def partMin : List Nat := [4, 4, 64, 64, 1024, 4096, 64, 512, 64]

/-- Usable bytes of the NAND: its blocks less the spares of R530. -/
def NandChip.usable (n : NandChip) : Nat := n.luns * (n.blocks * 98 / 100) * n.blockBytes

/-- True where the NAND holds a partition: BOOT_A and BOOT_B only with BOOT_SRC NAND (R527). -/
def Fixed.onNand (x : Fixed) (part : Nat) : Bool := x.bootNand || decide (2 ≤ part)

/-- Sizes that R533 takes: none below its minimum, the total within the usable capacity. -/
def sizesOk (x : Fixed) (sizes : List Nat) : Bool :=
  (List.range 9).all (fun i => decide (partMin.getD i 0 ≤ sizes.getD i 0)) &&
    decide (((List.range 9).map (fun i => if x.onNand i then sizes.getD i 0 * 2 ^ 20 else 0)).sum ≤ x.nand.usable)

/-- The key of an image: partition times 16 plus component (R546). -/
def imgKey (part component : Nat) : Nat := part * 16 + component

/-- Bytes the JOURNAL partition keeps for records: its size less the two reserve areas of 4 blocks (R536). -/
def journalCapacity (x : Fixed) (sizes : List Nat) : Nat := sizes.getD 4 0 * 2 ^ 20 - 8 * x.nand.blockBytes

/-- The journal after a format (R82, R88, R101, R533): empty, sequences and export IDs from 1, H[0] with the new count. What was not durable is made durable first and erased with the rest. -/
def Jrn.formatted (j : Jrn) (x : Fixed) (capacity : Nat) : Jrn :=
  { j with part := [], buffer := [], flushing := [], nextJseq := 1, chain := chainStart x.serial (j.formats + 1), formats := j.formats + 1, durable := 0, sealed := 0, sinceSeal := 0,
           exported := 0, exports := 0, openExport := none, capacity := capacity, blockBytes := x.nand.blockBytes, reserves := [true, true] }

/-- The peat store after a format (R533). -/
def Peat.format (q : Peat) (sizes : List Nat) (keepBoot : Bool) : Peat :=
  { q with formatted := true, sizes := sizes, reserve := [], nextCapture := 1, stored := [], slots := [], dumps := [], nextDump := 1, log := [], baselines := [],
           images := (if keepBoot then q.images else []), committed := (if keepBoot then q.committed else []),
           blocks := Tbl.mapVals q.blocks (fun _ b => { b with erases := b.erases + 1, reads := 0, part := none }) }

/-- Completions of records that a flush made durable, all of what was not (R93). -/
def State.allDurable (s : State) : State :=
  programmed (s.mapCore (fun c => { c with jrn := { c.jrn with flushing := c.jrn.flushing ++ c.jrn.buffer, buffer := [] } }))

/-- PEAT_FORMAT (R533). -/
def cmdPeatFormat : Cmd :=
  { opcode := 0x0C00, forms := .setOnly, secure := false, always := false, form := fun s _ p => pkLen p 10 && fld (pkW p 9) 63 1 == 0 && sizesOk s.fix ((List.range 9).map (pkW p)), qform := bufForm,
    unitOk := atDevice, may := pfOnly, active := ownActive, check := fun s _ _ => if s.regulated then some (Rsp.plain .refusedLocked) else none,
    run := fun s _ p =>
      let sizes := (List.range 9).map (pkW p)
      let s1 := s.allDurable
      let s2 : State := { s1 with peat := s1.peat.format sizes (bitOf (pkW p 9) 0) }
      .done (s2.mapCore (fun c => Core.journalState { c with jrn := c.jrn.formatted s.fix (journalCapacity s.fix sizes) } true)) (Rsp.plain .served),
    ask := noAsk }

/-- PEAT_FORMAT. -/
def execPeatFormat (port : Port) (s : State) : Host.Outcome State Fault Refusal := s.ends (cmdPeatFormat.exec port s)

/-! ## Status -/

/-- The hold-up of R537 in µs, rounded up. -/
def NandChip.holdup (n : NandChip) : Nat := 5 + n.tRst + 2 * (n.tProg + n.tR + 10) + ceilDiv (16 * 18304) (n.channels * n.rate)

/-- PEAT_STATUS (Table 16.9). -/
def State.peatStatus (s : State) : Nat :=
  b2n s.peat.flushing * 2 ^ 31 + b2n (s.core.jrn.reserves.getD 1 false) * 2 ^ 30 + b2n (s.core.jrn.reserves.getD 0 false) * 2 ^ 29 + b2n s.peat.sparesLow * 2 ^ 28 + b2n s.peat.formatted * 2 ^ 27 + s.peat.holdup % 2 ^ 14 * 2 ^ 13

/-- A query of the peat store. -/
def peatQuery (opcode : Nat) (form : State → Who → Packet → Bool) (may : State → Who → Packet → Bool) (ask : State → Who → Packet → State × Rsp) : Cmd :=
  { opcode := opcode, forms := .queryOnly, secure := false, always := false, form := form, qform := form, unitOk := atDevice, may := may, active := ownActive, check := noCheck, run := noRun, ask := ask }

/-- PEAT_STATUS: the oldest and newest capture held. -/
def cmdPeatStatus : Cmd :=
  peatQuery 0x0C01 (fun _ _ p => pkLen p 0) pfOrSec (fun s _ _ =>
    (s, Rsp.ok s.peatStatus ((s.peat.stored.head?.map (fun c => c.req.id)).getD 0) ((s.peat.stored.getLast?.map (fun c => c.req.id)).getD 0)))

/-- PEAT_STATUS. -/
def execPeatStatus (port : Port) (s : State) : Host.Outcome State Fault Refusal := s.ends (cmdPeatStatus.exec port s)

/-! ## Captures -/

/-- The place, creator and band A of a live or signed region. -/
def State.captureRegion (s : State) (u : Nat) : Option (Nat × Nat × Bool) :=
  if uCls u = 0x51 then (Tbl.find s.led.regions (uNum u)).map (fun r => (s.frondOfPlace r.place, r.inst, s.isBandA r))
  else if uCls u = 0x52 then (s.sreg u).map (fun r => (uIdx u, r.inst, true))
  else none

/-- PEAT_CAPTURE (R541). -/
def cmdPeatCapture : Cmd :=
  { opcode := 0x0C02, forms := .setOnly, secure := false, always := false,
    form := fun s _ p => pkLen p 3 && fld (pkW p 0) 63 32 == 0 && uKey (pkW p 0) == uKey (pkUnit p) && (s.captureRegion (pkUnit p)).elim true (fun r => r.2.2), qform := bufForm,
    unitOk := fun s _ p => (s.captureRegion (pkUnit p)).isSome, may := fun s w p => !w.secure && (s.captureRegion (pkUnit p)).elim false (fun r => r.2.1 == w.inst) && s.authed w, active := ownActive,
    check := fun s _ p =>
      let next := (s.captureRegion (pkUnit p)).elim 0 (fun r => s.nextLatch r.1)
      if pkW p 1 != 0 && (decide (pkW p 1 < next) || decide (next - 1 + 255 < pkW p 1)) then some (Rsp.code .refusedShare 0x91) else none,
    run := fun s _ p =>
      match s.captureRegion (pkUnit p) with
      | none => .done s (Rsp.plain .rejectedUnit)
      | some r =>
        let n := s.newWork
        .silent (n.1.requestCapture 1 (pkUnit p) r.1 (if pkW p 1 = 0 then s.nextLatch r.1 else pkW p 1) (pkW p 2) r.2.1 n.2) (.work n.2),
    ask := noAsk }

/-- PEAT_CAPTURE. -/
def execPeatCapture (port : Port) (s : State) : Host.Outcome State Fault Refusal := s.ends (cmdPeatCapture.exec port s)

/-- The block rectangle of a region as drawn: first column and row, columns and rows (R542). -/
def blockRect (r : Option (Int × Int × Int × Int)) : Nat × Nat × Nat × Nat :=
  match r with
  | none => (0, 0, 0, 0)
  | some (x0, y0, x1, y1) =>
    if x1 ≤ x0 ∨ y1 ≤ y0 ∨ x1 ≤ 0 ∨ y1 ≤ 0 then (0, 0, 0, 0)
    else
      let a := x0.toNat / 8
      let b := y0.toNat / 8
      (a, b, ceilDiv x1.toNat 8 - a, ceilDiv y1.toNat 8 - b)

/-- Four 16-bit fields as a word. -/
def pack16 (a b c d : Nat) : Nat := a % 2 ^ 16 + b % 2 ^ 16 * 2 ^ 16 + c % 2 ^ 16 * 2 ^ 32 + d % 2 ^ 16 * 2 ^ 48

/-- The TBC headers and payloads of a rectangle of blocks of a surface, as stored (Table 16.6). -/
def State.blockBytes (s : State) (sf : Surf) (r : Nat × Nat × Nat × Nat) : List Byte :=
  let sh := sf.shape
  let ks := (List.range r.2.2.2).flatMap (fun j => (List.range r.2.2.1).map (fun i => sh.blockOf 0 ((r.1 + i) * 8) ((r.2.1 + j) * 8)))
  let hdr (k : Nat) : List Byte := s.surfRead sf (headerAt k) 4
  ks.flatMap hdr ++ ks.flatMap (fun k => s.surfRead sf (sh.payloadAt 0 k) (16 * fld (ofLe (hdr k)) 29 24))

/-- The capture of a request from the frame part that is held for it. -/
def State.makeCapture (s : State) (q : CapReq) (h : CapHeld) (sf : Surf) : Capture :=
  let b := blockRect h.rect
  let d := h.rect.getD (0, 0, 0, 0)
  { req := { q with late := decide (q.frame < h.frame), frame := h.frame }, dt := h.dt, veiled := h.veiled, badge := h.badge, flags := h.flags, alive := h.alive,
    rect := pack16 (enc 16 d.1) (enc 16 d.2.1) (enc 16 (d.2.2.1 - d.1)) (enc 16 (d.2.2.2 - d.2.1)), blocks := pack16 b.1 b.2.1 b.2.2.1 b.2.2.2, crc := h.crc, expected := h.expected, data := s.blockBytes sf b }

/-- The bytes of a capture record (Table 16.6). -/
def Capture.bytes (c : Capture) : List Byte :=
  ascii "TAOTHCAP" ++ le 4 c.req.id ++ le 1 c.req.cause ++ le 1 (b2n c.veiled + c.badge % 8 * 2 + b2n c.req.late * 16) ++ le 1 c.flags ++ le 1 c.alive ++ le 8 c.req.frame ++ le 8 c.dt ++ le 8 c.req.jseq ++ le 4 c.req.region ++
    le 8 c.rect ++ le 8 c.blocks ++ le 4 c.crc ++ le 4 c.expected ++ le 8 c.req.outcome ++ List.replicate 52 0 ++ c.data

/-- The record with its trailing digest bytes 16 to 47 (R543). -/
def Capture.stored (c : Capture) : List Byte := c.bytes ++ (sha384 c.bytes).drop 16

/-- A request that is not taken (R542): CAPTURE_LOST with its cause, and a waiting PEAT_CAPTURE fails. -/
def State.captureLost (s : State) (q : CapReq) (cause : Nat) : State :=
  let s1 : State := { s with peat := { s.peat with requests := s.peat.requests.filter (fun r => r.id != q.id) } }
  (s1.mapCore (fun c => c.event 0xFEA3 0 0 q.id (le 1 cause))).finishWhere (fun o => o.op == 0x0C02 && o.wait == .work q.work) (fun _ => Rsp.plain .failed)

/-- True where a frond has no frame part: full-mirror mode without FULL_EN (R289, R542). -/
def State.noFramePart (s : State) (f : Nat) : Bool := (s.frond f).elim true (fun fr => fr.fullMirror && !bitOf ((Tbl.find fr.wb 1).elim 0 WbSlot.w0) 10)

/-- The result of a signed region for a frame is still to come: a record carries it (Table 16.6). -/
def State.resultDue (s : State) (u frame : Nat) : Bool := (s.sreg u).elim false (fun r => r.waiting && r.crcFrame == frame)

/-- Stages the request with this ID once a frame part is held for it (R542). A frame whose part was abandoned gives way to the next complete one, LATE; so does one whose surface is gone. -/
def State.stage (s : State) (id : Nat) : State :=
  match s.peat.requests.find? (fun r => r.id == id) with
  | none => s
  | some q =>
    match q.held with
    | none => if s.noFramePart q.frond then s.captureLost q 2 else s
    | some h =>
      match s.surf h.surf with
      | none => { s with peat := { s.peat with requests := s.peat.requests.map (fun r => if r.id = id then { r with held := none } else r) } }
      | some sf =>
        let c := s.makeCapture q h sf
        if s.resultDue (uKey q.region) h.frame then s
        else if s.peat.stageMib * 2 ^ 20 < ((s.peat.staged ++ [c]).map (fun x => x.bytes.length)).sum then s.captureLost q 1
        else
          let s1 : State := { s with peat := { s.peat with requests := s.peat.requests.filter (fun r => r.id != id), staged := s.peat.staged ++ [c] } }
          s1.finishWhere (fun o => o.op == 0x0C02 && o.wait == .work q.work) (fun _ => Rsp.ok id 0 0)

/-- CAPTURE_STAGED. -/
def execCaptureStaged (id : Nat) (s : State) : Host.Outcome State Fault Refusal := s.ends (s.stage id)

/-- Frees the oldest captures while more than a minimum remain, until a number of bytes fits, at most f of them (R544). -/
def makeRoom (minimum capacity need : Nat) : Nat → List Capture → List Capture
  | 0, l => l
  | f + 1, l =>
    if (l.map (fun c => c.stored.length)).sum + need ≤ capacity ∨ l.length ≤ minimum then l else makeRoom minimum capacity need f (l.drop 1)

/-- Moves the staged capture with this ID to the PEAT partition and journals CAPTURE_STORED (R543, R544); without space it stays. -/
def State.storeCapture (s : State) (id : Nat) : State :=
  match s.peat.staged.find? (fun c => c.req.id == id) with
  | none => s
  | some c =>
    let cap := s.peat.sizes.getD 5 0 * 2 ^ 20
    let rest := makeRoom s.peat.retainMin cap c.stored.length (s.peat.stored.length + 1) s.peat.stored
    if s.pwr.mgmtRestarting || !s.peat.formatted || s.peat.flushing || decide (cap < (rest.map (fun x => x.stored.length)).sum + c.stored.length) then s
    else if !s.partPermits 5 3 true then s.partDenied
    else
      ({ s with peat := { s.peat with staged := s.peat.staged.filter (fun x => x.req.id != id), stored := rest ++ [c] } } : State).mapCore (fun k => k.event 0xFEA2 0 0 id ((sha384 c.bytes).take 16))

/-- CAPTURE_STORED. -/
def execCaptureStored (id : Nat) (s : State) : Host.Outcome State Fault Refusal := s.ends (s.storeCapture id)

/-- Copies a part of stored bytes to a buffer as PEAT_CAPTURE_READ does (R545): word 1 the offset, word 2 the IOVA, word 3 the length; RESULT1 is the record's length. -/
def State.readStored (s : State) (w : Who) (p : Packet) (part : Nat) (held : Option (List Byte × Nat)) : State × Rsp :=
  if !s.partPermits part 6 false then (s.partDenied, Rsp.ok 0 0 0)
  else
  match held with
  | none => (s, Rsp.code .failed 0x60)
  | some (bs, len) =>
    let part := (bs.drop (pkW p 1)).take (pkW p 3)
    s.answer w (pkW p 2) part (Rsp.ok part.length len 0)

/-- PEAT_CAPTURE_READ (R545). -/
def cmdPeatCaptureRead : Cmd :=
  peatQuery 0x0C03 (fun _ _ p => pkLen p 4) (fun s w p => w.secure || w.inst == 0 || (s.peat.stored.find? (fun c => c.req.id == pkW p 0)).elim true (fun c => c.req.creator == w.inst))
    (fun s w p => s.readStored w p 5 ((s.peat.stored.find? (fun c => c.req.id == pkW p 0)).map (fun c => (c.stored, c.bytes.length))))

/-- PEAT_CAPTURE_READ. -/
def execPeatCaptureRead (port : Port) (s : State) : Host.Outcome State Fault Refusal := s.ends (cmdPeatCaptureRead.exec port s)

/-- The largest capture that R544 counts: the largest active area of any output at raw TBC size plus 128 bytes. -/
def State.largestCapture (s : State) : Nat :=
  128 + (Tbl.vals s.frd.outs).foldl (fun m o => if o.mode.isEmpty then m else max m (260 * (ceilDiv (o.area.2.2.1).toNat 8 * ceilDiv (o.area.2.2.2).toNat 8))) 0

/-- PEAT_RETAIN_SET (R544): word 0 [19:0] is MIN. -/
def cmdPeatRetainSet : Cmd :=
  { opcode := 0x0C04, forms := .both, secure := false, always := false, form := fun _ _ p => pkLen p 1 && fld (pkW p 0) 63 20 == 0, qform := bufForm, unitOk := atDevice, may := secOnly, active := ownActive,
    check := fun s _ p => if s.peat.retainLock then some (Rsp.plain .refusedLocked) else if s.peat.sizes.getD 5 0 * 2 ^ 20 < pkW p 0 * s.largestCapture then some (Rsp.code .refusedShare 0x92) else none,
    run := fun s _ p => .done { s with peat := { s.peat with retainMin := pkW p 0 } } (Rsp.plain .served), ask := fun s w p => s.answerWords w p [BitVec.ofNat 64 s.peat.retainMin] }

/-- PEAT_RETAIN_SET. -/
def execPeatRetainSet (port : Port) (s : State) : Host.Outcome State Fault Refusal := s.ends (cmdPeatRetainSet.exec port s)

/-! ## Firmware images -/

/-- A component's slot record (R546); without one slot A is active. -/
def Peat.slot (q : Peat) (component : Nat) : FwSlot := Tbl.at q.slots { active := 0, trial := none, trialBoots := 0 } component

/-- The partition that holds a component's slot: BOOT_A or BOOT_B for the first stage, FW_A or FW_B for the others. -/
def slotPart (component slot : Nat) : Nat := if component = 1 then slot else 2 + slot

/-- A component's image in a slot. -/
def Peat.image (q : Peat) (component slot : Nat) : Memory := Tbl.at q.images [] (imgKey (slotPart component slot) component)

/-- The header bytes of an image (Table 16.7). -/
def imgHeader (m : Memory) : List Byte := Memory.rdN m 0 256

/-- A field of an image's header. -/
def imgField (m : Memory) (at' n : Nat) : Nat := ofLe (Memory.rdN m at' n)

/-- The digest of an image: SHA-384 over header bytes 0 to 159 (R546). -/
def imgDigest (m : Memory) : List Byte := sha384 (Memory.rdN m 0 160)

/-- The header's signature verifies with the firmware signing key (R546). -/
def imgSigned (x : Fixed) (m : Memory) : Bool := ecdsaVerify x.firmwareKey (imgDigest m) ((imgHeader m).drop 160)

/-- BODY_DIGEST is that of the body (R546). -/
def imgBody (m : Memory) : Bool := sha384 (Memory.rdN m 256 (imgField m 16 4)) == Memory.rdN m 24 48

/-- An image that can be read as one of a component: MAGIC, FORMAT, COMPONENT and a whole body. -/
def imgWhole (m : Memory) (component : Nat) : Bool := Memory.rdN m 0 8 == ascii "TAOTHIMG" && imgField m 8 2 == 1 && imgField m 10 1 == component && imgBody m

/-- The bytes of a component's slot: 16 MiB, or its partition (R546). -/
def Peat.slotBytes (q : Peat) (component part : Nat) : Nat := if component = 1 then q.sizes.getD part 4 * 2 ^ 20 else 2 ^ 24

/-- The slot that a partition is. -/
def partSlot (part : Nat) : Nat := part % 2

/-- UNIT is a partition that holds the component of word 0. -/
def atImagePart (_ : State) (_ : Who) (p : Packet) : Bool :=
  pkIs p 0x80 && (if pkW p 0 = 1 then decide (uIdx (pkUnit p) < 2) else uIdx (pkUnit p) == 2 || uIdx (pkUnit p) == 3)

/-- PEAT_UPDATE_WRITE (R547). -/
def cmdPeatUpdateWrite : Cmd :=
  { opcode := 0x0C05, forms := .setOnly, secure := false, always := false,
    form := fun s _ p => pkLen p 4 && decide (1 ≤ pkW p 0) && decide (pkW p 0 ≤ 4) && decide (pkW p 1 + pkW p 3 ≤ s.peat.slotBytes (pkW p 0) (uIdx (pkUnit p))), qform := bufForm,
    unitOk := atImagePart, may := pfOrSec, active := ownActive,
    check := fun s _ p => if partSlot (uIdx (pkUnit p)) = (s.peat.slot (pkW p 0)).active then some (Rsp.plain .refusedLocked) else none,
    run := fun s w p =>
      match s.hostRead w (pkW p 2) (pkW p 3) with
      | (s1, .error f) => let d := s1.dataFault w f false; .done d.1 d.2
      | (s1, .ok bs) =>
        let k := imgKey (uIdx (pkUnit p)) (pkW p 0)
        if !s1.partPermits (uIdx (pkUnit p)) 4 true then .done s1.partDenied (Rsp.plain .served)
        else .done { s1 with peat := { s1.peat with images := Tbl.put s1.peat.images k (Memory.wrN (Tbl.at s1.peat.images [] k) (pkW p 1) bs), committed := Tbl.del s1.peat.committed k } } (Rsp.plain .served),
    ask := noAsk }

/-- PEAT_UPDATE_WRITE. -/
def execPeatUpdateWrite (port : Port) (s : State) : Host.Outcome State Fault Refusal := s.ends (cmdPeatUpdateWrite.exec port s)

/-- PEAT_UPDATE_COMMIT (R547); for the first stage BOOT_A is rewritten from a verified BOOT_B. -/
def cmdPeatUpdateCommit : Cmd :=
  { opcode := 0x0C06, forms := .setOnly, secure := false, always := false, form := fun _ _ p => pkLen p 1 && decide (1 ≤ pkW p 0) && decide (pkW p 0 ≤ 4), qform := bufForm, unitOk := atImagePart, may := pfOrSec, active := ownActive,
    check := noCheck,
    run := fun s _ p =>
      let k := imgKey (uIdx (pkUnit p)) (pkW p 0)
      let m := Tbl.at s.peat.images [] k
      if !s.partPermits (uIdx (pkUnit p)) 4 false then .done s.partDenied (Rsp.code .failed 0x50)
      else if !imgSigned s.fix m then .done s (Rsp.code .failed 0x50)
      else if !imgBody m then .done s (Rsp.code .failed 0x51)
      else if imgField m 10 1 != pkW p 0 then .done s (Rsp.code .failed 0x52)
      else
        let images := if k = imgKey 1 1 then Tbl.put s.peat.images (imgKey 0 1) m else s.peat.images
        .done { s with peat := { s.peat with committed := Tbl.put s.peat.committed k (imgDigest m), images := images } } (Rsp.code .served (ofLe ((imgDigest m).take 4))),
    ask := noAsk }

/-- PEAT_UPDATE_COMMIT. -/
def execPeatUpdateCommit (port : Port) (s : State) : Host.Outcome State Fault Refusal := s.ends (cmdPeatUpdateCommit.exec port s)

/-- The committed image of a component in its inactive slot. -/
def Peat.candidate (q : Peat) (component : Nat) : Option (List Byte) := Tbl.find q.committed (imgKey (slotPart component (1 - (q.slot component).active)) component)

/-- CONFIRM of PEAT_ACTIVATE (R549). -/
def isConfirm (p : Packet) : Bool := bitOf (pkW p 1) 0

/-- The SEC_VERSION of the first stage in force. -/
def State.stageVersion (s : State) : Nat := imgField (s.peat.image 1 0) 11 1

/-- PEAT_ACTIVATE (R548, R549): schedules a committed component, confirms one on trial, or burns the rollback counter for a confirmed first stage. -/
def cmdPeatActivate : Cmd :=
  { opcode := 0x0C07, forms := .both, secure := true, always := false,
    form := fun s _ p => pkLen p 2 && decide (1 ≤ pkW p 0) && decide (pkW p 0 ≤ 4) && fld (pkW p 1) 63 2 == 0 && (!bitOf (pkW p 1) 1 || pkW p 0 == 1) && (pkW p 1 != 0 || (s.peat.candidate (pkW p 0)).isSome), qform := bufForm,
    unitOk := atDevice, may := fun _ w p => w.secure || (w.inst == 0 && !bitOf (pkW p 1) 1), active := ownActive,
    check := fun s _ p =>
      if pkW p 1 ≠ 0 then none
      else
        let d := (s.peat.candidate (pkW p 0)).getD []
        if s.regulated && !s.sec.approved.contains (d, pkW p 0) then some (Rsp.plain .refusedNotApproved)
        else if pkW p 0 = 1 ∧ imgField (s.peat.image 1 (1 - (s.peat.slot 1).active)) 11 1 < s.sec.rollback then some (Rsp.plain .refusedLocked)
        else none,
    run := fun s _ p =>
      if pkW p 1 ≠ 0 then
        let s1 : State := if isConfirm p then { s with peat := { s.peat with slots := Tbl.put s.peat.slots (pkW p 0) { s.peat.slot (pkW p 0) with trial := none, trialBoots := 0 } } } else s
        let burn := bitOf (pkW p 1) 1 && (s1.peat.slot 1).trial.isNone
        .done (if burn then { s1 with sec := { s1.sec with rollback := max s1.sec.rollback s1.stageVersion } } else s1) (Rsp.plain .served)
      else
        .silent { s with peat := { s.peat with activating := (if s.peat.activating.contains (pkW p 0) then s.peat.activating else s.peat.activating ++ [pkW p 0]) } } (.unit (uid 0x80 (pkW p 0) 0)),
    ask := fun s w p => s.answerWords w p (s.peat.activating.map (fun c => BitVec.ofNat 64 c)) }

/-- PEAT_ACTIVATE. -/
def execPeatActivate (port : Port) (s : State) : Host.Outcome State Fault Refusal := s.ends (cmdPeatActivate.exec port s)

/-- A slot record after an activation: the other slot is active, on trial (R549). The first stage's commit has put the new image into BOOT_A as well (R547), so BOOT_B stays its slot to write. -/
def FwSlot.activate (x : FwSlot) (component : Nat) : FwSlot :=
  if component = 1 then { x with trial := some x.active, trialBoots := 0 } else { active := 1 - x.active, trial := some (1 - x.active), trialBoots := 0 }

/-- The journal event of an activation: component, fallback flag, image digest (Table 16.11). -/
def State.fwEvent (s : State) (component : Nat) (fallback : Bool) (digest : List Byte) : State :=
  s.mapCore (fun c => c.event 0xFEA4 0 0 (component + b2n fallback * 256) (digest.take 16))

/-- Puts an activation into effect: slots, the event, the completion. -/
def State.activated (s : State) (component : Nat) : State :=
  let d := (s.peat.candidate component).getD []
  let s1 : State := { s with peat := { s.peat with activating := s.peat.activating.filter (· != component), slots := Tbl.put s.peat.slots component ((s.peat.slot component).activate component) } }
  (s1.fwEvent component false d).finishWhere (fun o => o.op == 0x0C07 && o.wait == .unit (uid 0x80 component 0)) (fun _ => Rsp.plain .served)

/-- The management firmware's quiet point (Table 16.8). -/
def State.mgmtQuiet (s : State) : Bool := !s.peat.flushing && s.core.jrn.buffer.isEmpty && s.core.jrn.flushing.isEmpty && s.peat.staged.isEmpty && !s.pwr.mgmtRestarting

/-- FIRMWARE_ACTIVATION (R548): dispatch firmware by the standby pair's taking over, management firmware by a MGMT restart at its quiet point; both extend register 13. The secure firmware and the first stage come into force at a reset. -/
def execFirmwareActivation (component : Nat) (s : State) : Host.Outcome State Fault Refusal :=
  s.ends (
    if !s.peat.activating.contains component then s
    else
      let d := (s.peat.candidate component).getD []
      if component = 4 then
        let s1 : State := { s with lnk := { s.lnk with activePair := if s.lnk.failedPairs.contains (1 - s.lnk.activePair) then s.lnk.activePair else 1 - s.lnk.activePair } }
        (s1.extendDigest 13 d).activated 4
      else if component = 3 ∧ s.mgmtQuiet then
        let s1 := (s.extendDigest 13 d).activated 3
        { s1 with pwr := { s1.pwr with mgmtRestarting := true, mgmtRestartBegan := s.core.now } }
      else s)

/-- FW_TRIAL_FALLBACK (R549): the third boot in a row on which trial secure or management firmware did not report ready. -/
def execFwTrialFallback (component : Nat) (s : State) : Host.Outcome State Fault Refusal :=
  s.ends (
    let x := s.peat.slot component
    if (component = 2 ∨ component = 3) ∧ x.trial.isSome ∧ 3 ≤ x.trialBoots ∧ !s.core.ready then
      ({ s with peat := { s.peat with slots := Tbl.put s.peat.slots component { active := 1 - x.active, trial := none, trialBoots := 0 } } } : State).fwEvent component true (imgDigest (s.peat.image component (1 - x.active)))
    else s)

/-! ## Dumps and the management log -/

/-- PEAT_DUMP_READ (R550). -/
def cmdPeatDumpRead : Cmd :=
  peatQuery 0x0C08 (fun _ _ p => pkLen p 4) pfOnly (fun s w p => s.readStored w p 7 ((s.peat.dumps.find? (fun d => d.number == pkW p 0)).map (fun d => (d.bytes, d.bytes.length))))

/-- PEAT_DUMP_READ. -/
def execPeatDumpRead (port : Port) (s : State) : Host.Outcome State Fault Refusal := s.ends (cmdPeatDumpRead.exec port s)

/-- PEAT_LOG_READ (R551): word 0 the buffer, word 1 its length. -/
def cmdPeatLogRead : Cmd :=
  peatQuery 0x0C09 bufForm pfOnly (fun s w p =>
    let n := min s.peat.log.length (pkW p 1)
    if !s.partPermits 8 6 false then (s.partDenied, Rsp.ok 0 0 0)
    else s.answer w (pkW p 0) (s.peat.log.drop (s.peat.log.length - n)) (Rsp.ok n s.peat.log.length 0))

/-- PEAT_LOG_READ. -/
def execPeatLogRead (port : Port) (s : State) : Host.Outcome State Fault Refusal := s.ends (cmdPeatLogRead.exec port s)

/-! ## Power failure -/

/-- The power-fail flush begins (R535, R536): admission stops and what is not durable is fixed; a program under way is aborted, its content stays in the buffer. -/
def State.powerFail (s : State) : State :=
  if s.peat.flushing then s
  else
    ({ s with pwr := { s.pwr with admitStopped := true }, peat := { s.peat with flushing := true, failTime := s.core.now } } : State).mapCore (fun c =>
      { c with jrn := { c.jrn with buffer := c.jrn.flushing ++ c.jrn.buffer, flushing := [] } })

/-- A PWR_SHUTDOWN under way gives no completion once POWER_FAIL_N falls (R582). -/
def State.cutShutdown (s : State) : State :=
  if s.pwr.shutdown then ({ s with pwr := { s.pwr with shutdown := false } } : State).mapCore (fun c => { c with owed := c.owed.filter (fun o => o.op != 0x0E06) }) else s

/-- POWER_FAIL (R535, R582). -/
def execPowerFail (s : State) : Host.Outcome State Fault Refusal := s.ends s.powerFail.cutShutdown

/-- Items with the page of the reserve area each begins in; a page holds 16,384 bytes of data (R528, R536). -/
def pagesOf : Nat → List JItem → List (Nat × JItem)
  | _, [] => []
  | off, i :: l => (off / 16384, i) :: pagesOf (off + i.bytes) l

/-- The flush ends (R536): the fixed content is durable, pages that failed once in the other area. -/
def State.flushDone (s : State) (failed : List Nat) : State :=
  if !s.peat.flushing then s
  else
    let j := s.core.jrn
    let area := if j.reserves.getD 0 false then 0 else 1
    let items := pagesOf 0 j.buffer
    let first := (items.filter (fun e => !failed.contains e.1)).map Prod.snd
    let second := (items.filter (fun e => failed.contains e.1)).map Prod.snd
    let put (t : Tbl (List JItem)) (a : Nat) (l : List JItem) : Tbl (List JItem) := if l.isEmpty then t else Tbl.put t a l
    let other := 1 - area
    let s1 : State := { s with peat := { s.peat with flushing := false, failSaved := recordsIn j.buffer, reserve := put (put s.peat.reserve area first) other second } }
    s1.mapCore (fun c => Core.syncDone
      { c with jrn := { j with buffer := [], durable := j.buffer.foldl (fun m i => max m i.jseq) j.durable,
                               reserves := (j.reserves.set area (j.reserves.getD area false && first.isEmpty)).set other (j.reserves.getD other false && second.isEmpty) } })

/-- Dispatch has no power: no slice, no command in hand. -/
def Core.dark (c : Core) : Core := { c with slices := [], owed := [], groupRuns := [], ready := false, fwdIn := [], resets := [] }

/-- POWER_FAIL_FLUSH_DONE (R539): with the supply back admission resumes and POWER_FAIL is journaled; without it the device stops. -/
def execPowerFailFlushDone (supply : Bool) (failed : List Nat) (s : State) : Host.Outcome State Fault Refusal :=
  s.ends (
    if !s.peat.flushing then s
    else
      let area := if s.core.jrn.reserves.getD 0 false then 0 else 1
      let s1 := s.flushDone failed
      if supply then
        ({ s1 with pwr := { s1.pwr with admitStopped := false } } : State).mapCore (fun c => c.event 0xFEA0 0 0 s1.peat.failSaved (le 8 s1.peat.failTime ++ le 1 area ++ [0]))
      else ({ s1 with pwr := { s1.pwr with dom := [], held := true } } : State).mapCore Core.dark)

/-- RESERVE_CLEAR (R538): used reserve areas move into the JOURNAL partition and are erased. -/
def execReserveClear (s : State) : Host.Outcome State Fault Refusal :=
  s.ends (
    if s.pwr.mgmtRestarting || s.peat.flushing || s.core.jrn.st == .recovering then s
    else
      let items := (Tbl.vals s.peat.reserve).flatten
      let new := restoreItems s.core.jrn.part items
      ({ s with peat := { s.peat with reserve := [] } } : State).mapCore (fun c => { c with jrn := { c.jrn with part := mergeItems c.jrn.part new, reserves := [true, true] } }))

/-! ## The flash translation layer -/

/-- The partition whose data a block holds by the layout of the format: partitions in index order over the usable blocks. -/
def partOfBlock (blockBytes : Nat) (block : Nat) : Nat → Nat → List Nat → Option Nat
  | _, _, [] => none
  | start, i, sz :: l =>
    let n := ceilDiv (sz * 2 ^ 20) blockBytes
    if block < start + n then some i else partOfBlock blockBytes block (start + n) (i + 1) l

/-- A block of the NAND; a block with no entry has never been erased since it was put to use. -/
def State.nblock (s : State) (b : Nat) : NBlock :=
  Tbl.at s.peat.blocks { part := partOfBlock s.fix.nand.blockBytes b 0 0 ((List.range 9).map (fun i => if s.fix.onNand i then s.peat.sizes.getD i 0 else 0)), erases := 0, reads := 0, bad := false } b

/-- Writes a block's entry. -/
def State.putBlock (s : State) (b : Nat) (x : NBlock) : State := { s with peat := { s.peat with blocks := Tbl.put s.peat.blocks b x } }

/-- The LUN of a block: blocks go round the LUNs. -/
def State.lunOf (s : State) (b : Nat) : Nat := b % max 1 s.fix.nand.luns

/-- Spare blocks left in a LUN: 2 % at first (R530). -/
def State.sparesOf (s : State) (lun : Nat) : Nat := Tbl.at s.peat.spares (s.fix.nand.blocks * 2 / 100) lun

/-- Retires a block onto a spare of its LUN (R530): the last one gone sets SPARES_LOW and interrupts MGMT. -/
def State.retire (s : State) (b spare : Nat) : State :=
  let x := s.nblock b
  let lun := s.lunOf b
  let left := s.sparesOf lun - 1
  let s1 := (s.putBlock b { x with bad := true, part := none }).putBlock spare { s.nblock spare with part := x.part }
  let s2 : State := { s1 with peat := { s1.peat with spares := Tbl.put s1.peat.spares lun left, sparesLow := s.peat.sparesLow || left == 0 } }
  if left = 0 then s2.mapCore (fun c => c.irq .mgmtPeat) else s2

/-- NAND_PROGRAM_FAIL (R530): the data is written again to a spare from the copy the controller holds. -/
def execNandProgramFail (block spare : Nat) (s : State) : Host.Outcome State Fault Refusal :=
  s.ends (if (s.nblock block).bad ∨ (s.nblock spare).bad ∨ block = spare then s else s.retire block spare)

/-- NAND_READ_UNCORRECTABLE (R529): counted, the block retired; the records of the codeword are lost. -/
def execNandReadUncorrectable (block spare : Nat) (records : List Nat) (s : State) : Host.Outcome State Fault Refusal :=
  s.ends (
    if (s.nblock block).bad ∨ (s.nblock spare).bad ∨ block = spare then s
    else
      let s1 := ({ s with peat := { s.peat with uncorr := satInc s.peat.uncorr } } : State).retire block spare
      s1.mapCore (fun c => { c with jrn := { c.jrn with part := c.jrn.part.filter (fun i => match i with | .record r => !records.contains r.jseq | .seal _ => true) } }))

/-- True where moves, patrol reads and erases may run: no journal flush or power-fail flush is pending (R532). -/
def State.nandFree (s : State) : Bool := !s.peat.flushing && s.core.jrn.flushing.isEmpty && !s.pwr.mgmtRestarting

/-- Moves a block's data to another and erases it. -/
def State.moveBlock (s : State) (source target : Nat) : State :=
  let x := s.nblock source
  if !(x.part.elim true (fun n => s.partPermits n 7 false && s.partPermits n 7 true)) then s.partDenied
  else (s.putBlock target { s.nblock target with part := x.part }).putBlock source { x with part := none, erases := x.erases + 1, reads := 0 }

/-- NAND_PATROL (R532): reads a block and moves it where a codeword needed more than 48 corrections. -/
def execNandPatrol (block corrections target : Nat) (s : State) : Host.Outcome State Fault Refusal :=
  s.ends (
    if !s.nandFree ∨ (s.nblock block).bad ∨ (s.nblock target).bad ∨ block = target then s
    else
      let x := s.nblock block
      let s1 := s.putBlock block { x with reads := x.reads + 1 }
      if 48 < corrections then s1.moveBlock block target else s1)

/-- NAND_DISTURB_MOVE (R532). -/
def execNandDisturbMove (block target : Nat) (s : State) : Host.Outcome State Fault Refusal :=
  s.ends (if !s.nandFree ∨ (s.nblock block).bad ∨ (s.nblock target).bad ∨ block = target ∨ (s.nblock block).reads < s.peat.disturbLimit then s else s.moveBlock block target)

/-- The largest erase count of a partition's blocks. -/
def State.mostErased (s : State) (part : Nat) : Nat := s.peat.blocks.foldl (fun m e => if e.2.part = some part then max m e.2.erases else m) 0

/-- NAND_WEAR_LEVEL (R531): within a partition whose erase counts spread by more than 500, the least-erased block's data moves to a more worn one. -/
def execNandWearLevel (part source target : Nat) (s : State) : Host.Outcome State Fault Refusal :=
  s.ends (
    let a := s.nblock source
    let b := s.nblock target
    if !s.nandFree ∨ a.bad ∨ b.bad ∨ source = target ∨ a.part ≠ some part ∨ (b.part ≠ none ∧ b.part ≠ some part) ∨ b.erases ≤ a.erases ∨ s.mostErased part ≤ a.erases + 500 then s
    else s.moveBlock source target)

end Sys2Proof.Machine
end

