-- ==== Sys2Proof/Machine/Power.lean ====
section
/-! DEFINITION. Chapter 18: power domains, resets, boot, adaptive voltage, sensors, the thermal trip, clock islands; with the boot steps of R513 and the fatal errors of R550. -/

namespace Sys2Proof.Machine

/-- The state of a power domain. -/
def State.domSt (s : State) (d : Nat) : DomSt := Tbl.at s.pwr.dom .off d

/-- Sets the state of a power domain. -/
def State.setDom (s : State) (d : Nat) (st : DomSt) : State := { s with pwr := { s.pwr with dom := Tbl.put s.pwr.dom d st } }

/-- The code of a domain state in PWR_DOMAIN_STATUS: SHED reads 0 (Table 18.3). -/
def DomSt.code : DomSt → Nat
  | .off => 0
  | .waking => 1
  | .on => 2
  | .draining => 3
  | .shed => 0

/-- PWR_DOMAIN_STATUS (Table 18.3). -/
def State.domStatus (s : State) : Nat := (List.range 12).foldl (fun a d => a + (s.domSt d).code * 4 ^ d) 0

/-- PWR_SHED_STATUS (R576). -/
def State.shedStatus (s : State) : Nat := bitsNum ((List.range 12).map (fun d => s.domSt d == .shed))

/-- Journals a DOMAIN event (Table 18.12). -/
def State.domEvent (s : State) (d : Nat) (st : DomSt) (cause : Nat) : State := s.mapCore (fun c => c.event 0xFEC1 0 (uid 0xA0 d 0) (d + st.code * 256) (le 1 cause))

/-- The domains that a command switches (Table 18.1). -/
def switchable (d : Nat) : Bool := [1, 2, 3, 4, 5, 6, 10].contains d

/-- The domains a domain depends on are powered (R575). -/
def State.depsOn (s : State) (d : Nat) : Bool :=
  match d with
  | 8 => true
  | 9 => s.domSt 8 == .on
  | 10 => s.domSt 8 == .on
  | 11 => s.domSt 8 == .on
  | 0 => s.domSt 8 == .on && s.domSt 9 == .on
  | _ => s.domSt 0 == .on

/-! ## Resets -/

/-- What NAND and QSPI keep of the peat store (Table 18.7). -/
def Peat.kept (q : Peat) : Peat :=
  { Peat.cold with formatted := q.formatted, sizes := q.sizes, reserve := q.reserve, failTime := q.failTime, failSaved := q.failSaved, nextCapture := q.nextCapture, stored := q.stored, images := q.images, slots := q.slots, committed := q.committed, dumps := q.dumps, nextDump := q.nextDump, log := q.log, baselines := q.baselines, blocks := q.blocks, spares := q.spares }

/-- What the JOURNAL partition keeps of the journal. -/
def Jrn.kept (j : Jrn) : Jrn := { Jrn.cold j.part j.formats j.capacity j.blockBytes with exported := j.exported, exports := j.exports }

/-- Components 1 and 2 that were activated come into force at a reset (Table 16.8): slot and waiting event. -/
def State.activateAtReset (s : State) (q : Peat) (component : Nat) : State :=
  if q.activating.contains component then
    ({ s with peat := { s.peat with slots := Tbl.put s.peat.slots component ((q.slot component).activate component) } } : State).fwEvent component false ((q.candidate component).getD [])
  else s

/-- The content of DRAM that a warm reset keeps: all but the first 64 KiB of each channel, which training writes (R586). With any grain those are the first 512 KiB of a group (R145). -/
def dramKept (m : Memory) : Memory := m.filter (fun c => decide (2 ^ 19 ≤ c.1 % 2 ^ 35))

/-- A memory group after a warm reset: in self-refresh, with what its DRAM holds; one that went OFFLINE stays so until a cold reset (R164, R178). -/
def MemGroup.warm (g : MemGroup) : MemGroup := { MemGroup.cold with st := (if g.lost then .offline else .sr), lost := g.lost, badPages := g.badPages, poison := g.poison.filter (fun a => decide (2 ^ 19 ≤ a % 2 ^ 35)) }

/-- A cold reset (Table 18.7, R583, R634). -/
def State.coldReset (s : State) : State :=
  let s1 : State :=
    { fix := s.fix, core := Core.cold s.core.dt s.core.freeCtr s.core.host s.core.jrn.kept, lnk := Lnk.cold, sec := Sec.cold s.fix s.sec.tamperLatched s.sec.tamperHeld s.sec.bootCount s.sec.rollback,
      pwr := { Pwr.cold s.fix with perstHigh := s.pwr.perstHigh }, mem := MemSys.cold [], srf := Srf.cold, frd := Frd.cold, led := Led.cold, chk := Chk.cold, ras := Ras.cold, ing := Ing.cold false, rhz := Rhz.cold, tch := Tch.cold, hap := Hap.cold,
      aud := Aud.cold, peat := s.peat.kept, reg := Regs.cold, pending := s.pending }
  (s1.activateAtReset s.peat 1).activateAtReset s.peat 2

/-- A warm reset (Table 18.7, R583 to R586): as a cold one, but DRAM, the measurement registers and what holds until a cold reset are kept: what is counted since then, the certificate lock (R510), POS (R554). -/
def State.warmReset (s : State) : State :=
  let t := s.coldReset
  { t with
    sec := { t.sec with meas := s.sec.meas, measCount := s.sec.measCount, measLog := s.sec.measLog, siSince := t.sec.siSince || s.sec.siSince, decertified := s.sec.decertified, restarts := s.sec.restarts, dbgLocked := s.sec.dbgLocked }
    core := { t.core with pos := s.core.pos }
    mem := { t.mem with a := s.mem.a.warm, b := s.mem.b.warm, dram := dramKept s.mem.dram }
    frd := { t.frd with patrol := { t.frd.patrol with swaps := s.frd.patrol.swaps } }
    ing := Ing.cold s.ing.ptp.everLocked
    peat := { t.peat with dumpArea := s.peat.dumpArea } }

/-- Journals a RESET event (Table 18.12). -/
def State.resetEvent (s : State) (cold : Bool) (cause : Nat) : State := s.mapCore (fun c => c.event 0xFEC2 0 0 (b2n cold) (le 1 cause))

/-- COLD_RESET: COLD_RST_N low resets at once (R583, R584, R587); its event waits for the boot. -/
def execColdReset (s : State) : Host.Outcome State Fault Refusal := s.ends (s.coldReset.resetEvent true 2)

/-- The power-fail flush run to its end (R536). -/
def State.flushed (s : State) : State := (if s.peat.flushing then s else s.powerFail).flushDone []

/-- WARM_RESET: WARM_RST_N low runs the power-fail flush, or waits for one in progress, and then resets (R584, R587). A device held after the critical stage waits for a cold reset (R590). -/
def execWarmReset (s : State) : Host.Outcome State Fault Refusal := s.ends (if s.pwr.held then s else s.flushed.warmReset.resetEvent false 2)

/-- POWER_ON_RESET (R583, R603): a cold reset that also clears the sentinel: device time, tamper latches, boot count. -/
def execPowerOnReset (s : State) : Host.Outcome State Fault Refusal :=
  s.endsTime (
    let t := s.coldReset
    { t with core := { t.core with dt := 0 }, sec := { t.sec with tamperLatched := [], tamperHeld := [], bootCount := 0 } })

/-- PWR_RESET (R584): RESET is journaled and durable, and the command completed, before the reset. -/
def cmdPwrReset : Cmd :=
  { opcode := 0x0E02, forms := .setOnly, secure := false, always := false, form := fun _ _ p => pkLen p 1 && fld (pkW p 0) 63 1 == 0, qform := bufForm, unitOk := atDevice, may := pfOrSec, active := ownActive, check := noCheck,
    run := fun s w p =>
      let s1 := s.resetEvent (bitOf (pkW p 0) 0) 1
      let jseq := s1.core.jrn.nextJseq - 1
      let s2 := s1.allDurable.mapCore (fun c => c.complete w p (Rsp.plain .served) true true jseq)
      .silent { s2 with pwr := { s2.pwr with resetAsked := some (pkW p 0) } } (.unit 0),
    ask := noAsk }

/-- The reset that PWR_RESET asked for. -/
def State.takeReset (s : State) : State :=
  match s.pwr.resetAsked with
  | none => s
  | some k => if k = 0 then s.warmReset else s.coldReset

/-- PWR_RESET. -/
def execPwrReset (port : Port) (s : State) : Host.Outcome State Fault Refusal := s.ends (cmdPwrReset.exec port s).takeReset

/-- A fatal error is at hand (R550): 1 both dispatch pairs failed, 2 the SEC gave up, 3 a fourth MGMT restart within 600 s. -/
def State.fatalDue (s : State) (cause : Nat) : Bool :=
  match cause with
  | 1 => s.lnk.failedPairs.contains 0 && s.lnk.failedPairs.contains 1
  | 2 => s.sec.run == .gaveUp
  | 3 => decide (4 ≤ s.pwr.mgmtRestarts.length)
  | _ => false

/-- FATAL_ERROR (R550): the dump is written to the dump area, then a warm reset. -/
def execFatalError (cause : Nat) (dump : List Byte) (s : State) : Host.Outcome State Fault Refusal :=
  s.ends (
    if !s.fatalDue cause then s
    else
      let s1 : State := { s with peat := { s.peat with dumpArea := some { number := s.peat.nextDump, cause := cause, bytes := dump } } }
      (s1.resetEvent false 3).flushed.warmReset)

/-! ## Boot -/

/-- The ROM halts with a boot code (R513). -/
def State.bootHalt (s : State) (code : Nat) : State := { s with sec := { s.sec with bootHalted := true, bootCode := code } }

/-- A Warden SRAM region as the ROM sets and locks it (R184): first and last page, port classes that read and write. -/
def State.romRegion (s : State) (n first last read write : Nat) : State :=
  { s with sec := { s.sec with sramRgn := Tbl.put s.sec.sramRgn n { base := first, limit := last, attr := 0xA0000000 + write * 256 + read } } }.extend 10 (le 4 (32 + n))

/-- The first stage sets and locks PEAT_PART_ATTR (R534): enabled, every port class permitted (DESIGN CHOICE, log entry 76). -/
def partAttrs : Tbl Nat := (List.range 9).map (fun n => (n, 0xE000FFFF))

/-- Step 6 of Table 15.5 and the first stage's events 4 and before (Table 18.6). -/
def State.firstStage (s : State) (m : Memory) (fromB : Bool) : State :=
  let s1 : State := { s.extendDigest 1 (imgDigest m) with sec := { (s.extendDigest 1 (imgDigest m)).sec with bootedB := fromB } }
  let s2 := ((s1.romRegion 0 0 0xFFF 0x0A 0x08).romRegion 1 0x1000 0x17FF 0x2A 0x2A).romRegion 2 0x1800 0x1FFF 0x91 0x91
  let slots := Tbl.mapVals s2.peat.slots (fun _ x => if x.trial.isSome then { x with trialBoots := x.trialBoots + 1 } else x)
  let s3 : State := { s2 with peat := { s2.peat with attrs := partAttrs, slots := slots } }
  let s4 := [2, 3, 5, 6, 7].foldl (fun t d => (t.setDom d .on).domEvent d .on 3) s3
  let train (g : MemGroup) : MemGroup := if g.lost then g else { g with st := .training }
  (s4.updGroup 0 train).updGroup 1 train

/-- The session key of the Lichen link (R25): the first 32 bytes of SHA-384 over pairing secret, boot nonce and LICHEN. -/
def lichenKey (pairing : Nat) (nonce : List Byte) : BitVec 256 := BitVec.ofNat 256 (ofLe ((sha384 (le 32 pairing ++ nonce ++ ascii "LICHEN")).take 32))

/-- Steps 4 and 5 of Table 15.5: the first stage from BOOT_A, else BOOT_B; its signature and version. -/
def State.bootImage (s : State) : State :=
  let a := Tbl.at s.peat.images [] (imgKey 0 1)
  let b := Tbl.at s.peat.images [] (imgKey 1 1)
  let fromB := !imgWhole a 1
  let m := if fromB then b else a
  if !imgWhole m 1 then s.bootHalt 0x0B20
  else if !imgSigned s.fix m then s.bootHalt 0x0B21
  else if imgField m 11 1 < s.sec.rollback then s.bootHalt 0x0B22
  else s.firstStage m fromB

/-- Step 3: the Lichen link (R27), its session key, and C_FABRIC and W_STORE with it (Table 18.6). -/
def State.bootLink (s : State) (lo hi : Nat) : State :=
  match commonVersion 0x10 0x12 lo hi with
  | none => s.bootHalt 0x0B01
  | some v =>
    let nonce := le 32 (Config.trng s.core.freeCtr).toNat
    let s1 : State := { s.mapCore (fun c => c.useFree 1) with lnk := { s.lnk with verMajor := v / 16, verMinor := v % 16, up := true, sessionKey := lichenKey s.fix.pairing nonce } }
    (((s1.setDom 0 .on).domEvent 0 .on 3).setDom 11 .on).domEvent 11 .on 3

/-- Tamper assertions latched while only W_AON was powered are journaled, and their responses apply, from the boot (R526). -/
def State.heldTampers (s : State) : State :=
  s.sec.tamperHeld.foldl (fun t e => (t.tamperEvent e.1 e.2 true).tamperResponds e.2) { s with sec := { s.sec with tamperHeld := [] } }

/-- FIDDLEHEAD_BOOT (R513, Table 15.5, Table 18.6): the fuse image or a fuse read error; the glyph ROM and the coefficient ROMs or a hash error; the versions that the other die supports. -/
def execFiddleheadBoot (fuses : Option (List Byte)) (roms : Option (List Byte × List Byte)) (lo hi : Nat) (s : State) : Host.Outcome State Fault Refusal :=
  s.ends (
    if s.sec.run ≠ .booting ∨ s.sec.bootHalted ∨ s.pwr.held ∨ s.domSt 8 = .on then s
    else
      let s0 := (((s.setDom 8 .on).domEvent 8 .on 3).setDom 9 .on).domEvent 9 .on 3
      let s1 := { s0 with sec := { s0.sec with bootCount := s0.sec.bootCount + 1 } }.heldTampers
      match fuses with
      | none => s1.bootHalt 0x0B10
      | some f =>
        let s2 := s1.extend 0 (le 48 Config.romImage.toNat ++ f)
        match roms with
        | none => s2.bootHalt 0x0B11
        | some (glyph, coef) =>
          let s3 := ((s2.extend 7 glyph).extend 6 coef).bootLink lo hi
          if s3.sec.bootHalted then s3 else s3.bootImage)

/-- Moves the dump area into DUMP: the newest 8 are kept (R550). -/
def State.storeDump (s : State) : State :=
  match s.peat.dumpArea with
  | none => s
  | some d =>
    let l := s.peat.dumps ++ [{ d with number := s.peat.nextDump }]
    ({ s with peat := { s.peat with dumps := l.drop (l.length - 8), nextDump := s.peat.nextDump + 1, dumpArea := none } } : State).mapCore (fun c => c.event 0xFEA5 0 0 s.peat.nextDump (le 1 d.cause))

/-- PWR_READY_HIGH (R579, R638): the firmware runs and is measured (Table 15.6), PF slice 0 comes into existence, MGMT measures the hold-up; PCIe training starts where PERST_N is high (R580). -/
def execPwrReadyHigh (s : State) : Host.Outcome State Fault Refusal :=
  s.ends (
    if s.core.ready ∨ s.sec.run ≠ .booting ∨ s.sec.bootHalted ∨ s.domSt 7 ≠ .on then s
    else
      let img (c : Nat) : Memory := s.peat.image c (s.peat.slot c).active
      let s1 := (((s.extendDigest 2 (imgDigest (img 2))).extendDigest 3 (imgDigest (img 3))).extendDigest 4 (imgDigest (img 4))).extend 5 (le 48 Config.canvasIdentity.toNat ++ le 1 s.lnk.verMajor ++ le 1 s.lnk.verMinor)
      let slots := Tbl.mapVals s1.peat.slots (fun _ x => { x with trialBoots := 0 })
      let s2 : State := { s1 with sec := { s1.sec with run := .running, wdog := s.core.now, fwDigest := imgDigest (img 2) }, peat := { s1.peat with holdup := s.fix.nand.holdup, slots := slots }, pwr := { s1.pwr with pcieTraining := s.pwr.perstHigh } }
      (s2.mapCore (fun c => ({ c with ready := true } : Core).openSlice 0 0 (freshSlice 0 true c.slice0Cb 0))).storeDump)

/-- PCIE_PERST (R580): the rise of PERST_N; link training begins once PWR_READY is high. -/
def execPciePerst (s : State) : Host.Outcome State Fault Refusal := s.ends { s with pwr := { s.pwr with perstHigh := true, pcieTraining := s.core.ready && !s.pwr.pcieUp } }

/-! ## MGMT -/

/-- MGMT_WATCHDOG_EXPIRE (R583): MGMT alone restarts; VCORE_C holds its setting. -/
def execMgmtWatchdogExpire (s : State) : Host.Outcome State Fault Refusal :=
  s.ends (
    if s.pwr.mgmtRestarting ∨ s.domSt 8 ≠ .on then s
    else { s with pwr := { s.pwr with mgmtRestarting := true, mgmtRestartBegan := s.core.now, mgmtRestarts := (s.pwr.mgmtRestarts ++ [s.core.now]).filter (fun t => decide (s.core.now ≤ t + 600 * 10 ^ 9)) } })

/-- MGMT_RESTART_DONE (R95): flushing, reserve clearing and the AVS loop resume. -/
def execMgmtRestartDone (s : State) : Host.Outcome State Fault Refusal := s.ends { s with pwr := { s.pwr with mgmtRestarting := false } }

/-! ## Domains by command -/

/-- UNIT is a domain that commands switch. -/
def atDomain (_ : State) (_ : Who) (p : Packet) : Bool := pkIs p 0xA0 && switchable (uIdx (pkUnit p))

/-- An output that keeps a frond domain powered (R577). -/
def State.domainOutput (s : State) (d : Nat) : Option Nat :=
  match d with
  | 2 => (s.frd.outs.find? (fun e => !e.2.mode.isEmpty && decide (e.2.frond < 5))).map Prod.fst
  | 3 => (s.frd.outs.find? (fun e => !e.2.mode.isEmpty)).map Prod.fst
  | _ => none

/-- A memory group that serves, or could. -/
def GroupSt.awake (st : GroupSt) : Bool := st == .active || st.low

/-- The checks of a power-down (R577). -/
def State.downCheck (s : State) (d : Nat) : Option Rsp :=
  match s.domainOutput d with
  | some o => some (Rsp.code .refusedLocked (s.core.here (uid 0x22 o 0)))
  | none =>
    if d = 5 ∨ d = 6 then
      let g := d - 5
      match s.srf.surfs.find? (fun e => e.2.home == g || e.2.mirror.isSome) with
      | some e => some (Rsp.code .refusedLocked (s.core.here (uidN 0x11 e.1)))
      | none => if s.srf.pools.any (fun e => e.1 % 2 == g && e.2.size != 0) ∨ !(s.group (1 - g)).st.awake then some (Rsp.plain .refusedLocked) else none
    else none

/-- The reading of a thermal sensor, in 0.25 °C. -/
def State.temp (s : State) (n : Nat) : Int := sxt 16 (Tbl.cnt s.pwr.sensor n)

/-- The checks of a power-up (R577). -/
def State.upCheck (s : State) (d : Nat) : Option Rsp :=
  if (d = 5 ∨ d = 6) ∧ (s.group (d - 5)).lost then some (Rsp.plain .refusedUnitReset)
  else if s.domSt d = .shed ∧ (List.range 16).any (fun n => decide (((s.pwr.tripC : Int) - 10) * 4 < s.temp n)) then some (Rsp.plain .refusedLocked)
  else none

/-- A domain holds a leased unit, or is leased (R506). -/
def State.domainLeased (s : State) (d : Nat) : Bool := s.leased (uid 0xA0 d 0) || (domainUnits s d).any s.leased

/-- PWR_DOMAIN_SET (R577): a request that meets a domain in transition joins it or waits behind it (R44). -/
def cmdPwrDomainSet : Cmd :=
  { opcode := 0x0E00, forms := .both, secure := false, always := false, form := fun _ _ p => pkLen p 1 && fld (pkW p 0) 63 1 == 0, qform := bufForm, unitOk := atDomain, may := pfOnly, active := fun _ _ => true,
    check := fun s _ p =>
      let d := uIdx (pkUnit p)
      if bitOf (pkW p 0) 0 then s.upCheck d else if s.domSt d = .on then s.downCheck d else none,
    run := fun s _ p =>
      let d := uIdx (pkUnit p)
      let u := uid 0xA0 d 0
      if bitOf (pkW p 0) 0 then
        match s.domSt d with
        | .on => .done s (Rsp.plain .served)
        | .draining => .delayed s (Rsp.plain .delayedUnitBusy) (.unit u) false
        | .waking => .silent s (.unit u)
        | _ => .silent (s.setDom d .waking) (.unit u)
      else
        match s.domSt d with
        | .on =>
          if s.domainLeased d then .delayed s (Rsp.plain .deferredSecureLease) (.lease u) false
          else .silent ((s.setDom d .draining).setTr u { phase := .draining, kind := .powerDown, queued := [], discarded := 0, began := s.core.now }) (.unit u)
        | .draining => .silent s (.unit u)
        | .waking => .delayed s (Rsp.plain .delayedUnitBusy) (.unit u) false
        | _ => .done s (Rsp.plain .served),
    ask := fun s w p => s.answerWords w p [BitVec.ofNat 64 (b2n (s.domSt (uIdx (pkUnit p)) == .on || s.domSt (uIdx (pkUnit p)) == .waking))] }

/-- PWR_DOMAIN_SET. -/
def execPwrDomainSet (port : Port) (s : State) : Host.Outcome State Fault Refusal := s.ends (cmdPwrDomainSet.exec port s)

/-- What a domain's units do as it comes on (Table 18.4). -/
def State.domainWoken (s : State) (d : Nat) : State :=
  match d with
  | 5 => s.updGroup 0 (fun g => { g with st := .training })
  | 6 => s.updGroup 1 (fun g => { g with st := .training })
  | 10 =>
    let s1 := (Tbl.keys s.tch.surfs).foldl State.surfUpdate s
    let s2 := (Tbl.keys s.hap.chans).foldl (fun t n => t.updChan n HChan.rest) s1
    { s2 with aud := { s2.aud with jack := (if s2.aud.plugged then 2 else 0), jackSince := s2.core.now } }
  | _ => s

/-- DOMAIN_WAKE_DONE (R577, Table 18.4). -/
def execDomainWakeDone (domain : Nat) (s : State) : Host.Outcome State Fault Refusal :=
  s.ends (
    if s.domSt domain ≠ .waking ∨ !s.depsOn domain then s
    else
      let u := uid 0xA0 domain 0
      (((s.setDom domain .on).domainWoken domain).domEvent domain .on 1).finishWhere (fun o => o.op == 0x0E00 && o.wait == .unit u && o.started) (fun _ => Rsp.plain .served))

/-! ## Status and settings -/

/-- PWR_AVS_CFG (Table 18.8). -/
def Pwr.avsCfg (p : Pwr) : Nat := b2n p.avsEnable * 2 ^ 31 + p.avsTarget * 2 ^ 20 + p.avsMax * 2 ^ 10 + p.avsMin

/-- PWR_AVS_STATUS (Table 18.8). -/
def Pwr.avsStatus (p : Pwr) : Nat := b2n (p.vset == p.avsMax) * 2 ^ 31 + b2n (p.vset == p.avsMin) * 2 ^ 30 + p.vread % 1024 * 1024 + p.vset % 1024

/-- PWR_THERM_CFG (Table 18.9). -/
def Pwr.thermCfg (p : Pwr) : Nat := p.shedMask * 2 ^ 16 + p.tripC * 256 + p.warnC

/-- PWR_STATUS (R593): domains, AVS, pace. -/
def cmdPwrStatus : Cmd :=
  { opcode := 0x0E01, forms := .queryOnly, secure := false, always := false, form := fun _ _ p => pkLen p 0, qform := fun _ _ p => pkLen p 0, unitOk := atDevice, may := fun _ w _ => !w.secure, active := ownActive, check := noCheck, run := noRun,
    ask := fun s _ _ => (s, Rsp.ok s.domStatus s.pwr.avsStatus s.lnk.paceStatus) }

/-- PWR_STATUS. -/
def execPwrStatus (port : Port) (s : State) : Host.Outcome State Fault Refusal := s.ends (cmdPwrStatus.exec port s)

/-- Values of PWR_AVS_CFG that R588 takes. -/
def avsOk (v : Nat) : Bool := decide (600 ≤ fld v 9 0) && decide (fld v 19 10 ≤ 900) && decide (fld v 9 0 ≤ fld v 19 10) && decide (1000 ≤ fld v 30 20) && decide (fld v 30 20 ≤ 1400)

/-- Writes PWR_AVS_CFG. -/
def State.setAvs (s : State) (v : Nat) : State := { s with pwr := { s.pwr with avsEnable := bitOf v 31, avsTarget := fld v 30 20, avsMax := fld v 19 10, avsMin := fld v 9 0 } }

/-- PWR_AVS_SET (R588): word 0 [31:0] as PWR_AVS_CFG. -/
def cmdPwrAvsSet : Cmd :=
  { opcode := 0x0E03, forms := .both, secure := false, always := false, form := fun _ _ p => pkLen p 1 && fld (pkW p 0) 63 32 == 0 && avsOk (pkW p 0), qform := bufForm, unitOk := atDevice, may := pfOnly, active := ownActive, check := noCheck,
    run := fun s _ p => .done (s.setAvs (pkW p 0)) (Rsp.plain .served), ask := fun s w p => s.answerWords w p [BitVec.ofNat 64 s.pwr.avsCfg] }

/-- PWR_AVS_SET. -/
def execPwrAvsSet (port : Port) (s : State) : Host.Outcome State Fault Refusal := s.ends (cmdPwrAvsSet.exec port s)

/-- Writes the secure fields of PWR_THERM_CFG: a TRIP_C above its reset value is ignored (Table 18.9). -/
def State.setTrip (s : State) (v : Nat) : State := { s with pwr := { s.pwr with shedMask := fld v 27 16, tripC := (if tripCold s.fix < fld v 15 8 then s.pwr.tripC else fld v 15 8) } }

/-- Writes WARN_C. -/
def State.setWarn (s : State) (v : Nat) : State := { s with pwr := { s.pwr with warnC := fld v 7 0 } }

/-- PWR_THERMAL_SET (R590): word 0 [31:0] as PWR_THERM_CFG; WARN_C from the PF, SHED and TRIP_C from the secure firmware. -/
def cmdPwrThermalSet : Cmd :=
  { opcode := 0x0E04, forms := .both, secure := false, always := false, form := fun _ _ p => pkLen p 1 && fld (pkW p 0) 63 28 == 0, qform := bufForm, unitOk := atDevice, may := pfOrSec, active := ownActive, check := noCheck,
    run := fun s w p => .done (if w.secure then s.setTrip (pkW p 0) else s.setWarn (pkW p 0)) (Rsp.plain .served), ask := fun s w p => s.answerWords w p [BitVec.ofNat 64 s.pwr.thermCfg] }

/-- PWR_THERMAL_SET. -/
def execPwrThermalSet (port : Port) (s : State) : Host.Outcome State Fault Refusal := s.ends (cmdPwrThermalSet.exec port s)

/-- The reading of a sensor (R589): thermal, voltage, pace. -/
def State.sensorValue (s : State) (n : Nat) : Nat :=
  if n < 40 then Tbl.cnt s.pwr.sensor n else if n < 88 then s.lnk.canvasPace.getD (n - 40) 0 else s.lnk.wardenPace.getD (n - 88) 0

/-- PWR_SENSOR_READ (R589): a voltage monitor that no excursion has read gives a free value (log entry 5). -/
def cmdPwrSensorRead : Cmd :=
  { opcode := 0x0E05, forms := .queryOnly, secure := false, always := false, form := fun _ _ p => pkLen p 0, qform := fun _ _ p => pkLen p 0, unitOk := fun _ _ p => pkIs p 0xA1, may := pfOrSec, active := ownActive, check := noCheck, run := noRun,
    ask := fun s _ p =>
      let n := uIdx (pkUnit p)
      if 16 ≤ n ∧ n < 40 ∧ !Tbl.has s.pwr.sensor n then (s.mapCore (fun c => c.useFree 1), Rsp.ok (s.core.free % 2 ^ 32) 0 0) else (s, Rsp.ok (s.sensorValue n) 0 0) }

/-- PWR_SENSOR_READ. -/
def execPwrSensorRead (port : Port) (s : State) : Host.Outcome State Fault Refusal := s.ends (cmdPwrSensorRead.exec port s)

/-! ## Orderly power-down -/

/-- PWR_SHUTDOWN (R581): steps 2 to 6 follow in the steps on an empty queue. -/
def cmdPwrShutdown : Cmd :=
  { opcode := 0x0E06, forms := .setOnly, secure := false, always := false, form := fun _ _ p => pkLen p 1 && fld (pkW p 0) 63 1 == 0, qform := bufForm, unitOk := atDevice, may := pfOnly, active := ownActive, check := noCheck,
    run := fun s _ p =>
      if s.sec.leases.any (fun e => e.2) then .delayed s (Rsp.plain .deferredSecureLease) (.lease 0) false
      else .silent { s with pwr := { s.pwr with shutdown := true, standby := bitOf (pkW p 0) 0, shutdownBegan := s.core.now, admitStopped := true } } (.unit 0),
    ask := noAsk }

/-- PWR_SHUTDOWN. -/
def execPwrShutdown (port : Port) (s : State) : Host.Outcome State Fault Refusal := s.ends (cmdPwrShutdown.exec port s)

/-- An output completes its frame and stops. -/
def Outp.stop (o : Outp) : Outp := { o with mode := [], link := 0, modeset := none, token := none, lineOut := [] }

/-- Step 5: outputs stop, the groups are in self-refresh, every domain but W_AON goes OFF. -/
def State.domainsOff (s : State) (standby : Bool) : State :=
  let s1 := [1, 2, 3, 4, 5, 6, 10].foldl (fun t d => if t.domSt d = .on ∨ t.domSt d = .draining then t.domainOff d .off else t) { s with frd := { s.frd with outs := Tbl.mapVals s.frd.outs (fun _ o => o.stop) } }
  let s2 := (s1.updGroup 0 (fun g => { g with st := .sr })).updGroup 1 (fun g => { g with st := .sr })
  { s2 with pwr := { s2.pwr with dom := if standby then [] else [(8, .on)] } }

/-- Steps 2 to 6 of R581, once captures are moved or 2 s have passed: baselines, seal, durable journal, power-down, completion, PWR_READY low. -/
def State.shutdownStep (s : State) : State :=
  let s1 := if s.core.now < s.pwr.shutdownBegan + 2 * 10 ^ 9 then s.peat.staged.foldl (fun t c => t.storeCapture c.req.id) s else s
  if (!s1.peat.staged.isEmpty && decide (s.core.now < s.pwr.shutdownBegan + 2 * 10 ^ 9)) || !s1.peat.formatted || s1.pwr.mgmtRestarting || s1.sec.run == .restarting then s1
  else
    let s2 := (Tbl.keys (Tbl.keep s1.tch.surfs (fun _ x => x.st == 2 || x.st == 3))).foldl State.storeBaseline s1
    let s3 := if s2.canSeal && s2.core.jrn.sinceSeal != 0 then s2.mapCore (fun c => c.sealNow s2.sec.sealKey) else s2
    let s4 := s3.allDurable
    let mine (o : Owed) : Bool := o.op == 0x0E06 && o.started
    let s5 := (s4.core.owed.filter mine).foldl (fun t o => t.mapCore (fun c => c.complete o.who o.pk (Rsp.plain .served) true true o.jseq)) (s4.domainsOff s.pwr.standby)
    ({ s5 with pwr := { s5.pwr with shutdown := false } } : State).mapCore Core.dark

/-! ## Adaptive voltage -/

/-- The voltage after one tick of the loop (R588). -/
def avsNext (pwr : Pwr) (pace v : Nat) : Nat := if pwr.avsTarget + 30 < pace ∧ v < pwr.avsMax then min pwr.avsMax (v + 10) else if pace + 50 < pwr.avsTarget ∧ pwr.avsMin < v then max pwr.avsMin (v - 5) else v

/-- AVS_TICK (R588): every 100 µs; before the first write the loop starts from the voltage read, in 5 mV steps (log entry 77). -/
def execAvsTick (vread : Nat) (s : State) : Host.Outcome State Fault Refusal :=
  s.ends (
    match s.lnk.average with
    | none => s
    | some p =>
      if !s.pwr.avsEnable ∨ s.pwr.mgmtRestarting ∨ s.domSt 8 ≠ .on then s
      else
        let v := if s.pwr.vset = 0 then vread / 5 * 5 else s.pwr.vset
        { s with pwr := { s.pwr with vread := vread % 1024, vset := avsNext s.pwr p v } })

/-! ## Sensors -/

/-- Journals a THERMAL event (Table 18.12). -/
def State.thermEvent (s : State) (sensor stage shed : Nat) : State := s.mapCore (fun c => c.event 0xFEC0 0 0 (sensor + stage * 256) (le 2 (Tbl.cnt s.pwr.sensor sensor) ++ le 2 shed))

/-- The domains that a trip sheds: those named in SHED that have power (R590). -/
def State.shedding (s : State) : List Nat := (List.range 12).filter (fun d => switchable d && bitOf s.pwr.shedMask d && (s.domSt d == .on || s.domSt d == .waking || s.domSt d == .draining))

/-- Sheds a domain (R590, R587): not drained, a DOMAIN event with cause 2 and the state's code of Table 18.2; a command that was powering it down is served, one that was powering it up fails. -/
def State.shed (s : State) (d : Nat) : State :=
  let was := s.domSt d
  let u := uid 0xA0 d 0
  let units := domainUnits s d
  let s1 := ((s.breakLeases d (fun v => v == u || units.contains v)).domainOff d .shed).mapCore (fun c => c.event 0xFEC1 0 u (d + 4 * 256) (le 1 2))
  (s1.mapCore (fun c => ({ c with trans := Tbl.del c.trans u } : Core).bump u)).finishWhere (fun o => o.op == 0x0E00 && o.wait == .unit u && o.started) (fun _ => Rsp.plain (if was = .draining then .served else .failedUnitReset))

/-- The thermal trip (R590): one THERMAL event names the domains that were ON. -/
def State.trip (s : State) (sensor : Nat) : State :=
  let ds := s.shedding
  let shed := bitsNum ((List.range 12).map (fun d => ds.contains d && s.domSt d == .on))
  (ds.foldl State.shed s).thermEvent sensor 2 shed

/-- The notification of R590: the sensor and its temperature. -/
def State.thermNotify (s : State) (sensor : Nat) : State := s.mapCore (fun c => (c.irq .mgmtThermal).notify 0x0015 0 sensor (le 1 sensor ++ [0] ++ le 2 (Tbl.cnt s.pwr.sensor sensor)))

/-- THERMAL_SAMPLE (R589, R590): a reading in 0.25 °C; warning and trip as WARN_C and TRIP_C are reached. -/
def execThermalSample (sensor : Nat) (reading : Int) (s : State) : Host.Outcome State Fault Refusal :=
  s.ends (
    if 16 ≤ sensor ∨ s.pwr.held then s
    else
      let warm := decide ((s.pwr.warnC : Int) * 4 ≤ reading)
      let hot := decide ((s.pwr.tripC : Int) * 4 ≤ reading)
      let newWarm := warm && !s.pwr.warned.contains sensor
      let newHot := hot && !s.pwr.tripped.contains sensor
      let mark (l : List Nat) (on : Bool) : List Nat := if on then (if l.contains sensor then l else l ++ [sensor]) else l.filter (· != sensor)
      let times := if newHot then Tbl.put s.pwr.trippedAt sensor s.core.now else if hot then s.pwr.trippedAt else Tbl.del s.pwr.trippedAt sensor
      let s1 : State := { s with pwr := { s.pwr with sensor := Tbl.put s.pwr.sensor sensor (enc 16 reading), warned := mark s.pwr.warned warm, tripped := mark s.pwr.tripped hot, trippedAt := times } }
      let s2 := if newWarm then (s1.thermNotify sensor).thermEvent sensor 1 0 else s1
      if newHot then s2.trip sensor else s2)

/-- The sensor that has brought the critical stage (R590): TRIP_C + 5 °C, or 2 s at TRIP_C. -/
def State.criticalSensor (s : State) : Option Nat :=
  (List.range 16).find? (fun n => (Tbl.has s.pwr.sensor n && decide (((s.pwr.tripC : Int) + 5) * 4 ≤ s.temp n)) || (Tbl.find s.pwr.trippedAt n).elim false (fun t => decide (t + 2 * 10 ^ 9 ≤ s.core.now)))

/-- THERMAL_CRITICAL (R590): the flush, THERM_TRIP_N low, held in reset until a cold reset. -/
def execThermalCritical (s : State) : Host.Outcome State Fault Refusal :=
  s.ends (
    match s.criticalSensor with
    | none => s
    | some n =>
      if s.pwr.held then s
      else
        let t := (s.thermEvent n 3 0).flushed.coldReset
        { t with pwr := { t.pwr with thermTripLow := true, held := true, sensor := s.pwr.sensor } })

/-- VMON_EXCURSION (R589, R602): a monitored voltage outside its limits for 10 µs. -/
def execVmonExcursion (monitor mv : Nat) (s : State) : Host.Outcome State Fault Refusal :=
  s.ends (
    let lim := Tbl.cnt s.pwr.vmonLim monitor
    let high := decide (fld lim 31 16 < mv)
    if 24 ≤ monitor ∨ (!high ∧ fld lim 15 0 ≤ mv) then s
    else ({ s with pwr := { s.pwr with sensor := Tbl.put s.pwr.sensor (16 + monitor) (mv % 65536) } } : State).mapCore (fun c => (c.irq .mgmtVmon).event 0xFEC3 0 0 monitor (le 2 mv ++ le 1 (b2n high))))

/-! ## Clock islands -/

/-- The domain of a clock island (Table 18.10). Islands by number: frond pixel 0 to 8, memory slot 9 and 10, PCIe PCS 11, rhizome PCS 12 and 13, Lichen PCS 14 and 15, Ethernet MAC 16 to 19, MGMT 20, SEC 21, PTP 22, audio master 23, touch sampling 24 and 25, NAND 26, QSPI 27, sentinel 28 (log entry 78). -/
def islandDomain (i : Nat) : Nat :=
  if i < 5 then 2 else if i < 9 then 3 else if i = 9 then 5 else if i = 10 then 6 else if i < 14 then 7 else if i = 14 then 0 else if i = 15 then 8 else if i < 20 then 4 else if i = 20 then 8 else if i = 21 then 9 else if i = 22 then 8
  else if i < 26 then 10 else if i < 28 then 11 else 8

/-- A clock island. -/
def State.island (s : State) (i : Nat) : Island := Tbl.at s.pwr.islands { running := true, lastUse := 0 } i

/-- An island runs only while its domain is ON (R591). -/
def State.islandRuns (s : State) (i : Nat) : Bool := s.domSt (islandDomain i) == .on && (s.island i).running

/-- ISLAND_WAKE (R592, R593): the island acknowledges RUNNING; where its domain is OFF nothing waits for it. -/
def execIslandWake (island : Nat) (s : State) : Host.Outcome State Fault Refusal :=
  s.ends (if 29 ≤ island ∨ s.domSt (islandDomain island) ≠ .on then s else { s with pwr := { s.pwr with islands := Tbl.put s.pwr.islands island { running := true, lastUse := s.core.now } } })

/-- ISLAND_STOP (R591): the NAND or QSPI island stops after 1 ms without use; a flush uses it. -/
def execIslandStop (island : Nat) (s : State) : Host.Outcome State Fault Refusal :=
  s.ends (
    if (island ≠ 26 ∧ island ≠ 27) ∨ !s.islandRuns island ∨ s.core.now < (s.island island).lastUse + 10 ^ 6 ∨ s.peat.flushing ∨ !s.core.jrn.flushing.isEmpty then s
    else { s with pwr := { s.pwr with islands := Tbl.put s.pwr.islands island { s.island island with running := false } } })

end Sys2Proof.Machine
end

