-- ==== Sys2Proof/Machine/Session.lean ====
section
/-! DEFINITION. Doorbells, NOP, NEGOTIATE, the control block of PF slice 0 and the dispatch pairs (R48, R55 to R75, R109 to R112, R638). -/

namespace Sys2Proof.Machine

/-! ## DOORBELL -/

/-- The fields SUB_BASE to VECTORS of a slice's control block (Table 3.2). -/
def Core.readRings (c : Core) (inst : Nat) (sl : Slice) : Rings :=
  let bs := c.rd2 inst sl.cb 0x34
  let at8 (o : Nat) : Nat := ofLe ((bs.drop o).take 8)
  let at4 (o : Nat) : Nat := ofLe ((bs.drop o).take 4)
  { subBase := at8 0, cmpBase := at8 8, stsBase := at8 0x10, fltBase := at8 0x18, sizes := at4 0x20, vectors := at4 0x30 }

/-- The submission and completion rings are usable (R110): sizes within R55 and R57, bases aligned. -/
def ringsUsable (r : Rings) : Bool :=
  let sl := fld r.sizes 4 0
  let cl := fld r.sizes 12 8
  decide (12 ≤ sl) && decide (sl ≤ 20) && ringSizeOk cl && r.subBase % 2 ^ sl == 0 && r.cmpBase % 2 ^ cl == 0

/-- The status and fault rings are usable (R110). -/
def ringsUsable2 (r : Rings) : Bool :=
  let tl := fld r.sizes 20 16
  let fl := fld r.sizes 28 24
  ringSizeOk tl && ringSizeOk fl && r.stsBase % 2 ^ tl == 0 && r.fltBase % 2 ^ fl == 0

/-- Reads packets from offset off up to the tail, in ring order; a packet whose LENGTH is bad or reaches past the tail is the last, with no length (R55, R56, step 2). -/
def Core.readPackets (inst : Nat) (sl : Slice) (size tail : Nat) : Nat → Core → Nat → Core × Except (Nat × Nat) (List Packet)
  | 0, c, _ => (c, .ok [])
  | f + 1, c, off =>
    if off = tail then (c, .ok [])
    else if size - off < 16 then Core.readPackets inst sl size tail f c 0
    else
      let limit := if off < tail then tail else size
      match Core.dmaRead inst sl 16 c (sl.rings.subBase + off) with
      | (c1, .error e) => (c1, .error e)
      | (c1, .ok hd) =>
        let len := ofLe ((hd.drop 4).take 2)
        if len < 2 ∨ 512 < len ∨ limit < off + 8 * len then (c1, .ok [{ pkOfBytes hd with length := 0 }])
        else
          match Core.dmaRead inst sl (8 * len) c1 (sl.rings.subBase + off) with
          | (c2, .error e) => (c2, .error e)
          | (c2, .ok bs) =>
            match Core.readPackets inst sl size tail f c2 ((off + 8 * len) % size) with
            | (c3, .error e) => (c3, .error e)
            | (c3, .ok ps) => (c3, .ok (pkOfBytes bs :: ps))

/-- The control block address a slice uses: that of PF slice 0 is its register's value while it has no session (R638). -/
def Core.cbOf (c : Core) (inst idx : Nat) (sl : Slice) : Nat := if inst = 0 ∧ idx = 0 ∧ sl.ver = 0 then c.slice0Cb else sl.cb

/-- A doorbell write on a slice that exists and neither drains nor is halted (R110 to R112). -/
def Core.ring (c : Core) (inst idx : Nat) (sl0 : Slice) (tail : Nat) : Core :=
  let cb := c.cbOf inst idx sl0
  if cb = 0 ∨ cb % 4096 ≠ 0 then c
  else
    let sl1 := { sl0 with cb := cb }
    let sl := if sl1.ver = 0 then { sl1 with rings := { c.readRings inst sl1 with vectors := sl1.rings.vectors } } else sl1
    if !ringsUsable sl.rings then c
    else
      let size := 2 ^ fld sl.rings.sizes 4 0
      let c1 : Core := { c with slices := Tbl.put c.slices (sliceKey inst idx) sl }
      if tail % 8 ≠ 0 ∨ size ≤ tail then c1.halt inst idx tail
      else
        match Core.readPackets inst sl size tail (size / 8 + 2) c1 sl.tail with
        | (c2, .error e) => (c2.dtuFault inst idx e.1 e.2 false).halt inst idx sl.subHead
        | (c2, .ok ps) => c2.updSlice inst idx (fun s => { s with tail := tail, visible := s.visible ++ ps })

/-- DOORBELL (R111): software's own writes to host memory become visible with it (log entry 13); then packets up to the tail are visible, and front packets that fail steps 1 to 6 are disposed of. -/
def execDoorbell (inst idx tail : Nat) (stores : List Host.Cell) (s : State) : Host.Outcome State Fault Refusal :=
  let s1 := s.mapCore (fun c => { c with host := stores.foldl (fun m e => Memory.wr m e.1 e.2) c.host })
  s.ends (match s1.core.slice inst idx with
    | none => s1
    | some sl =>
      if sl.st = .draining ∨ sl.st = .halted then s1
      else
        let s2 := s1.mapCore (fun c => c.ring inst idx sl (fld tail 19 0))
        State.settle ((s2.core.slice inst idx).elim 0 (fun t => t.visible.length)) s2 inst idx)

/-- MGT_SLICE0_CB_WRITE (R638). -/
def execMgtSlice0CbWrite (value : Nat) (s : State) : Host.Outcome State Fault Refusal :=
  s.ends (s.mapCore (fun c => { c with slice0Cb := value % 2 ^ 64 }))

/-! ## NOP and NEGOTIATE -/

/-- UNIT of NOP and NEGOTIATE: the issuing slice, or the device with its own POS (R72). -/
def atSliceOrDevice (s : State) (w : Who) (p : Packet) : Bool :=
  pkUnit p == s.core.pos * 2 ^ 28 || pkUnit p == s.core.pos * 2 ^ 28 + sliceUnit w.inst w.slice

/-- NOP (R75): changes nothing and is served. -/
def cmdNop : Cmd :=
  { opcode := 0x0000, forms := .setOnly, secure := false, always := false, form := fun _ _ _ => true, qform := bufForm, unitOk := atSliceOrDevice, may := anyone,
    active := fun _ _ => true, check := noCheck, run := noRun, ask := noAsk }

/-- NOP. -/
def execNop (port : Port) (s : State) : Host.Outcome State Fault Refusal := s.ends (cmdNop.exec port s)

/-- The version that R73 chooses within a range: the highest the device supports. -/
def chooseVersion (minV maxV : Nat) : Option Nat :=
  [0x20, 0x13, 0x12, 0x11, 0x10].find? (fun v => decide (minV ≤ v) && decide (v ≤ maxV))

/-- The classes of Table 1.9 other than 0xFF (R74). -/
def deviceClasses : List Nat :=
  [0x00, 0x01, 0x02, 0x08, 0x10, 0x11, 0x12, 0x20, 0x21, 0x22, 0x23, 0x24, 0x30, 0x40, 0x41, 0x42, 0x50, 0x51, 0x52, 0x53, 0x60, 0x61, 0x62, 0x70, 0x71, 0x72, 0x73, 0x74,
   0x80, 0x81, 0x90, 0x91, 0xA0, 0xA1, 0xF0, 0xF1, 0xF2, 0xF3, 0xF4, 0xF5, 0xF6, 0xF7, 0xF8, 0xF9, 0xFA, 0xFB, 0xFC, 0xFD, 0xFE]

/-- The interface table of R74. -/
def classTable : List Byte := (List.range 256).map (fun n => if deviceClasses.contains n then 0x20 else 0)

/-- The session part of NEGOTIATE (R72 to R75, R110). -/
def negotiateRun (s : State) (w : Who) (p : Packet) : Verdict :=
  match s.core.slice w.inst w.slice with
  | none => .done s (Rsp.plain .rejectedPermission)
  | some sl =>
    if sl.ver ≠ 0 ∧ 1 < sl.outstanding then .delayed s (Rsp.plain .delayedUnitBusy) (.unit (sliceUnit w.inst w.slice)) false
    else
      match chooseVersion (pkF p 0 7 0) (pkF p 0 15 8) with
      | none => .done s (Rsp.plain .rejectedVersion)
      | some v =>
        let rings := if sl.ver = 0 then s.core.readRings w.inst sl else sl.rings
        let s1 := s.mapCore (fun c => (c.updSlice w.inst w.slice (fun t => { t with st := .session, ver := v, rings := rings })).syncCb w.inst w.slice)
        let r := Rsp.ok (0x2000 + v) 49 0
        if pkW p 1 = 0 then .done s1 r
        else
          let a := s1.answer w (pkW p 1) classTable r
          .done a.1 a.2

/-- NEGOTIATE (R72): well-formedness includes the rings of a slice whose session it opens (R110). -/
def cmdNegotiate : Cmd :=
  { opcode := 0x0001, forms := .setOnly, secure := false, always := false,
    form := fun s w p => pkLen p 2 && fld (pkW p 0) 63 16 == 0 && multOf 256 (pkW p 1) &&
      (s.core.slice w.inst w.slice).elim false (fun sl => sl.ver != 0 || ringsUsable2 (s.core.readRings w.inst sl)),
    qform := bufForm, unitOk := atSliceOrDevice, may := anyone, active := fun _ _ => true,
    check := fun _ _ p => if (chooseVersion (pkF p 0 7 0) (pkF p 0 15 8)).isSome then none else some (Rsp.plain .rejectedVersion),
    run := negotiateRun, ask := noAsk }

/-- NEGOTIATE. -/
def execNegotiate (port : Port) (s : State) : Host.Outcome State Fault Refusal := s.ends (cmdNegotiate.exec port s)

/-! ## Dispatch pairs -/

/-- DISPATCH_LOCKSTEP_FAIL (R48): a mismatch in the active pair hands the work to the other; what waits keeps its journal sequence. Both pairs failed is a fatal error (R550), for which FATAL_ERROR stands ready. -/
def execDispatchLockstepFail (pair : Nat) (s : State) : Host.Outcome State Fault Refusal :=
  s.ends (if 2 ≤ pair ∨ s.lnk.failedPairs.contains pair then s
    else { s with lnk := { s.lnk with failedPairs := s.lnk.failedPairs ++ [pair], activePair := (if s.lnk.activePair = pair then 1 - pair else s.lnk.activePair) } })

end Sys2Proof.Machine
end

