-- ==== Sys2Proof/Machine/Admission.lean ====
section
/-! DEFINITION. The admission decision (R126 to R134): shares take effect, waiting commands run again, engine time is granted in rank, band D limits. -/

namespace Sys2Proof.Machine

/-- Every packet command. -/
def allCmds : List Cmd :=
  [
    cmdAudModeSet, cmdAudSourceOpen, cmdAudSourceClose, cmdAudBusSet, cmdAudSinkSet, cmdAudApply, cmdAudTdmSet, cmdAudAssign, cmdAudHeadsetSet, cmdAudStatus, cmdCompatMap,
    cmdCompatSurfaceRegister, cmdCompatSurfaceFree, cmdCompatSurfaceCopy, cmdCompatSurfacePalette, cmdCompatLayerCommit, cmdCompatLayerPost, cmdCompatLayerRemove,
    cmdCompatOutputStatus, cmdCompatAudSourceOpen, cmdCompatAudSourceClose, cmdCompatAudSinkGain, cmdCompatJournalTail, cmdCompatJournalSync, cmdLayerCommit, cmdLayerPost,
    cmdLayerRemove, cmdFrondApply, cmdScalerCoefLoad, cmdToneLoad, cmdFrondSet, cmdGroupLayerSet, cmdGroupLayerMember, cmdGroupLayerCompose, cmdGroupCreate,
    cmdGroupMember, cmdGroupDestroy, cmdUnitReset, cmdHapChannelSet, cmdHapEffectSet, cmdHapPlay, cmdHapStop, cmdHapTouchBind, cmdHapScan, cmdHapClear, cmdHapStatus,
    cmdStreamOpen, cmdStreamClose, cmdIngestAssign, cmdStreamDeclare, cmdStreamStatus, cmdStreamRoute, cmdIngestPortSet, cmdPtpSet, cmdJournalTail, cmdJournalStatus,
    cmdJournalSync, cmdJournalExportBegin, cmdJournalExportRead, cmdJournalExportAck, cmdTagCreate, cmdTagSet, cmdTagRetire, cmdRefresh, cmdTagGroupSet, cmdRegionCreate, cmdRegionBind,
    cmdRegionRemove, cmdLedgerStatus, cmdOutputPrepare, cmdOutputCommit, cmdOutputCancel, cmdOutputRefresh, cmdOutputGenlock, cmdOutputStatus, cmdWritebackSet,
    cmdPatrolStatus, cmdFrondStandin, cmdPeatFormat, cmdPeatStatus, cmdPeatCapture, cmdPeatCaptureRead, cmdPeatRetainSet, cmdPeatUpdateWrite, cmdPeatUpdateCommit,
    cmdPeatActivate, cmdPeatDumpRead, cmdPeatLogRead, cmdPwrReset, cmdPwrDomainSet, cmdPwrStatus, cmdPwrAvsSet, cmdPwrThermalSet, cmdPwrSensorRead, cmdPwrShutdown,
    cmdRasterJob, cmdRasterCancel, cmdRasterCombinerLoad, cmdRasterStatus, cmdWallSet, cmdRhzPortSet, cmdWallStatus, cmdSecSessionOpen, cmdSecSessionClose, cmdAttest,
    cmdMeasureRead, cmdApprovedSet, cmdRegulatedSet, cmdKeyLoad, cmdLeaseSet, cmdTamperSet, cmdTamperClear, cmdSecStatus, cmdDebugStatus, cmdDebugClose, cmdNop,
    cmdNegotiate, cmdSigRegionSet, cmdSigRegionRemove, cmdSigExpect, cmdSigClear, cmdSigStatus, cmdChkScan, cmdChkCancel, cmdChkStatus, cmdPoolSet, cmdSurfaceRegister,
    cmdSurfaceFree, cmdSurfaceCopy, cmdSurfaceMap, cmdSurfaceUnmap, cmdSurfaceMirror, cmdSurfacePalette, cmdSurfaceGrant, cmdSliceCreate, cmdSliceReset, cmdSliceDestroy,
    cmdInstanceReset, cmdShareSet, cmdAdmissionStatus, cmdDtuInvalidate, cmdStage2Set, cmdTouchSurfaceSet, cmdTouchRegionSet, cmdTouchHandover, cmdTouchSubscribe,
    cmdTouchRebase, cmdTouchStatus
  ]

/-- The command of an opcode. -/
def cmdOf (op : Nat) : Option Cmd := allCmds.find? (fun c => c.opcode == op)

/-! ## Commands that wait for something other than engine time -/

/-- Puts a command back among those that wait. -/
def State.oweAgain (s : State) (o : Owed) : State := s.mapCore (fun c => { c with owed := c.owed ++ [o] })

/-- Runs a waiting command again (R67): it stays as it was where it must wait for the same thing. -/
def State.rerun (s : State) (o : Owed) : State :=
  let s0 := s.mapCore (fun c => { c with owed := c.owed.erase o })
  match cmdOf o.op with
  | none => s
  | some c =>
    if o.wait = .journalRoom then (if s.journalAdmits o.op then c.accept s0 o.who o.pk else s)
    else
      match c.check s0 o.who o.pk with
      | some r => s0.finish o r
      | none =>
        match c.run s0 o.who o.pk with
        | .done t r => t.finish o r
        | .silent t w => if w = o.wait then s else t.oweAgain { o with wait := w, started := true }
        | .delayed t _ w started => if w = o.wait then s else t.oweAgain { o with wait := w, started := started }

/-- A command that waits for a unit, a lease, the SEC or the journal, and has not begun. -/
def Owed.asks (o : Owed) : Bool :=
  match o.wait with
  | .unit _ => !o.started
  | .lease _ => !o.started
  | .secRestart => true
  | .journalRoom => true
  | _ => false

/-- A command of the SEC's port, or any, runs again once the SEC does (R523). -/
def State.mayRerun (s : State) (o : Owed) : Bool := o.asks && (o.wait != .secRestart || s.sec.run == .running)

/-- Waiting commands in order, those of the SEC's port first. -/
def State.rerunAll (s : State) : State :=
  let os := s.core.owed.filter s.mayRerun
  (os.filter (fun o => o.who.secure) ++ os.filter (fun o => !o.who.secure)).foldl State.rerun s

/-! ## Shares (R132 to R134) -/

/-- A command of a band that an instance lost: engine time, or a layer commit that waits. -/
def Owed.ofBand (o : Owed) (inst band : Nat) : Bool :=
  !o.who.secure && o.who.inst == inst &&
  (match o.wait with
    | .share _ b => b == band
    | .unit _ => !o.started && o.op == 0x0300 && pkF o.pk 0 41 40 == band
    | _ => false)

/-- Every queued command of a band that was removed is refused (R133). -/
def State.refuseBand (s : State) (inst band : Nat) : State :=
  let js := s.ras.jobs.filter (fun j => j.who.inst == inst && j.band == band && !j.admitted)
  (js.foldl (fun t j => t.endJob j (Rsp.code .refusedShare 3)) s).finishWhere (fun o => o.ofBand inst band) (fun _ => Rsp.code .refusedShare 3)

/-- A record takes effect: tokens count at the old rate until now (R130), WEIGHT of the PF is SLOT_PF_WEIGHT (R122), bands removed lose their queue (R133), and the manager receives SHARE_APPLIED. -/
def State.applyShare (s : State) (inst : Nat) (sh : Share) : State :=
  let old := (s.core.share inst).elim 0 Share.bands
  let s1 := s.mapCore (fun c => { c.refill inst with shares := Tbl.put c.shares inst sh, sharesPending := Tbl.del c.sharesPending inst })
  let s2 : State := if inst = 0 then { s1 with mem := { s1.mem with devWeight := Tbl.put s1.mem.devWeight 7 sh.weight } } else s1
  let s3 := (List.range 4).foldl (fun t b => if bitOf old b && !bitOf sh.bands b then t.refuseBand inst b else t) s2
  s3.mapCore (fun c => c.notify 0x0005 inst (uid 0x01 inst 0) [])

/-- Records that wait take effect, but for instances that drain (R132, R134). -/
def State.applyShares (s : State) : State :=
  let due := s.core.sharesPending.filter (fun e => s.isActive (uid 0x01 e.1 0) && !Tbl.has s.core.resets (uid 0x01 e.1 0))
  if due.isEmpty then s else (due.foldl (fun t e => t.applyShare e.1 e.2) s).rebuildSlots

/-! ## Engine time (R126 to R129) -/

/-- Work that waits for an engine: a raster job by its work number, or a command. -/
inductive AdmWork where
  | job (n : Nat)
  | cmd (o : Owed)
  deriving DecidableEq, Repr

/-- Work with its instance, band and the time it began to wait. -/
structure AdmItem where
  work : AdmWork
  inst : Nat
  band : Nat
  since : Nat
  deriving DecidableEq, Repr

/-- What waits for an engine: 0 raster, 1 pre-compose; in the order it came. -/
def State.admItems (s : State) (res : Nat) : List AdmItem :=
  let since (n : Nat) : Nat := ((s.core.owed.find? (fun o => o.wait == .work n)).map Owed.since).getD s.core.now
  (if res = 0 then (s.ras.jobs.filter (fun j => j.holds && !j.admitted && !j.stopped)).map (fun j => { work := .job j.work, inst := j.who.inst, band := j.band, since := since j.work }) else []) ++
  s.core.owed.filterMap (fun o => match o.wait with
    | .share r b => if r = res then some { work := .cmd o, inst := o.who.inst, band := b, since := o.since } else none
    | _ => none)

/-- The rank of R126: 0 band A within its reservation, 2 band A and 3 band B beyond, 4 band C, 5 band D. No engine has a band B reservation. -/
def State.admRank (s : State) (res : Nat) (i : AdmItem) : Nat :=
  match i.band with
  | 0 => if s.usedBy res i.inst 0 < (s.core.share i.inst).elim 0 (fun sh => sh.engine res true) then 0 else 2
  | b => 2 + b

/-- Tries to take an item. -/
def State.admitItem (s : State) (i : AdmItem) : State :=
  match i.work with
  | .job n => s.admitJob n
  | .cmd o => s.rerun o

/-- Serves what waits for an engine in rank; within a rank the instances take turns by WEIGHT, each oldest first. -/
def State.serve (res : Nat) : Nat → List AdmItem → State → State
  | 0, _, s => s
  | f + 1, items, s =>
    match (items.map (s.admRank res)).min? with
    | none => s
    | some k =>
      let top := items.filter (fun i => s.admRank res i == k)
      let cs := ((top.map AdmItem.inst).mergeSort (fun a b => decide (a ≤ b))).eraseDups
      match drrPick s.weightOf (res * 8 + k) cs s.core.deficits with
      | none => s
      | some (inst, d) =>
        match top.find? (fun i => i.inst == inst) with
        | none => s
        | some i => State.serve res f (items.erase i) ((s.mapCore (fun c => { c with deficits := d })).admitItem i)

/-- Refuses an item that is over its band D limit (R129). -/
def State.refuseItem (s : State) (i : AdmItem) (cause : Nat) : State :=
  match i.work with
  | .job n => (s.rjob n).elim s (fun j => s.endJob j (Rsp.code .refusedShare cause))
  | .cmd o => s.finishWhere (fun x => x == o) (fun _ => Rsp.code .refusedShare cause)

/-- The band D limits of an instance: the newest goes for depth, the oldest for age (R129). -/
def State.limitD (inst : Nat) : Nat → State → State
  | 0, s => s
  | f + 1, s =>
    let ds := ((s.admItems 0 ++ s.admItems 1).filter (fun i => i.inst == inst && i.band == 3)).mergeSort (fun a b => decide (a.since ≤ b.since))
    match s.core.share inst, ds.head?, ds.getLast? with
    | some sh, some a, some z =>
      if sh.dDepth < ds.length then State.limitD inst f (s.refuseItem z 1)
      else if a.since + sh.dAge * 10 ^ 7 < s.core.now then State.limitD inst f (s.refuseItem a 2)
      else s
    | _, _, _ => s

/-- The band C delay of each instance in frames (R131). -/
def State.noteDelays (s : State) : State :=
  let items := (s.admItems 0 ++ s.admItems 1).filter (fun i => i.band == 2)
  let delay (inst : Nat) : Nat := (items.filter (fun i => i.inst == inst)).foldl (fun m i => max m (s.lateFrames inst i.since)) 0
  s.mapCore (fun c => { c with adm := (Tbl.keys c.shares).foldl (fun t i =>
    if delay i = (Tbl.at t AdmCount.zero i).bandCDelay then t else Tbl.put t i { Tbl.at t AdmCount.zero i with bandCDelay := delay i }) c.adm })

/-- One decision: shares, waiting commands, both engines in rank, band D limits, delays; then packets at the front of each ring that fail steps 1 to 6. -/
def State.runAdmission (s : State) : State :=
  let s1 := s.applyShares.rerunAll
  let s2 := [0, 1].foldl (fun t res => State.serve res (t.admItems res).length (t.admItems res) t) s1
  let s3 := (Tbl.keys s2.core.shares).foldl (fun t i => State.limitD i ((t.admItems 0).length + (t.admItems 1).length) t) s2
  let s4 := s3.noteDelays
  (Tbl.keys s4.core.slices).foldl (fun t k => State.settle ((t.core.slice (k / 256) (k % 256)).elim 0 (fun sl => sl.visible.length)) t (k / 256) (k % 256)) s4

/-- ADMISSION_DECISION (R126 to R134). -/
def execAdmissionDecision (s : State) : Host.Outcome State Fault Refusal := s.ends s.runAdmission

end Sys2Proof.Machine
end

