-- ==== Sys2Proof/Machine/Registers.lean ====
section
/-! DEFINITION. The register spaces of chapter 20: what each register reads, what a write does, 64-bit reads and debug space (R620 to R634). -/

namespace Sys2Proof.Machine

/-- The index of an array element at an offset (R622). -/
def arr (o base stride n : Nat) : Option Nat := if base ≤ o ∧ (o - base) % stride = 0 ∧ (o - base) / stride < n then some ((o - base) / stride) else none

/-- One register at an offset. -/
def one (o base : Nat) (v : Nat) : Option Nat := if o = base then some v else none

/-- The register that is there; an undefined offset reads 0 (R621). -/
def pickReg (l : List (Option Nat)) : Nat := (l.findSome? id).getD 0

/-- The word of a byte area at an offset. -/
def areaWord (bs : List Byte) (o : Nat) : Nat := ofLe ((bs.drop o).take 4)

/-- A field of an MSI-X vector (PCIe): address, upper address, data, mask. -/
def Core.msixWord (c : Core) (inst o : Nat) : Nat :=
  let m := Tbl.at c.msix { addr := 0, data := 0, masked := true } (inst * 256 + o / 16)
  match o % 16 / 4 with
  | 0 => m.addr % 2 ^ 32
  | 1 => m.addr / 2 ^ 32
  | 2 => m.data
  | _ => b2n m.masked

/-- A word of the pending bits of a function. -/
def Core.pbaWord (c : Core) (inst o : Nat) : Nat := bitsNum ((List.range 32).map (fun b => c.pba.contains (inst * 256 + 8 * o + b)))

/-! ## What Canvas registers read (Table 20.3) -/

/-- MEMx_STATUS (Table 4.9). -/
def MemGroup.status (m : MemGroup) : Nat :=
  m.st.code * 2 ^ 28 + m.frzCause * 2 ^ 24 + m.frzChannel * 2 ^ 21 + m.frzPort % 32 * 2 ^ 16 + m.chTrained * 256 + b2n m.retrainLate * 128 + b2n m.ceStorm * 64 + b2n m.latentUe * 32

/-- MEMx_CFG (Table 20.5). -/
def MemGroup.cfg (m : MemGroup) : Nat := b2n m.lock * 2 ^ 31 + m.maxSleep * 32 + m.grain

/-- A region of a controller. -/
def rgnAt (t : Tbl Region) (n : Nat) : Region := Tbl.at t { base := 0, limit := 0, attr := 0 } n

/-- BASE, LIMIT or ATTR of a region by its place in the entry. -/
def Region.word (r : Region) (k : Nat) : Nat := match k with | 0 => r.base | 1 => r.limit | 2 => r.attr | _ => 0

/-- A memory group's block. -/
def MemGroup.reg (m : MemGroup) (o : Nat) : Nat :=
  pickReg [one o 0 m.status, one o 4 m.cfg, one o 0xC m.tolerance, one o 0x10 m.idleNs, one o 0x14 m.retrainMs, one o 0x18 m.scrubPeriod, one o 0x1C m.ceLimit, one o 0x20 m.cfgWrDrop, one o 0x24 m.rgnViol,
    one o 0x28 m.rgnLockedWr, one o 0x38 m.frzInst, one o 0x48 (b2n m.rgnLock * 2 ^ 31 + b2n m.enforce), (arr o 0x100 4 8).map (Tbl.cnt m.ceCount),
    (arr o 0x400 4 256).map (fun k => (rgnAt m.rgn (k / 4)).word (k % 4)), (arr o 0x800 4 256).map (fun k => m.badPages.getD k 0)]

/-- A frond's block (Tables 6.7 to 6.9, 7.11, 7.12, 20.5). -/
def State.frondReg (s : State) (f o : Nat) : Nat :=
  match s.frond f with
  | none => 0
  | some fr =>
    let out := s.outOf f
    let eff := out.elim fr.offset (fun e => if e.2.period / 65536 = 0 then fr.offset else min fr.offset (e.2.period / 65536000 - 200))
    let tg := out.elim 0 (fun e => e.2.lock * 2 ^ 30 + fr.line % 2 ^ 16 * 2 ^ 14 + enc 14 (clampI (-8192) 8191 (e.2.phaseErr / 10)))
    pickReg [one o 0 (b2n fr.fullMirror * 2 ^ 12 + fr.bands * 256 + b2n fr.enable), one o 4 (eff * 65536 + fr.offset), one o 8 (fr.entB * 65536 + fr.entA),
      one o 0xC (min 2047 (s.demand f 1) * 65536 + min 2047 (s.demand f 0)), one o 0x10 tg, one o 0x14 (fr.tolerance * 65536 + min 255 (fr.cushion / 1024)), one o 0x18 (b2n fr.panic * 2 ^ 31 + fr.panicLevel),
      one o 0x1C (fr.flagLine * 65536 + fr.flagStages), one o 0x20 fr.bg, one o 0x40 fr.repeats, one o 0x44 fr.drops, one o 0x48 fr.stsLost, one o 0x4C fr.underrun, one o 0x50 fr.wbAbort, one o 0x54 fr.tbcErr,
      (arr o 0x80 4 16).map (fun k => (Tbl.find fr.wbLast (k / 4)).elim 0 (fun e => match k % 4 with | 0 => e.1 % 2 ^ 32 | 1 => s.core.here e.2.1 | _ => 0))]

/-- RAS_CORE_STATUS (Table 10.11). -/
def State.coreStatus (s : State) (c : Nat) : Nat :=
  if s.domSt 1 != .on then 3 * 2 ^ 30
  else (Tbl.find s.ras.cores c).elim 0 (fun k => (if k.flush then 2 else 1) * 2 ^ 30 + ((s.ras.jobs.find? (fun j => j.work == k.work)).elim 0 (fun j => j.who.inst)) * 2 ^ 24 + k.tile % 2 ^ 18)

/-- A receiver's registers. -/
def State.recvReg (s : State) (o : Nat) : Nat :=
  let r (f : Recv → Nat) (n : Nat) : Nat := (Tbl.find s.ing.recvs n).elim 0 f
  pickReg [(arr o 0 4 64).map (r Recv.status), (arr o 0x100 4 64).map (r Recv.cause), (arr o 0x200 4 64).map (r Recv.badFrames), (arr o 0x300 4 64).map (r Recv.noBuffer), (arr o 0x400 4 64).map (r Recv.stampFallback),
    (arr o 0x800 4 128).map (fun k => r (fun x => x.pathLost.getD (k % 2) 0) (k / 2))]

/-- The 64-bit Canvas register whose lower word lies at an offset. -/
def State.canvas64 (s : State) (off : Nat) : Option Nat :=
  let o := off % 0x10000
  match off / 0x10000 with
  | 3 => (one o 0 s.core.mboxUp).or ((one o 8 s.core.mboxDown).or (one o 0x20 s.core.slice0Cb))
  | 5 => (one o 0x30 s.mem.a.frzAddr).or ((one o 0x40 (s.mem.a.rgnViolAddr.getD 0)).or ((arr o 0x1000 8 256).map (Tbl.cnt s.mem.a.frzQueue)))
  | 6 => (one o 0x30 s.mem.b.frzAddr).or ((one o 0x40 (s.mem.b.rgnViolAddr.getD 0)).or ((arr o 0x1000 8 256).map (Tbl.cnt s.mem.b.frzQueue)))
  | 12 => ((arr o 0x100 8 40).map (fun e => (s.engine e).run)).or ((arr o 0x300 8 40).map (fun e => (s.engine e).bytes))
  | _ => none

/-- A 32-bit Canvas register. -/
def State.canvas32 (s : State) (off : Nat) : Nat :=
  let o := off % 0x10000
  let c := s.core
  match off / 0x10000 with
  | 0 => pickReg [one o 0 0x884000B0, one o 4 s.srf.apertureMiss, one o 8 s.reg.wrIgnored, (arr o 0x8000 4 1024).map (fun k => c.msixWord 0 (4 * k)), (arr o 0xC000 4 8).map (fun k => c.pbaWord 0 (4 * k))]
  | 1 => pickReg [one o 4 c.dtuFaults]
  | 2 => pickReg [(arr o 0 4 64).map (Tbl.cnt c.admJrnWait), (arr o 0x100 4 64).map (Tbl.cnt c.discGen), (arr o 0x200 4 64).map (Tbl.cnt c.discReset), (arr o 0x300 4 64).map (Tbl.cnt c.fltLost), (arr o 0x400 4 256).map (Tbl.cnt c.discClass)]
  | 3 => pickReg [one o 0x10 c.upHead, one o 0x14 (c.waitingN.length + c.keptN.length), one o 0x18 c.mboxLost]
  | 4 => pickReg [one o 0 (s.srf.inUse * 0x10000 + s.srf.peak), one o 4 s.srf.fullWait, (arr o 0x100 4 64).map (Tbl.cnt s.srf.dropCount)]
  | 5 => s.mem.a.reg o
  | 6 => s.mem.b.reg o
  | 7 =>
    let m := s.group (o / 0x8000)
    let r := o % 0x8000
    pickReg [one o 0xF000 (Tbl.at s.mem.devWeight 256 7), (arr o 0xF100 4 7).map (fun k => Tbl.at s.mem.devWeight (devWeights.getD k 16) k), (arr r 0 4 1024).map (Tbl.cnt m.slots), (arr r 0x1000 4 192).map m.ownerInfo,
      (arr r 0x1400 4 32).map (Tbl.cnt m.prio)]
  | 8 => if o = 0xF000 then s.frd.patrol.word else if o = 0xF004 then s.frd.patrol.mismatch else s.frondReg (o / 0x1000) (o % 0x1000)
  | 9 => pickReg [(arr o 0 4 8).map (fun n => (s.out n).elim 0 Outp.xbar), (arr o 0x8000 4 8).map (fun n => (s.out n).elim 0 Outp.dptx)]
  | 10 => pickReg [one o 0 s.ras.status, (arr o 0x10 4 4).map s.coreStatus, one o 0x40 s.ras.guardDrop, one o 0x44 s.ras.hsrSkip, one o 0x48 s.ras.passSplit, one o 0x4C s.ras.flushCount, one o 0x50 s.ras.tbcErr,
      one o 0x8000 s.frd.pcmPasses, one o 0x8004 s.frd.pcmTbcErr]
  | 11 => s.recvReg o
  | 12 => pickReg [(arr o 0 4 40).map s.chkWord]
  | 13 => pickReg [one o 0 s.lnk.status, one o 4 s.lnk.replayCount, one o 8 s.lnk.crcErr, one o 0xC s.lnk.authFail, one o 0x10 s.lnk.osuDrop]
  | 14 => pickReg [one o 0 s.rhzStatus, (arr o 0x10 4 2).map (fun p => (Tbl.find s.rhz.ports p).elim 0 RPort.status), (arr o 0x20 4 2).map (Tbl.cnt s.rhz.replayCount), (arr o 0x28 4 2).map (Tbl.cnt s.rhz.crcErr), one o 0x30 c.fwdLost,
      one o 0x34 s.rhz.videoDrop]
  | 15 => pickReg [(arr o 0 4 16384).map (Tbl.cnt c.jrnReject)]
  | _ => 0

/-- The upper word of a 64-bit Canvas register lies at an offset. -/
def State.upperWord (s : State) (off : Nat) : Bool := decide (4 ≤ off) && (s.canvas64 (off - 4)).isSome

/-- What a Canvas register reads: the upper word of a 64-bit register is the one latched (R621). -/
def State.canvasReg (s : State) (off : Nat) : Nat :=
  match s.canvas64 off with
  | some v => v % 2 ^ 32
  | none => if s.upperWord off then Tbl.cnt s.reg.latch off else s.canvas32 off

/-- The MEMx_RGN entry at a Canvas offset: group, region, part. -/
def rgnEntry (off : Nat) : Option (Nat × Nat × Nat) :=
  if off / 0x10000 = 5 ∨ off / 0x10000 = 6 then (arr (off % 0x10000) 0x400 4 256).bind (fun k => if k % 4 = 3 then none else some (off / 0x10000 - 5, k / 4, k % 4)) else none

/-- The Canvas registers that are secure-class-only (R630): MEMx_RGN_ATTR of a SEC_OWNED entry. -/
def State.canvasSecure (s : State) (off : Nat) : Bool :=
  match rgnEntry off with
  | some (g, n, 2) => bitOf (rgnAt (s.group g).rgn n).attr 30
  | _ => false

/-! ## What Warden registers read (Table 20.4) -/

/-- A public key slot of SEC_KEY_INFO, with CERTIFIED in bit 7 of byte 96. -/
def State.keySlot (s : State) (n : Nat) : List Byte :=
  match n with
  | 0 => fit 128 (ecPublic s.fix.identityKey)
  | 1 => fit 128 (ecPublic s.sec.sealKey)
  | m + 2 => if m < 4 then fit 128 (Tbl.at s.sec.operatorKeys [] m) else (Tbl.find s.sec.sessionKeys (m - 4)).elim (List.replicate 128 0) (fun k => fit 96 k.key ++ [if k.certified then 0x80 else 0] ++ List.replicate 31 0)

/-- The SEC block. -/
def State.secReg (s : State) (o : Nat) : Nat :=
  let x := s.sec
  pickReg [one o 0 s.secMode, one o 4 (b2n x.bootHalted * 2 ^ 31 + x.bootCode), one o 0xC x.worldDeny, one o 0x10 x.lockedWr, one o 0x14 (x.nmDropped * 65536 + x.nmbox.length), (arr o 0x40 4 16).map (Tbl.cnt x.measCount),
    (arr o 0x800 4 256).map (fun k => if k % 16 < 12 then areaWord (s.measOf (k / 16)) (4 * (k % 16)) else 0), (arr o 0x1000 4 128).map (fun k => (rgnAt x.sramRgn (k / 4)).word (k % 4)),
    (arr o 0x2000 4 8).map (Tbl.cnt x.tamperCfg), one o 0x2020 (bitsNum ((List.range 8).map x.tamperLatched.contains)), (arr o 0x3000 4 448).map (fun k => areaWord (s.keySlot (k / 32)) (4 * (k % 32))),
    (arr o 0x4000 4 4096).map (fun k => (Config.identityChain k).toNat)]

/-- The ledger block: status, counters and the veil's palette, style and badges. -/
def State.ledReg (s : State) (o : Nat) : Nat :=
  let l := s.led
  pickReg [one o 0 s.ledStatus, one o 4 l.tags.length, one o 8 (b2n l.veilLock), one o 0x10 l.refreshDrop, one o 0x14 l.refreshExpired, one o 0x18 l.lockedWr, (arr o 0x100 4 64).map (Tbl.cnt l.notifyLost), (arr o 0x200 4 9).map (Tbl.cnt l.veilFrames),
    (arr o 0x400 4 16).map (Tbl.at l.palRgb 0), (arr o 0x440 4 16).map (Tbl.at l.palYcc 0x04080200), (arr o 0x480 4 8).map (Tbl.at l.style 0x00080005), (arr o 0x4A0 4 8).map (Tbl.at l.badge 0x10314120)]

/-- The signed-region block. -/
def State.sigReg (s : State) (o : Nat) : Nat :=
  let r (f : SRegion → Nat) (k : Nat) : Nat := (Tbl.find s.led.sregs (k / 64 * 256 + k % 64)).elim 0 f
  pickReg [(arr o 0 4 576).map (r SRegion.word), (arr o 0x1000 4 576).map (r SRegion.faults), one o 0x2000 s.led.sigLate, one o 0x2004 s.led.sigSkipped]

/-- A Warden register. -/
def State.wardenReg (s : State) (off : Nat) : Nat :=
  let o := off % 0x10000
  match off / 0x10000 with
  | 0 => s.ledReg o
  | 1 => s.sigReg o
  | 2 => pickReg [one o 0 s.core.jrn.bufferWait, one o 4 s.core.jrn.eventLost]
  | 3 => pickReg [(arr o 0 4 8).map (fun n => (Tbl.find s.tch.surfs n).elim 0 TSurf.status), (arr o 0x40 4 8).map (Tbl.cnt s.tch.unrouted), (arr o 0x60 4 8).map (Tbl.cnt s.tch.excess), (arr o 0x80 4 8).map (Tbl.cnt s.tch.anomaly),
      (arr o 0xA0 4 6).map (Tbl.cnt s.tch.rfErr), (arr o 0xC0 4 6).map (Tbl.cnt s.tch.rfGap)]
  | 4 =>
    let h (f : HChan → Nat) (n : Nat) : Nat := (Tbl.find s.hap.chans n).elim 0 f
    pickReg [(arr o 0 4 8).map (h HChan.status), (arr o 0x20 4 8).map (h HChan.touchRun), (arr o 0x40 4 8).map (h HChan.trigDrop)]
  | 5 => pickReg [(arr o 0 4 48).map s.srcStatus, one o 0xC0 s.aud.hsStatus, (arr o 0x100 4 48).map (Tbl.cnt s.aud.starve), (arr o 0x200 4 48).map (Tbl.cnt s.aud.slip), (arr o 0x300 4 16).map (Tbl.cnt s.aud.sat),
      (arr o 0x340 4 32).map (Tbl.cnt s.aud.sinkSat), (arr o 0x3C0 4 32).map (Tbl.cnt s.aud.sinkDrop)]
  | 6 => pickReg [one o 0 s.peatStatus, one o 4 (b2n s.peat.retainLock * 2 ^ 31 + s.peat.retainMin), one o 8 s.peat.uncorr, one o 0xC s.peat.rgnViol, one o 0x10 s.peat.disturbLimit, one o 0x14 s.peat.patrolDays, one o 0x18 s.peat.stageMib,
      (arr o 0x40 4 9).map (Tbl.cnt s.peat.attrs)]
  | 7 => s.secReg o
  | 9 => pickReg [one o 0 s.lnk.paceStatus, one o 4 s.domStatus, one o 8 s.shedStatus, one o 0x10 s.pwr.avsCfg, one o 0x14 s.pwr.avsStatus, one o 0x18 s.pwr.thermCfg, one o 0x100 s.ing.ptp.status,
      (arr o 0x200 4 24).map (fun n => Tbl.at s.pwr.vmonLim (Config.vmonLimits n).toNat n), (arr o 0x400 4 96).map (fun n => s.sensorValue n % 65536)]
  | 10 => pickReg [one o 0 s.dbgStatus]
  | _ => 0

/-- The Warden registers that are secure-class-only (Table 20.4). -/
def wardenSecure (off : Nat) : Bool :=
  (decide (0x400 ≤ off) && decide (off < 0x4C0)) || off == 0x60004 || off == 0x60018 || (decide (0x60040 ≤ off) && decide (off < 0x60064)) || off == 0x70000 || off == 0x70008 || (decide (0x70100 ≤ off) && decide (off < 0x70500)) ||
    (decide (0x71000 ≤ off) && decide (off < 0x71200)) || (decide (0x72000 ≤ off) && decide (off < 0x72024)) || off == 0x00008

/-- Secure-class-only registers of which a normal-world read is shown all the same (PF column R). -/
def wardenShown (off : Nat) : Bool := off == 0x70000 || off == 0x72020 || off == 0x00008

/-! ## Where an access goes (R620, R624, R627) -/

/-- A register space and an offset in it. -/
inductive Place where
  | canvas (off : Nat)
  | warden (off : Nat)
  | vf (inst off : Nat)
  | nowhere
  deriving DecidableEq, Repr

/-- Where a requester's offset leads. -/
def placeOf (req : Requester) (off : Nat) : Place :=
  match req with
  | .vf n => if 1 ≤ n ∧ n < 64 ∧ off < 0x10000 then .vf n off else .nowhere
  | .pf => if off < 0x800000 then .canvas off else if off < 0x1000000 then .warden (off - 0x800000) else .nowhere
  | .dispatch => if off < 0x800000 then .canvas off else if off < 0x1000000 then .warden (off - 0x800000) else .nowhere
  | _ => if off < 0x800000 then .warden off else if 0x1000000 ≤ off ∧ off < 0x1800000 then .canvas (off - 0x1000000) else .nowhere

/-- The SEC, or MGMT, reaches a Canvas register over the Lichen link. -/
def overLink (req : Requester) : Bool := req == .mgmt || req == .sec

/-- What an aligned 32-bit read returns, and the state after it: an access over a link that is not UP reads 0 and is counted (R627). -/
def State.read32 (s : State) (req : Requester) (off : Nat) : State × Nat :=
  match placeOf req off with
  | .canvas o =>
    if overLink req && !s.lnk.up then (s.worldDeny, 0)
    else if s.canvasSecure o && req != .sec then (s, 0)
    else if o / 0x10000 = 12 ∧ !overLink req ∧ ((arr (o % 0x10000) 0 4 40).elim false (fun e => decide (32 ≤ e)) || (arr (o % 0x10000) 0x100 4 80).elim false (fun e => decide (64 ≤ e)) || (arr (o % 0x10000) 0x300 4 80).elim false (fun e => decide (64 ≤ e))) then (s, 0)
    else
      match s.canvas64 o with
      | some v => ({ s with reg := { s.reg with latch := Tbl.put s.reg.latch (o + 4) (v / 2 ^ 32 % 2 ^ 32) } }, v % 2 ^ 32)
      | none => (s, s.canvasReg o)
  | .warden o => (s, if wardenSecure o && req != .sec && !wardenShown o then 0 else s.wardenReg o)
  | .vf n o =>
    let c := s.core
    if o = 0x0A04 then (s, b2n (Tbl.at c.vfReply false n) * 2 + b2n (Tbl.at c.vfBusy false n))
    else if 0x0C00 ≤ o ∧ o < 0x1000 then (s.mapCore (fun k => { k with vfReply := Tbl.put k.vfReply n false }), areaWord (fit 1024 (Tbl.at c.vfRsp [] n)) (o - 0x0C00))
    else (s, pickReg [(arr o 0x1000 4 256).map (fun i => (c.slice n i).elim 0 (c.statusWord n i)), (arr o 0x2000 4 1024).map (fun k => c.msixWord n (4 * k)), (arr o 0x3000 4 8).map (fun k => c.pbaWord n (4 * k))])
  | .nowhere => (s, 0)

/-- REG64_LOW_READ (R621): the lower word is read and the upper word latched. -/
def execReg64LowRead (req : Requester) (off : Nat) (s : State) : Host.Outcome State Fault Refusal :=
  let r := s.read32 req off
  s.ends (r.1.mapCore (fun c => { c with rdData := le 4 r.2 }))

/-! ## What a write does -/

/-- The state a meaning leaves. -/
def endOf (o : Host.Outcome State Fault Refusal) (s : State) : State :=
  match o with
  | .next t => t
  | _ => s

/-- Writes a field of an MSI-X vector; a vector that becomes unmasked while it is pending sends its message (PCIe, log entry 80). -/
def Core.msixWrite (c : Core) (inst o v : Nat) : Core :=
  let key := inst * 256 + o / 16
  let m := Tbl.at c.msix { addr := 0, data := 0, masked := true } key
  let m1 : Msix := match o % 16 / 4 with
    | 0 => { m with addr := m.addr / 2 ^ 32 * 2 ^ 32 + v / 4 * 4 }
    | 1 => { m with addr := v * 2 ^ 32 + m.addr % 2 ^ 32 }
    | 2 => { m with data := v }
    | _ => { m with masked := bitOf v 0 }
  let c1 : Core := { c with msix := Tbl.put c.msix key m1 }
  if !m1.masked && c1.pba.contains key then Core.raise { c1 with pba := c1.pba.filter (· != key) } inst (o / 16) else c1

/-- Half of a 64-bit register. -/
def putHalf (old : Nat) (high : Bool) (v : Nat) : Nat := if high then v * 2 ^ 32 + old % 2 ^ 32 else old / 2 ^ 32 * 2 ^ 32 + v

/-- MGT_ registers. -/
def State.mgtWrite (s : State) (o v : Nat) : State :=
  match o with
  | 0x00 => s.mapCore (fun c => let c1 : Core := { c with mboxUp := putHalf c.mboxUp false v }; Core.postWaiting (c1.waitingN.length + c1.keptN.length) c1)
  | 0x04 => s.mapCore (fun c => let c1 : Core := { c with mboxUp := putHalf c.mboxUp true v }; Core.postWaiting (c1.waitingN.length + c1.keptN.length) c1)
  | 0x08 => s.mapCore (fun c => { c with mboxDown := putHalf c.mboxDown false v })
  | 0x0C => s.mapCore (fun c => { c with mboxDown := putHalf c.mboxDown true v })
  | 0x10 => endOf (execMgtMboxUpHeadWrite v s) s
  | 0x1C => endOf (execMgtMboxReply (fld v 5 0) (fld v 26 16) [] s) s
  | 0x20 => s.mapCore (fun c => { c with slice0Cb := putHalf c.slice0Cb false v })
  | 0x24 => s.mapCore (fun c => { c with slice0Cb := putHalf c.slice0Cb true v })
  | _ => s

/-- A value within a register's range is taken, another ignored (log entry 80). -/
def within (lo hi v : Nat) (f : MemGroup → MemGroup) (m : MemGroup) : MemGroup := if lo ≤ v ∧ v ≤ hi then f m else m

/-- A write to a region entry of a group (R183): counted and ignored while locked, or where it is SEC_OWNED and the write is not the SEC's. -/
def State.rgnWrite (s : State) (req : Requester) (g n k v : Nat) : State :=
  let r := rgnAt (s.group g).rgn n
  if bitOf r.attr 31 || (bitOf r.attr 30 && req != .sec) then s.updGroup g (fun m => { m with rgnLockedWr := satInc m.rgnLockedWr })
  else
    match k with
    | 0 => s.updGroup g (fun m => { m with rgn := Tbl.put m.rgn n { r with base := v % 2 ^ 24 } })
    | 1 => s.updGroup g (fun m => { m with rgn := Tbl.put m.rgn n { r with limit := v % 2 ^ 24 } })
    | _ =>
      let s1 := s.updGroup g (fun m => { m with rgn := Tbl.put m.rgn n { r with attr := v &&& 0x6000FFFF } })
      if bitOf v 31 then s1.lockRgn req g n (64 + 64 * g + n) else s1

/-- MEMx_ registers that software writes. -/
def State.memWrite (s : State) (req : Requester) (g o v : Nat) : State :=
  let upd (f : MemGroup → MemGroup) : State := s.updGroup g f
  match o with
  | 0x00 => upd (fun m => { m with retrainLate := m.retrainLate && !bitOf v 7, ceStorm := m.ceStorm && !bitOf v 6, latentUe := m.latentUe && !bitOf v 5 })
  | 0x04 =>
    let s1 := upd (fun m => { m with maxSleep := fld v 6 5 })
    let s2 := endOf (execMemCfgGrainWrite req g (fld v 4 0) s1) s1
    if bitOf v 31 then endOf (execMemCfgLock req g s2) s2 else s2
  | 0x08 => if bitOf v 0 then endOf (execMemRecover req g s) s else s
  | 0x10 => upd (within 100 10000 v (fun m => { m with idleNs := v }))
  | 0x14 => upd (within 10 10000 v (fun m => { m with retrainMs := v }))
  | 0x18 => upd (within 1 168 v (fun m => { m with scrubPeriod := v }))
  | 0x1C => upd (fun m => { m with ceLimit := v })
  | 0x48 =>
    let s1 := upd (fun m => if m.rgnLock then { m with rgnLockedWr := satInc m.rgnLockedWr } else { m with enforce := bitOf v 0 })
    if bitOf v 31 then endOf (execMemRgnLock req g s1) s1 else s1
  | _ => s

/-- A frond's registers that the dispatch firmware writes. -/
def State.frondWrite (s : State) (f o v : Nat) : State :=
  let upd (g : Frond → Frond) : State := s.updFrond f g
  match o with
  | 0x00 => upd (fun fr => { fr with fullMirror := bitOf v 12, bands := fld v 11 8, enable := bitOf v 0 })
  | 0x04 => if 100 ≤ fld v 12 0 ∧ fld v 12 0 ≤ 8000 then upd (fun fr => { fr with offset := fld v 12 0 }) else s
  | 0x08 => (upd (fun fr => { fr with entA := min 1024 (fld v 10 0), entB := min 1024 (fld v 26 16) })).rebuildSlots
  | 0x18 => upd (fun fr => { fr with panicLevel := fld v 7 0 })
  | 0x1C => upd (fun fr => { fr with flagStages := fr.flagStages - (fr.flagStages &&& v % 256) })
  | 0x20 => upd (fun fr => { fr with bg := v % 2 ^ 30 })
  | _ => s

/-- The Canvas registers that the PF writes (Table 20.3). -/
def pfWrites (off : Nat) : Bool :=
  let o := off % 0x10000
  match off / 0x10000 with
  | 0 => decide (0x8000 ≤ o) && decide (o < 0x9000)
  | 3 => [0x00, 0x04, 0x08, 0x0C, 0x10, 0x1C, 0x20, 0x24].contains o
  | 5 => [0x00, 0x08, 0x10, 0x14, 0x18, 0x1C].contains o
  | 6 => [0x00, 0x08, 0x10, 0x14, 0x18, 0x1C].contains o
  | 7 => (arr (o % 0x8000) 0x1400 4 32).isSome || o == 0xF000 || (arr o 0xF100 4 7).isSome
  | 16 => decide (o < 0x800) && o % 8 == 0
  | _ => false

/-- The effect of a write that reaches a Canvas register. -/
def State.canvasWrite (s : State) (req : Requester) (off v : Nat) : State :=
  let o := off % 0x10000
  match off / 0x10000 with
  | 0 => if 0x8000 ≤ o ∧ o < 0x9000 then s.mapCore (fun c => c.msixWrite 0 (o - 0x8000) v) else s
  | 3 => s.mgtWrite o v
  | 5 => s.memWrite req 0 o v
  | 6 => s.memWrite req 1 o v
  | 7 =>
    if o = 0xF000 then { s with mem := { s.mem with devWeight := Tbl.put s.mem.devWeight 7 v } }
    else
      match arr o 0xF100 4 7, arr (o % 0x8000) 0x1400 4 32 with
      | some k, _ => { s with mem := { s.mem with devWeight := Tbl.put s.mem.devWeight k v } }
      | _, some port => endOf (execSlotPrioWrite req (o / 0x8000) port (v % 4) s) s
      | _, _ => s
  | 8 => if o < 0x9000 then s.frondWrite (o / 0x1000) (o % 0x1000) v else s
  | 9 => (arr o 0 4 8).elim s (fun n => s.updOut n (fun x => { x with frond := v % 16 }))
  | 16 => (arr o 0 8 256).elim s (fun i => endOf (execDoorbell 0 i v [] s) s)
  | _ => s

/-- A secure register's write whose lock holds is counted in SEC_LOCKED_WR (R632). -/
def State.unlessLocked (s : State) (locked : Bool) (f : State → State) : State := if locked then s.lockedWr else f s

/-- The SEC block's writes. -/
def State.secWrite (s : State) (req : Requester) (o v : Nat) : State :=
  match arr o 0x1000 4 128, arr o 0x2000 4 8, arr o 0xC0 4 16 with
  | some k, _, _ =>
    let r := rgnAt s.sec.sramRgn (k / 4)
    let put (x : Region) (t : State) : State := { t with sec := { t.sec with sramRgn := Tbl.put t.sec.sramRgn (k / 4) x } }
    s.unlessLocked (bitOf r.attr 31) (fun t => match k % 4 with
      | 0 => put { r with base := v } t
      | 1 => put { r with limit := v } t
      | 2 =>
        let t1 := put { r with attr := v &&& 0x6000FFFF } t
        if bitOf v 31 then endOf (execLockBitSet req (32 + k / 4) t1) t1 else t1
      | _ => t)
  | _, some n, _ =>
    s.unlessLocked (bitOf (Tbl.cnt s.sec.tamperCfg n) 31) (fun t =>
      let t1 : State := { t with sec := { t.sec with tamperCfg := Tbl.put t.sec.tamperCfg n (v &&& 0x00FF01FB) } }
      if bitOf v 31 then endOf (execLockBitSet req (16 + n) t1) t1 else t1)
  | _, _, some k => if k = 15 then endOf (execSecNmboxPush req v s) s else { s with sec := { s.sec with nmPush := Memory.wrN s.sec.nmPush (4 * k) (le 4 v) } }
  | _, _, _ =>
    match o with
    | 0x0000 =>
      let s1 := if bitOf v 2 then endOf (execSecModeKeyLock req s) s else s
      if bitOf v 1 then endOf (execSecModeApprovedLock req s1) s1 else s1
    | 0x0008 => { s with sec := { s.sec with wdog := s.core.now } }
    | 0x2020 => { s with sec := { s.sec with tamperLatched := s.sec.tamperLatched.filter (fun n => !bitOf v n) } }
    | _ => s

/-- The power block's writes: SHED and TRIP_C are the SEC's (Table 18.9). -/
def State.pwrWrite (s : State) (req : Requester) (o v : Nat) : State :=
  match o with
  | 0x00 => { s with lnk := { s.lnk with floorMiss := s.lnk.floorMiss && !bitOf v 30 } }
  | 0x10 => if avsOk v then s.setAvs v else s
  | 0x18 => if req = .sec then (s.setTrip v).setWarn v else s.setWarn v
  | _ => (arr o 0x200 4 24).elim s (fun n => { s with pwr := { s.pwr with vmonLim := Tbl.put s.pwr.vmonLim n v } })

/-- The peat store's writes. -/
def State.peatWrite (s : State) (req : Requester) (o v : Nat) : State :=
  match o with
  | 0x00 => { s with peat := { s.peat with sparesLow := s.peat.sparesLow && !bitOf v 28 } }
  | 0x04 =>
    s.unlessLocked s.peat.retainLock (fun t =>
      let t1 : State := { t with peat := { t.peat with retainMin := v % 2 ^ 20 } }
      if bitOf v 31 then endOf (execLockBitSet req 9 t1) t1 else t1)
  | 0x10 => { s with peat := { s.peat with disturbLimit := v } }
  | 0x14 => if 1 ≤ v ∧ v ≤ 90 then { s with peat := { s.peat with patrolDays := v } } else s
  | 0x18 => if 16 ≤ v ∧ v ≤ 1024 then { s with peat := { s.peat with stageMib := v } } else s
  | _ => (arr o 0x40 4 9).elim s (fun n => s.unlessLocked (bitOf (Tbl.cnt s.peat.attrs n) 31) (fun t => { t with peat := { t.peat with attrs := Tbl.put t.peat.attrs n (v &&& 0xE000FFFF) } }))

/-- A write of the veil's palette, style or badges: ignored and counted while the lock holds (R340). -/
def State.veilWrite (s : State) (o v : Nat) : State :=
  if s.led.veilLock then { s with led := { s.led with lockedWr := satInc s.led.lockedWr } }
  else
    match arr o 0x400 4 16, arr o 0x440 4 16, arr o 0x480 4 8, arr o 0x4A0 4 8 with
    | some n, _, _, _ => { s with led := { s.led with palRgb := Tbl.put s.led.palRgb n (v % 2 ^ 30) } }
    | _, some n, _, _ => { s with led := { s.led with palYcc := Tbl.put s.led.palYcc n (v % 2 ^ 30) } }
    | _, _, some n, _ => { s with led := { s.led with style := Tbl.put s.led.style n (v &&& 0xFFFFFF0F) } }
    | _, _, _, some n => { s with led := { s.led with badge := Tbl.put s.led.badge n v } }
    | _, _, _, _ => s

/-- The effect of a write that reaches a Warden register. -/
def State.wardenWrite (s : State) (req : Requester) (off v : Nat) : State :=
  let o := off % 0x10000
  match off / 0x10000 with
  | 0 => if o = 8 then (if bitOf v 0 then endOf (execLedVeilLock req s) s else s) else s.veilWrite o v
  | 6 => s.peatWrite req o v
  | 7 => s.secWrite req o v
  | 9 => s.pwrWrite req o v
  | _ => s

/-- Output-stage configuration (R19, R630): the veil's palette, style and badges. -/
def osuReg (off : Nat) : Bool := decide (0x400 ≤ off) && decide (off < 0x4C0)

/-- The state with a write to an output-stage unit counted (R19). -/
def State.osuDropped (s : State) : State := { s with lnk := { s.lnk with osuDrop := satInc s.lnk.osuDrop } }

/-- A write to a Warden register (R19, R623, R624, R626, R631). -/
def State.wardenStore (s : State) (req : Requester) (off v : Nat) : State :=
  if osuReg off && (req == .pf || req == .dispatch) then s.osuDropped
  else s.regWrite req false (off == 0x90000 || off == 0x90018) (wardenSecure off) (fun t => t.wardenWrite req off v)

/-- A write to a Canvas register (R183, R623, R627, R631). -/
def State.canvasStore (s : State) (req : Requester) (off v : Nat) : State :=
  s.regWrite req true (pfWrites off) false (fun t =>
    match rgnEntry off with
    | some (g, n, k) => t.rgnWrite req g n k v
    | none => t.canvasWrite req off v)

/-- A write to a VF's own space (R628). -/
def State.vfStore (s : State) (n off v : Nat) : State :=
  if 0x2000 ≤ off ∧ off < 0x3000 then s.mapCore (fun c => c.msixWrite n (off - 0x2000) v)
  else if off = 0x0A00 then endOf (execVfMboxSend n v s) s
  else (arr off 0 8 256).elim s (fun i => endOf (execDoorbell n i v [] s) s)

/-- An aligned 4-byte write. -/
def State.write32 (s : State) (req : Requester) (off v : Nat) : State :=
  match placeOf req off with
  | .canvas o => s.canvasStore req o v
  | .warden o => s.wardenStore req o v
  | .vf n o => s.vfStore n o v
  | .nowhere => if req = .pf then s.ignored else s

/-- A write of any size into a byte area (R621): VF_MBOX_REQ, SEC_NMBOX_PUSH. -/
def State.writeArea (s : State) (req : Requester) (off size data : Nat) : Option State :=
  match placeOf req off with
  | .vf n o =>
    if 0x0800 ≤ o ∧ o + size ≤ 0x0A00 then
      some (s.mapCore (fun c =>
        let a := fit 512 (Tbl.at c.vfReq [] n)
        { c with vfReq := Tbl.put c.vfReq n (a.take (o - 0x0800) ++ le size data ++ a.drop (o - 0x0800 + size)) }))
    else none
  | .warden o =>
    if 0x700C0 ≤ o ∧ o + size ≤ 0x70100 ∧ size < 4 then
      some (s.regWrite req false false false (fun t => { t with sec := { t.sec with nmPush := Memory.wrN t.sec.nmPush (o - 0x700C0) (le size data) } }))
    else none
  | _ => none

/-- REGISTER_WRITE (R621, R623, R626 to R628, R630 to R633): a write smaller than 4 bytes acts on byte areas only, one of 8 bytes is two of 4. -/
def execRegisterWrite (req : Requester) (off size data : Nat) (s : State) : Host.Outcome State Fault Refusal :=
  s.ends (
    match s.writeArea req off size data with
    | some t => t
    | none =>
      if off % 4 ≠ 0 then s
      else if size = 4 then s.write32 req off (data % 2 ^ 32)
      else if size = 8 then (s.write32 req off (data % 2 ^ 32)).write32 req (off + 4) (data / 2 ^ 32 % 2 ^ 32)
      else s)

/-! ## Debug space (R629) -/

/-- The enable a debug access needs: bits 3 SI, 2 SN, 1 NI, 0 NN; none where it needs none. -/
def debugNeeds (write : Bool) (off : Nat) : Option Nat :=
  let sec := (0x20000000 ≤ off ∧ off < 0x20800000 ∧ wardenSecure (off - 0x20000000)) ∨ (0x30100000 ≤ off ∧ off < 0x30110000)
  if off < 0x10000000 then none else if sec then some (if write then 3 else 2) else some (if write then 1 else 0)

/-- A debug read of the port's own registers (Table 20.7). -/
def State.debugOwn (s : State) (off : Nat) : State × Nat :=
  if off = 0 then (s, s.dbgStatus)
  else if off = 4 then (s, s.sec.dbgAccessFail * 65536 + s.sec.dbgCertFail)
  else if 0x40 ≤ off ∧ off < 0x70 then
    let s1 := if off = 0x40 then endOf (execDbgChallengeRead s) s else s
    (s1, areaWord s1.sec.dbgChallenge (off - 0x40))
  else (s, 0)

/-- A debug write to the port's own registers: the DBG_CERT area. -/
def State.debugOwnWrite (s : State) (off v : Nat) : State :=
  if off = 0x1FC then endOf (execDbgCertWrite v s) s
  else if 0x100 ≤ off ∧ off < 0x1FC ∧ !s.sec.dbgLocked then { s with sec := { s.sec with dbgCert := Memory.wrN s.sec.dbgCert (off - 0x100) (le 4 v) } }
  else s

/-- Who a debug access acts as: the secure world where it reaches a secure register or module with its enable, else the normal world. -/
def debugAs (off : Nat) : Requester := if off < 0x20000000 then .dispatch else if 0x20000000 ≤ off ∧ wardenSecure (off - 0x20000000) then .sec else .mgmt

/-- DEBUG_ACCESS (R629): a 32-bit access through the debug port; with its enable 0 it reads 0, a write is ignored, and it is counted. What a debug module holds is given by no rule: its registers read as free values and its writes change nothing of this state (log entry 81). -/
def execDebugAccess (write : Bool) (off data : Nat) (s : State) : Host.Outcome State Fault Refusal :=
  s.ends (
    let give (r : State × Nat) : State := r.1.mapCore (fun c => { c with rdData := le 4 r.2 })
    match debugNeeds write off with
    | none => if write then s.debugOwnWrite off (data % 2 ^ 32) else give (s.debugOwn off)
    | some b =>
      if !bitOf s.sec.dbgEnables b then
        let s1 : State := { s with sec := { s.sec with dbgAccessFail := min 0xFFFF (s.sec.dbgAccessFail + 1) } }
        if write then s1 else give (s1, 0)
      else
        let o := off % 0x10000000
        if 0x30000000 ≤ off then
          (if write then s else if off < 0x30110000 then give (s.mapCore (fun c => c.useFree 1), s.core.free % 2 ^ 32) else give (s, 0))
        else if write then s.write32 (debugAs off) o (data % 2 ^ 32)
        else give (s.read32 (debugAs off) o))

end Sys2Proof.Machine
end

