-- ==== Sys2Proof/Machine/Dispatch.lean ====
section
/-! DEFINITION. One arm per command: the meaning each names. -/

namespace Sys2Proof.Machine

/-- The effect of a command on everything but the queue (R59). -/
def exec (i : Instr) (s : State) : Host.Outcome State Fault Refusal :=
  match i with
  | .registerWrite req off size data => Sys2Proof.Machine.execRegisterWrite req off size data s
  | .reg64LowRead req off => Sys2Proof.Machine.execReg64LowRead req off s
  | .osuHeartbeatSend => Sys2Proof.Machine.execOsuHeartbeatSend s
  | .heartbeatLoss frond => Sys2Proof.Machine.execHeartbeatLoss frond s
  | .lichenFlitReceive toWarden flit item => Sys2Proof.Machine.execLichenFlitReceive toWarden flit item s
  | .lichenAck toWarden => Sys2Proof.Machine.execLichenAck toWarden s
  | .lichenNakReceive toWarden seq => Sys2Proof.Machine.execLichenNakReceive toWarden seq s
  | .laneFail lane => Sys2Proof.Machine.execLaneFail lane s
  | .paceSample canvas warden => Sys2Proof.Machine.execPaceSample canvas warden s
  | .overloadExit => Sys2Proof.Machine.execOverloadExit s
  | .unitDrainStart unit kind => Sys2Proof.Machine.execUnitDrainStart unit kind s
  | .unitQuiet unit => Sys2Proof.Machine.execUnitQuiet unit s
  | .drainLimitExpire unit => Sys2Proof.Machine.execDrainLimitExpire unit s
  | .groupCreate port => Sys2Proof.Machine.execGroupCreate port s
  | .groupMember port => Sys2Proof.Machine.execGroupMember port s
  | .groupDestroy port => Sys2Proof.Machine.execGroupDestroy port s
  | .unitReset port => Sys2Proof.Machine.execUnitReset port s
  | .dispatchLockstepFail pair => Sys2Proof.Machine.execDispatchLockstepFail pair s
  | .doorbell inst idx tail stores => Sys2Proof.Machine.execDoorbell inst idx tail stores s
  | .nop port => Sys2Proof.Machine.execNop port s
  | .negotiate port => Sys2Proof.Machine.execNegotiate port s
  | .compatMap port => Sys2Proof.Machine.execCompatMap port s
  | .compatSurfaceRegister port => Sys2Proof.Machine.execCompatSurfaceRegister port s
  | .compatSurfaceFree port => Sys2Proof.Machine.execCompatSurfaceFree port s
  | .compatSurfaceCopy port => Sys2Proof.Machine.execCompatSurfaceCopy port s
  | .compatSurfacePalette port => Sys2Proof.Machine.execCompatSurfacePalette port s
  | .compatLayerCommit port => Sys2Proof.Machine.execCompatLayerCommit port s
  | .compatLayerPost port => Sys2Proof.Machine.execCompatLayerPost port s
  | .compatLayerRemove port => Sys2Proof.Machine.execCompatLayerRemove port s
  | .compatOutputStatus port => Sys2Proof.Machine.execCompatOutputStatus port s
  | .compatAudSourceOpen port => Sys2Proof.Machine.execCompatAudSourceOpen port s
  | .compatAudSourceClose port => Sys2Proof.Machine.execCompatAudSourceClose port s
  | .compatAudSinkGain port => Sys2Proof.Machine.execCompatAudSinkGain port s
  | .compatJournalTail port => Sys2Proof.Machine.execCompatJournalTail port s
  | .compatJournalSync port => Sys2Proof.Machine.execCompatJournalSync port s
  | .journalTail port => Sys2Proof.Machine.execJournalTail port s
  | .journalSync port => Sys2Proof.Machine.execJournalSync port s
  | .journalExportBegin port => Sys2Proof.Machine.execJournalExportBegin port s
  | .journalExportRead port => Sys2Proof.Machine.execJournalExportRead port s
  | .journalExportAck port => Sys2Proof.Machine.execJournalExportAck port s
  | .journalStatus port => Sys2Proof.Machine.execJournalStatus port s
  | .journalFlush => Sys2Proof.Machine.execJournalFlush s
  | .journalRecordDurable => Sys2Proof.Machine.execJournalRecordDurable s
  | .journalSeal => Sys2Proof.Machine.execJournalSeal s
  | .sealTimer => Sys2Proof.Machine.execSealTimer s
  | .journalRecover => Sys2Proof.Machine.execJournalRecover s
  | .admissionDecision => Sys2Proof.Machine.execAdmissionDecision s
  | .sliceCreate port => Sys2Proof.Machine.execSliceCreate port s
  | .sliceDestroy port => Sys2Proof.Machine.execSliceDestroy port s
  | .sliceReset port => Sys2Proof.Machine.execSliceReset port s
  | .instanceReset port => Sys2Proof.Machine.execInstanceReset port s
  | .resetDone inst slice => Sys2Proof.Machine.execResetDone inst slice s
  | .functionLevelReset inst => Sys2Proof.Machine.execFunctionLevelReset inst s
  | .vfEnableClear => Sys2Proof.Machine.execVfEnableClear s
  | .shareSet port => Sys2Proof.Machine.execShareSet port s
  | .admissionStatus port => Sys2Proof.Machine.execAdmissionStatus port s
  | .dtuInvalidate port => Sys2Proof.Machine.execDtuInvalidate port s
  | .stage2Set port => Sys2Proof.Machine.execStage2Set port s
  | .mgtSlice0CbWrite value => Sys2Proof.Machine.execMgtSlice0CbWrite value s
  | .mgtMboxUpHeadWrite head => Sys2Proof.Machine.execMgtMboxUpHeadWrite head s
  | .vfMboxSend inst count => Sys2Proof.Machine.execVfMboxSend inst count s
  | .mgtMboxReply inst count stores => Sys2Proof.Machine.execMgtMboxReply inst count stores s
  | .vfMboxRspRead inst off size => Sys2Proof.Machine.execVfMboxRspRead inst off size s
  | .memoryRequest port inst slice band write addr data surface => Sys2Proof.Machine.execMemoryRequest port inst slice band write addr data surface s
  | .memCfgGrainWrite req group grain => Sys2Proof.Machine.execMemCfgGrainWrite req group grain s
  | .memCfgLock req group => Sys2Proof.Machine.execMemCfgLock req group s
  | .memRgnLock req group => Sys2Proof.Machine.execMemRgnLock req group s
  | .lockBitSet req index => Sys2Proof.Machine.execLockBitSet req index s
  | .memCorrectableError group channel => Sys2Proof.Machine.execMemCorrectableError group channel s
  | .memScrub group bad => Sys2Proof.Machine.execMemScrub group bad s
  | .memRefreshPoll group rate => Sys2Proof.Machine.execMemRefreshPoll group rate s
  | .slotTableSwap group => Sys2Proof.Machine.execSlotTableSwap group s
  | .slotPrioWrite req group port prio => Sys2Proof.Machine.execSlotPrioWrite req group port prio s
  | .memSleepEnter group => Sys2Proof.Machine.execMemSleepEnter group s
  | .memSleepExit group => Sys2Proof.Machine.execMemSleepExit group s
  | .memExitComplete group => Sys2Proof.Machine.execMemExitComplete group s
  | .memTrainDone group passed => Sys2Proof.Machine.execMemTrainDone group passed s
  | .memRetrainDue group moved => Sys2Proof.Machine.execMemRetrainDue group moved s
  | .retrainLate group => Sys2Proof.Machine.execRetrainLate group s
  | .memDemandError group cause channel port addr inst band => Sys2Proof.Machine.execMemDemandError group cause channel port addr inst band s
  | .memRecover req group => Sys2Proof.Machine.execMemRecover req group s
  | .memRecovered group bad passed => Sys2Proof.Machine.execMemRecovered group bad passed s
  | .mirrorCopybackDone surf => Sys2Proof.Machine.execMirrorCopybackDone surf s
  | .poolSet port => Sys2Proof.Machine.execPoolSet port s
  | .surfaceRegister port => Sys2Proof.Machine.execSurfaceRegister port s
  | .surfaceFree port => Sys2Proof.Machine.execSurfaceFree port s
  | .surfaceCopy port => Sys2Proof.Machine.execSurfaceCopy port s
  | .surfaceMap port => Sys2Proof.Machine.execSurfaceMap port s
  | .surfaceUnmap port => Sys2Proof.Machine.execSurfaceUnmap port s
  | .surfaceMirror port => Sys2Proof.Machine.execSurfaceMirror port s
  | .mirrorCopyDone work => Sys2Proof.Machine.execMirrorCopyDone work s
  | .surfacePalette port => Sys2Proof.Machine.execSurfacePalette port s
  | .surfaceGrant port => Sys2Proof.Machine.execSurfaceGrant port s
  | .apertureWrite inst off bytes => Sys2Proof.Machine.execApertureWrite inst off bytes s
  | .apertureRead inst off size => Sys2Proof.Machine.execApertureRead inst off size s
  | .surfaceRefRelease surf => Sys2Proof.Machine.execSurfaceRefRelease surf s
  | .lockStatusRead => Sys2Proof.Machine.execLockStatusRead s
  | .layerCommit port => Sys2Proof.Machine.execLayerCommit port s
  | .layerPost port => Sys2Proof.Machine.execLayerPost port s
  | .layerRemove port => Sys2Proof.Machine.execLayerRemove port s
  | .frondApply port => Sys2Proof.Machine.execFrondApply port s
  | .scalerCoefLoad port => Sys2Proof.Machine.execScalerCoefLoad port s
  | .toneLoad port => Sys2Proof.Machine.execToneLoad port s
  | .frondSet port => Sys2Proof.Machine.execFrondSet port s
  | .groupLayerSet port => Sys2Proof.Machine.execGroupLayerSet port s
  | .groupLayerMember port => Sys2Proof.Machine.execGroupLayerMember port s
  | .groupLayerCompose port => Sys2Proof.Machine.execGroupLayerCompose port s
  | .groupLayerPassDone work => Sys2Proof.Machine.execGroupLayerPassDone work s
  | .latchPoint frond => Sys2Proof.Machine.execLatchPoint frond s
  | .startOfActiveVideo output => Sys2Proof.Machine.execStartOfActiveVideo output s
  | .lineDue frond line missing cushion wbFull mismatch => Sys2Proof.Machine.execLineDue frond line missing cushion wbFull mismatch s
  | .writebackComplete frond slot => Sys2Proof.Machine.execWritebackComplete frond slot s
  | .outputPrepare port => Sys2Proof.Machine.execOutputPrepare port s
  | .outputCommit port => Sys2Proof.Machine.execOutputCommit port s
  | .outputCancel port => Sys2Proof.Machine.execOutputCancel port s
  | .outputRefresh port => Sys2Proof.Machine.execOutputRefresh port s
  | .outputGenlock port => Sys2Proof.Machine.execOutputGenlock port s
  | .outputStatus port => Sys2Proof.Machine.execOutputStatus port s
  | .writebackSet port => Sys2Proof.Machine.execWritebackSet port s
  | .patrolStatus port => Sys2Proof.Machine.execPatrolStatus port s
  | .frondStandin port => Sys2Proof.Machine.execFrondStandin port s
  | .linkTrainingDone output trains => Sys2Proof.Machine.execLinkTrainingDone output trains s
  | .hpdLongPulse output sink => Sys2Proof.Machine.execHpdLongPulse output sink s
  | .hpdShortPulse output locked => Sys2Proof.Machine.execHpdShortPulse output locked s
  | .houseSyncEdge input => Sys2Proof.Machine.execHouseSyncEdge input s
  | .genlockAcquired output => Sys2Proof.Machine.execGenlockAcquired output s
  | .genlockHoldover output => Sys2Proof.Machine.execGenlockHoldover output s
  | .frondFlag frond line stage both => Sys2Proof.Machine.execFrondFlag frond line stage both s
  | .patrolNext => Sys2Proof.Machine.execPatrolNext s
  | .patrolWarmupEnd => Sys2Proof.Machine.execPatrolWarmupEnd s
  | .frondBistDone frond passed => Sys2Proof.Machine.execFrondBistDone frond passed s
  | .tagCreate port => Sys2Proof.Machine.execTagCreate port s
  | .tagSet port => Sys2Proof.Machine.execTagSet port s
  | .tagRetire port => Sys2Proof.Machine.execTagRetire port s
  | .refresh port => Sys2Proof.Machine.execRefresh port s
  | .tagGroupSet port => Sys2Proof.Machine.execTagGroupSet port s
  | .regionCreate port => Sys2Proof.Machine.execRegionCreate port s
  | .regionBind port => Sys2Proof.Machine.execRegionBind port s
  | .regionRemove port => Sys2Proof.Machine.execRegionRemove port s
  | .ledgerStatus port => Sys2Proof.Machine.execLedgerStatus port s
  | .streamRefresh tag receiver stamp moving => Sys2Proof.Machine.execStreamRefresh tag receiver stamp moving s
  | .seqRefresh tag region stamp => Sys2Proof.Machine.execSeqRefresh tag region stamp s
  | .freezeReport receiver => Sys2Proof.Machine.execFreezeReport receiver s
  | .ledgerWheelTick => Sys2Proof.Machine.execLedgerWheelTick s
  | .erUpdate region => Sys2Proof.Machine.execErUpdate region s
  | .veilDecision region => Sys2Proof.Machine.execVeilDecision region s
  | .ledVeilLock req => Sys2Proof.Machine.execLedVeilLock req s
  | .hostLink up => Sys2Proof.Machine.execHostLink up s
  | .sigRegionSet port => Sys2Proof.Machine.execSigRegionSet port s
  | .sigRegionRemove port => Sys2Proof.Machine.execSigRegionRemove port s
  | .sigExpect port => Sys2Proof.Machine.execSigExpect port s
  | .sigClear port => Sys2Proof.Machine.execSigClear port s
  | .sigStatus port => Sys2Proof.Machine.execSigStatus port s
  | .sigResult region => Sys2Proof.Machine.execSigResult region s
  | .chkScan port => Sys2Proof.Machine.execChkScan port s
  | .chkCancel port => Sys2Proof.Machine.execChkCancel port s
  | .chkStatus port => Sys2Proof.Machine.execChkStatus port s
  | .chkScanDone engine => Sys2Proof.Machine.execChkScanDone engine s
  | .chkPeriodicRun engine => Sys2Proof.Machine.execChkPeriodicRun engine s
  | .rasterJob port => Sys2Proof.Machine.execRasterJob port s
  | .rasterJobStart => Sys2Proof.Machine.execRasterJobStart s
  | .rasterCancel port => Sys2Proof.Machine.execRasterCancel port s
  | .rasterCombinerLoad port => Sys2Proof.Machine.execRasterCombinerLoad port s
  | .rasterStatus port => Sys2Proof.Machine.execRasterStatus port s
  | .tilePassDone core us skipped => Sys2Proof.Machine.execTilePassDone core us skipped s
  | .tilePassSplit core us skipped items => Sys2Proof.Machine.execTilePassSplit core us skipped items s
  | .rasterJobDone work us => Sys2Proof.Machine.execRasterJobDone work us s
  | .ingestPortSet port => Sys2Proof.Machine.execIngestPortSet port s
  | .ingestAssign port => Sys2Proof.Machine.execIngestAssign port s
  | .streamOpen port => Sys2Proof.Machine.execStreamOpen port s
  | .streamClose port => Sys2Proof.Machine.execStreamClose port s
  | .streamDeclare port => Sys2Proof.Machine.execStreamDeclare port s
  | .streamRoute port => Sys2Proof.Machine.execStreamRoute port s
  | .streamStatus port => Sys2Proof.Machine.execStreamStatus port s
  | .ptpSet port => Sys2Proof.Machine.execPtpSet port s
  | .ingestPacket recv path p => Sys2Proof.Machine.execIngestPacket recv path p s
  | .mergeTimeout recv => Sys2Proof.Machine.execMergeTimeout recv s
  | .streamFrameComplete recv => Sys2Proof.Machine.execStreamFrameComplete recv s
  | .streamFrameAbandon recv => Sys2Proof.Machine.execStreamFrameAbandon recv s
  | .pathDown recv path => Sys2Proof.Machine.execPathDown recv path s
  | .streamLost recv => Sys2Proof.Machine.execStreamLost recv s
  | .ethLinkChange index up => Sys2Proof.Machine.execEthLinkChange index up s
  | .ptpMessage index domain announce offset master => Sys2Proof.Machine.execPtpMessage index domain announce offset master s
  | .ptpHoldover => Sys2Proof.Machine.execPtpHoldover s
  | .touchSurfaceSet port => Sys2Proof.Machine.execTouchSurfaceSet port s
  | .touchRegionSet port => Sys2Proof.Machine.execTouchRegionSet port s
  | .touchHandover port => Sys2Proof.Machine.execTouchHandover port s
  | .touchSubscribe port => Sys2Proof.Machine.execTouchSubscribe port s
  | .touchRebase port => Sys2Proof.Machine.execTouchRebase port s
  | .touchStatus port => Sys2Proof.Machine.execTouchStatus port s
  | .touchScanFrame surface counts own => Sys2Proof.Machine.execTouchScanFrame surface counts own s
  | .rawFrameReceive index frame span => Sys2Proof.Machine.execRawFrameReceive index frame span s
  | .touchSurfaceLost surface => Sys2Proof.Machine.execTouchSurfaceLost surface s
  | .touchStartupDone surface => Sys2Proof.Machine.execTouchStartupDone surface s
  | .touchRebaseDone surface => Sys2Proof.Machine.execTouchRebaseDone surface s
  | .touchReacquireDone surface => Sys2Proof.Machine.execTouchReacquireDone surface s
  | .touchLineFault surface => Sys2Proof.Machine.execTouchLineFault surface s
  | .touchLineRecover surface => Sys2Proof.Machine.execTouchLineRecover surface s
  | .touchContactResting surface => Sys2Proof.Machine.execTouchContactResting surface s
  | .touchAbsorbDone surface => Sys2Proof.Machine.execTouchAbsorbDone surface s
  | .touchBaselineStore surface => Sys2Proof.Machine.execTouchBaselineStore surface s
  | .hapChannelSet port => Sys2Proof.Machine.execHapChannelSet port s
  | .hapEffectSet port => Sys2Proof.Machine.execHapEffectSet port s
  | .hapPlay port => Sys2Proof.Machine.execHapPlay port s
  | .hapStop port => Sys2Proof.Machine.execHapStop port s
  | .hapTouchBind port => Sys2Proof.Machine.execHapTouchBind port s
  | .hapScan port => Sys2Proof.Machine.execHapScan port s
  | .hapClear port => Sys2Proof.Machine.execHapClear port s
  | .hapStatus port => Sys2Proof.Machine.execHapStatus port s
  | .hapPulseEnd channel => Sys2Proof.Machine.execHapPulseEnd channel s
  | .hapListenClose channel crossing peak => Sys2Proof.Machine.execHapListenClose channel crossing peak s
  | .hapBrakeTimeout channel => Sys2Proof.Machine.execHapBrakeTimeout channel s
  | .audModeSet port => Sys2Proof.Machine.execAudModeSet port s
  | .audSourceOpen port => Sys2Proof.Machine.execAudSourceOpen port s
  | .audSourceClose port => Sys2Proof.Machine.execAudSourceClose port s
  | .audBusSet port => Sys2Proof.Machine.execAudBusSet port s
  | .audSinkSet port => Sys2Proof.Machine.execAudSinkSet port s
  | .audApply port => Sys2Proof.Machine.execAudApply port s
  | .audTdmSet port => Sys2Proof.Machine.execAudTdmSet port s
  | .audAssign port => Sys2Proof.Machine.execAudAssign port s
  | .audHeadsetSet port => Sys2Proof.Machine.execAudHeadsetSet port s
  | .audStatus port => Sys2Proof.Machine.execAudStatus port s
  | .audioBlock tdm0 tdm1 mic slips => Sys2Proof.Machine.execAudioBlock tdm0 tdm1 mic slips s
  | .duckHoldExpire bus => Sys2Proof.Machine.execDuckHoldExpire bus s
  | .hsDetChange closed => Sys2Proof.Machine.execHsDetChange closed s
  | .hsDebounceDone => Sys2Proof.Machine.execHsDebounceDone s
  | .hsMeasureDone load mvR2 mvSl => Sys2Proof.Machine.execHsMeasureDone load mvR2 mvSl s
  | .hsButtonChange mv ms => Sys2Proof.Machine.execHsButtonChange mv ms s
  | .secSessionOpen port => Sys2Proof.Machine.execSecSessionOpen port s
  | .secSessionClose port => Sys2Proof.Machine.execSecSessionClose port s
  | .attest port => Sys2Proof.Machine.execAttest port s
  | .measureRead port => Sys2Proof.Machine.execMeasureRead port s
  | .approvedSet port => Sys2Proof.Machine.execApprovedSet port s
  | .regulatedSet port => Sys2Proof.Machine.execRegulatedSet port s
  | .keyLoad port => Sys2Proof.Machine.execKeyLoad port s
  | .leaseSet port => Sys2Proof.Machine.execLeaseSet port s
  | .tamperSet port => Sys2Proof.Machine.execTamperSet port s
  | .tamperClear port => Sys2Proof.Machine.execTamperClear port s
  | .secStatus port => Sys2Proof.Machine.execSecStatus port s
  | .debugStatus port => Sys2Proof.Machine.execDebugStatus port s
  | .debugClose port => Sys2Proof.Machine.execDebugClose port s
  | .secModeKeyLock req => Sys2Proof.Machine.execSecModeKeyLock req s
  | .secModeApprovedLock req => Sys2Proof.Machine.execSecModeApprovedLock req s
  | .secNmboxPush req word => Sys2Proof.Machine.execSecNmboxPush req word s
  | .secMeasExtend req n digest => Sys2Proof.Machine.execSecMeasExtend req n digest s
  | .secWatchdogExpire => Sys2Proof.Machine.execSecWatchdogExpire s
  | .secFault => Sys2Proof.Machine.execSecFault s
  | .secRestartDone digest => Sys2Proof.Machine.execSecRestartDone digest s
  | .mgmtWatchdogExpire => Sys2Proof.Machine.execMgmtWatchdogExpire s
  | .dbgChallengeRead => Sys2Proof.Machine.execDbgChallengeRead s
  | .dbgCertWrite word => Sys2Proof.Machine.execDbgCertWrite word s
  | .debugAccess write off data => Sys2Proof.Machine.execDebugAccess write off data s
  | .tamperAssert input ms => Sys2Proof.Machine.execTamperAssert input ms s
  | .tamperRelease input ms => Sys2Proof.Machine.execTamperRelease input ms s
  | .fiddleheadBoot fuses roms lo hi => Sys2Proof.Machine.execFiddleheadBoot fuses roms lo hi s
  | .peatFormat port => Sys2Proof.Machine.execPeatFormat port s
  | .peatStatus port => Sys2Proof.Machine.execPeatStatus port s
  | .peatCapture port => Sys2Proof.Machine.execPeatCapture port s
  | .peatCaptureRead port => Sys2Proof.Machine.execPeatCaptureRead port s
  | .peatRetainSet port => Sys2Proof.Machine.execPeatRetainSet port s
  | .peatUpdateWrite port => Sys2Proof.Machine.execPeatUpdateWrite port s
  | .peatUpdateCommit port => Sys2Proof.Machine.execPeatUpdateCommit port s
  | .peatActivate port => Sys2Proof.Machine.execPeatActivate port s
  | .peatDumpRead port => Sys2Proof.Machine.execPeatDumpRead port s
  | .peatLogRead port => Sys2Proof.Machine.execPeatLogRead port s
  | .firmwareActivation component => Sys2Proof.Machine.execFirmwareActivation component s
  | .fwTrialFallback component => Sys2Proof.Machine.execFwTrialFallback component s
  | .captureStaged id => Sys2Proof.Machine.execCaptureStaged id s
  | .captureStored id => Sys2Proof.Machine.execCaptureStored id s
  | .powerFail => Sys2Proof.Machine.execPowerFail s
  | .powerFailFlushDone supply failed => Sys2Proof.Machine.execPowerFailFlushDone supply failed s
  | .reserveClear => Sys2Proof.Machine.execReserveClear s
  | .nandProgramFail block spare => Sys2Proof.Machine.execNandProgramFail block spare s
  | .nandReadUncorrectable block spare records => Sys2Proof.Machine.execNandReadUncorrectable block spare records s
  | .nandPatrol block corrections target => Sys2Proof.Machine.execNandPatrol block corrections target s
  | .nandDisturbMove block target => Sys2Proof.Machine.execNandDisturbMove block target s
  | .nandWearLevel part source target => Sys2Proof.Machine.execNandWearLevel part source target s
  | .fatalError cause dump => Sys2Proof.Machine.execFatalError cause dump s
  | .wallSet port => Sys2Proof.Machine.execWallSet port s
  | .rhzPortSet port => Sys2Proof.Machine.execRhzPortSet port s
  | .wallStatus port => Sys2Proof.Machine.execWallStatus port s
  | .wallForm devices self version => Sys2Proof.Machine.execWallForm devices self version s
  | .rhzFlitReceive index flit msg => Sys2Proof.Machine.execRhzFlitReceive index flit msg s
  | .masterBeacon => Sys2Proof.Machine.execMasterBeacon s
  | .rhzTimingMessage index offset => Sys2Proof.Machine.execRhzTimingMessage index offset s
  | .masterLost => Sys2Proof.Machine.execMasterLost s
  | .rhzTimeHoldover => Sys2Proof.Machine.execRhzTimeHoldover s
  | .rhzLinkDown index => Sys2Proof.Machine.execRhzLinkDown index s
  | .remoteTagUpdate tag last maxAge st recv stamp => Sys2Proof.Machine.execRemoteTagUpdate tag last maxAge st recv stamp s
  | .sharedFrameLand recv layer inst landing stamp planes => Sys2Proof.Machine.execSharedFrameLand recv layer inst landing stamp planes s
  | .pwrDomainSet port => Sys2Proof.Machine.execPwrDomainSet port s
  | .domainWakeDone domain => Sys2Proof.Machine.execDomainWakeDone domain s
  | .pwrStatus port => Sys2Proof.Machine.execPwrStatus port s
  | .pwrReset port => Sys2Proof.Machine.execPwrReset port s
  | .pwrAvsSet port => Sys2Proof.Machine.execPwrAvsSet port s
  | .pwrThermalSet port => Sys2Proof.Machine.execPwrThermalSet port s
  | .pwrSensorRead port => Sys2Proof.Machine.execPwrSensorRead port s
  | .pwrShutdown port => Sys2Proof.Machine.execPwrShutdown port s
  | .coldReset => Sys2Proof.Machine.execColdReset s
  | .warmReset => Sys2Proof.Machine.execWarmReset s
  | .powerOnReset => Sys2Proof.Machine.execPowerOnReset s
  | .pciePerst => Sys2Proof.Machine.execPciePerst s
  | .avsTick vread => Sys2Proof.Machine.execAvsTick vread s
  | .thermalSample sensor reading => Sys2Proof.Machine.execThermalSample sensor reading s
  | .thermalCritical => Sys2Proof.Machine.execThermalCritical s
  | .vmonExcursion monitor mv => Sys2Proof.Machine.execVmonExcursion monitor mv s
  | .islandWake island => Sys2Proof.Machine.execIslandWake island s
  | .mgmtRestartDone => Sys2Proof.Machine.execMgmtRestartDone s
  | .pwrReadyHigh => Sys2Proof.Machine.execPwrReadyHigh s
  | .rhzLinkUp index neighbour lo hi => Sys2Proof.Machine.execRhzLinkUp index neighbour lo hi s
  | .surfaceCopyDone work before => Sys2Proof.Machine.execSurfaceCopyDone work before s
  | .islandStop island => Sys2Proof.Machine.execIslandStop island s

end Sys2Proof.Machine
end

