-- ==== Sys2Proof/Machine/Tick.lean ====
section
/-! DEFINITION. What time alone does: the tick that a step on an empty queue makes (DESIGN CHOICE, log entry 1). -/

namespace Sys2Proof.Machine

/-- A slot clock cycle of a group that has something to issue (R150). -/
def State.slotTick (s : State) (g : Nat) : State :=
  if (s.group g).queue.isEmpty && (s.group g).retrainLeft == 0 then s else s.slotCycle g

/-- The SEC takes an entry of its normal mailbox at times it chooses (R498): a free value says whether now. -/
def State.mailboxTick (s : State) : State :=
  match s.sec.nmbox with
  | [] => s
  | _ :: es =>
    if s.sec.run != .running then s
    else
      let s1 := s.mapCore (fun c => c.useFree 1)
      if s.core.free % 2 = 0 then s1 else { s1 with sec := { s1.sec with nmbox := es } }

/-- One tick: 1 ns of device time (R10), a slot cycle of each group (R150), the SEC's mailbox (R498), a shutdown under way (R581). -/
def State.tick (s : State) : State :=
  let s1 := s.mapCore (fun c => { c with dt := c.dt + 1 })
  let s2 := ((s1.slotTick 0).slotTick 1).mailboxTick
  let s3 := if s2.pwr.shutdown then s2.shutdownStep else s2
  s3.mapCore (fun c => { c with dt := s.core.dt + 1 })

/-- The step on an empty queue. -/
def execTick (s : State) : Host.Outcome State Fault Refusal := s.endsTime s.tick

end Sys2Proof.Machine
end

