-- ==== Sys2Proof/WellFormed.lean ====
section
/-! DEFINITION. Which commands are well formed: every operand within the range that the unit numbering (Table 1.9), the register spaces (Table 20.1) or the event gives it. A meaning is total: on an ill-formed command it has no effect beyond what its rule gives. -/

namespace Sys2Proof

/-- A port that exists: instances 0 to 63, slices 0 to 255 (R106). -/
def Port.wf : Port → Bool
  | .slice inst idx => decide (inst < 64) && decide (idx < 256)
  | .sec _ => true
  | .forwarded => true

/-- A requester that exists: VFs are 1 to 63. -/
def Requester.wf : Requester → Bool
  | .pf => true
  | .vf n => decide (1 ≤ n) && decide (n < 64)
  | .dispatch => true
  | .mgmt => true
  | .sec => true

/-- The sizes of a register or aperture access in bytes (R621, R202). -/
def sizeOk (size : Nat) : Bool := size == 1 || size == 2 || size == 4 || size == 8

/-- A VF that exists. -/
def instOk (inst : Nat) : Bool := decide (1 ≤ inst) && decide (inst < 64)

/-- True where every operand of a command is in range. -/
def Instr.wf : Instr → Bool
  | .registerWrite req off size data => req.wf && sizeOk size && decide (off < 2 ^ 32) && decide (data < 2 ^ (8 * size))
  | .reg64LowRead req off => req.wf && decide (off < 2 ^ 32)
  | .osuHeartbeatSend => true
  | .heartbeatLoss frond => decide (frond < 9)
  | .lichenFlitReceive _ flit _ => decide (flit.length = 32)
  | .lichenAck _ => true
  | .lichenNakReceive _ seq => decide (seq < 4096)
  | .laneFail lane => decide (lane < 5)
  | .paceSample canvas warden => decide (canvas.length = 48) && decide (warden.length = 8)
  | .overloadExit => true
  | .unitDrainStart _ _ => true
  | .unitQuiet _ => true
  | .drainLimitExpire _ => true
  | .groupCreate port => port.wf
  | .groupMember port => port.wf
  | .groupDestroy port => port.wf
  | .unitReset port => port.wf
  | .dispatchLockstepFail pair => decide (pair < 2)
  | .doorbell inst idx tail _ => decide (inst < 64) && decide (idx < 256) && decide (tail < 2 ^ 32)
  | .nop port => port.wf
  | .negotiate port => port.wf
  | .compatMap port => port.wf
  | .compatSurfaceRegister port => port.wf
  | .compatSurfaceFree port => port.wf
  | .compatSurfaceCopy port => port.wf
  | .compatSurfacePalette port => port.wf
  | .compatLayerCommit port => port.wf
  | .compatLayerPost port => port.wf
  | .compatLayerRemove port => port.wf
  | .compatOutputStatus port => port.wf
  | .compatAudSourceOpen port => port.wf
  | .compatAudSourceClose port => port.wf
  | .compatAudSinkGain port => port.wf
  | .compatJournalTail port => port.wf
  | .compatJournalSync port => port.wf
  | .journalTail port => port.wf
  | .journalSync port => port.wf
  | .journalExportBegin port => port.wf
  | .journalExportRead port => port.wf
  | .journalExportAck port => port.wf
  | .journalStatus port => port.wf
  | .journalFlush => true
  | .journalRecordDurable => true
  | .journalSeal => true
  | .sealTimer => true
  | .journalRecover => true
  | .admissionDecision => true
  | .sliceCreate port => port.wf
  | .sliceDestroy port => port.wf
  | .sliceReset port => port.wf
  | .instanceReset port => port.wf
  | .resetDone inst slice => decide (inst < 64) && slice.all (fun i => decide (i < 256))
  | .functionLevelReset inst => decide (inst < 64)
  | .vfEnableClear => true
  | .shareSet port => port.wf
  | .admissionStatus port => port.wf
  | .dtuInvalidate port => port.wf
  | .stage2Set port => port.wf
  | .mgtSlice0CbWrite value => decide (value < 2 ^ 64)
  | .mgtMboxUpHeadWrite head => decide (head < 2 ^ 32)
  | .vfMboxSend inst count => instOk inst && decide (count < 2 ^ 32)
  | .mgtMboxReply inst count _ => instOk inst && decide (count < 2 ^ 32)
  | .vfMboxRspRead inst _ size => instOk inst && sizeOk size
  | .memoryRequest port inst _ band _ _ _ _ => decide (port < 32) && inst.all (fun i => decide (i < 64)) && decide (band < 4)
  | .memCfgGrainWrite req group _ => req.wf && decide (group < 2)
  | .memCfgLock req group => req.wf && decide (group < 2)
  | .memRgnLock req group => req.wf && decide (group < 2)
  | .lockBitSet req _ => req.wf
  | .memCorrectableError group channel => decide (group < 2) && decide (channel < 8)
  | .memScrub group _ => decide (group < 2)
  | .memRefreshPoll group _ => decide (group < 2)
  | .slotTableSwap group => decide (group < 2)
  | .slotPrioWrite req group port _ => req.wf && decide (group < 2) && decide (port < 32)
  | .memSleepEnter group => decide (group < 2)
  | .memSleepExit group => decide (group < 2)
  | .memExitComplete group => decide (group < 2)
  | .memTrainDone group passed => decide (group < 2) && decide (passed < 256)
  | .memRetrainDue group _ => decide (group < 2)
  | .retrainLate group => decide (group < 2)
  | .memDemandError group _ channel port _ inst band => decide (group < 2) && decide (channel < 8) && decide (port < 32) && inst.all (fun i => decide (i < 64)) && decide (band < 4)
  | .memRecover req group => req.wf && decide (group < 2)
  | .memRecovered group _ passed => decide (group < 2) && decide (passed < 256)
  | .mirrorCopybackDone _ => true
  | .poolSet port => port.wf
  | .surfaceRegister port => port.wf
  | .surfaceFree port => port.wf
  | .surfaceCopy port => port.wf
  | .surfaceMap port => port.wf
  | .surfaceUnmap port => port.wf
  | .surfaceMirror port => port.wf
  | .mirrorCopyDone _ => true
  | .surfacePalette port => port.wf
  | .surfaceGrant port => port.wf
  | .apertureWrite inst _ _ => decide (inst < 64)
  | .apertureRead inst _ size => decide (inst < 64) && sizeOk size
  | .surfaceRefRelease _ => true
  | .lockStatusRead => true
  | .layerCommit port => port.wf
  | .layerPost port => port.wf
  | .layerRemove port => port.wf
  | .frondApply port => port.wf
  | .scalerCoefLoad port => port.wf
  | .toneLoad port => port.wf
  | .frondSet port => port.wf
  | .groupLayerSet port => port.wf
  | .groupLayerMember port => port.wf
  | .groupLayerCompose port => port.wf
  | .groupLayerPassDone _ => true
  | .latchPoint frond => decide (frond < 9)
  | .startOfActiveVideo output => decide (output < 8)
  | .lineDue frond _ _ _ _ _ => decide (frond < 9)
  | .writebackComplete frond _ => decide (frond < 9)
  | .outputPrepare port => port.wf
  | .outputCommit port => port.wf
  | .outputCancel port => port.wf
  | .outputRefresh port => port.wf
  | .outputGenlock port => port.wf
  | .outputStatus port => port.wf
  | .writebackSet port => port.wf
  | .patrolStatus port => port.wf
  | .frondStandin port => port.wf
  | .linkTrainingDone output _ => decide (output < 8)
  | .hpdLongPulse output _ => decide (output < 8)
  | .hpdShortPulse output _ => decide (output < 8)
  | .houseSyncEdge input => decide (input < 2)
  | .genlockAcquired output => decide (output < 8)
  | .genlockHoldover output => decide (output < 8)
  | .frondFlag frond _ _ _ => decide (frond < 9)
  | .patrolNext => true
  | .patrolWarmupEnd => true
  | .frondBistDone frond _ => decide (frond < 9)
  | .tagCreate port => port.wf
  | .tagSet port => port.wf
  | .tagRetire port => port.wf
  | .refresh port => port.wf
  | .tagGroupSet port => port.wf
  | .regionCreate port => port.wf
  | .regionBind port => port.wf
  | .regionRemove port => port.wf
  | .ledgerStatus port => port.wf
  | .streamRefresh _ _ _ _ => true
  | .seqRefresh _ _ _ => true
  | .freezeReport _ => true
  | .ledgerWheelTick => true
  | .erUpdate _ => true
  | .veilDecision _ => true
  | .ledVeilLock req => req.wf
  | .hostLink _ => true
  | .sigRegionSet port => port.wf
  | .sigRegionRemove port => port.wf
  | .sigExpect port => port.wf
  | .sigClear port => port.wf
  | .sigStatus port => port.wf
  | .sigResult _ => true
  | .chkScan port => port.wf
  | .chkCancel port => port.wf
  | .chkStatus port => port.wf
  | .chkScanDone engine => decide (engine < 40)
  | .chkPeriodicRun engine => decide (engine < 40)
  | .rasterJob port => port.wf
  | .rasterJobStart => true
  | .rasterCancel port => port.wf
  | .rasterCombinerLoad port => port.wf
  | .rasterStatus port => port.wf
  | .tilePassDone core _ _ => decide (core < 4)
  | .tilePassSplit core _ _ _ => decide (core < 4)
  | .rasterJobDone _ _ => true
  | .ingestPortSet port => port.wf
  | .ingestAssign port => port.wf
  | .streamOpen port => port.wf
  | .streamClose port => port.wf
  | .streamDeclare port => port.wf
  | .streamRoute port => port.wf
  | .streamStatus port => port.wf
  | .ptpSet port => port.wf
  | .ingestPacket recv path _ => decide (recv < 64) && decide (path < 2)
  | .mergeTimeout recv => decide (recv < 64)
  | .streamFrameComplete recv => decide (recv < 64)
  | .streamFrameAbandon recv => decide (recv < 64)
  | .pathDown recv path => decide (recv < 64) && decide (path < 2)
  | .streamLost recv => decide (recv < 64)
  | .ethLinkChange index _ => decide (index < 4)
  | .ptpMessage index domain _ _ _ => decide (index < 4) && decide (domain < 256)
  | .ptpHoldover => true
  | .touchSurfaceSet port => port.wf
  | .touchRegionSet port => port.wf
  | .touchHandover port => port.wf
  | .touchSubscribe port => port.wf
  | .touchRebase port => port.wf
  | .touchStatus port => port.wf
  | .touchScanFrame surface _ _ => decide (surface < 8)
  | .rawFrameReceive index _ _ => decide (index < 6)
  | .touchSurfaceLost surface => decide (surface < 8)
  | .touchStartupDone surface => decide (surface < 8)
  | .touchRebaseDone surface => decide (surface < 8)
  | .touchReacquireDone surface => decide (surface < 8)
  | .touchLineFault surface => decide (surface < 8)
  | .touchLineRecover surface => decide (surface < 8)
  | .touchContactResting surface => decide (surface < 8)
  | .touchAbsorbDone surface => decide (surface < 8)
  | .touchBaselineStore surface => decide (surface < 8)
  | .hapChannelSet port => port.wf
  | .hapEffectSet port => port.wf
  | .hapPlay port => port.wf
  | .hapStop port => port.wf
  | .hapTouchBind port => port.wf
  | .hapScan port => port.wf
  | .hapClear port => port.wf
  | .hapStatus port => port.wf
  | .hapPulseEnd channel => decide (channel < 8)
  | .hapListenClose channel _ _ => decide (channel < 8)
  | .hapBrakeTimeout channel => decide (channel < 8)
  | .audModeSet port => port.wf
  | .audSourceOpen port => port.wf
  | .audSourceClose port => port.wf
  | .audBusSet port => port.wf
  | .audSinkSet port => port.wf
  | .audApply port => port.wf
  | .audTdmSet port => port.wf
  | .audAssign port => port.wf
  | .audHeadsetSet port => port.wf
  | .audStatus port => port.wf
  | .audioBlock _ _ _ _ => true
  | .duckHoldExpire bus => decide (bus < 16)
  | .hsDetChange _ => true
  | .hsDebounceDone => true
  | .hsMeasureDone _ _ _ => true
  | .hsButtonChange _ _ => true
  | .secSessionOpen port => port.wf
  | .secSessionClose port => port.wf
  | .attest port => port.wf
  | .measureRead port => port.wf
  | .approvedSet port => port.wf
  | .regulatedSet port => port.wf
  | .keyLoad port => port.wf
  | .leaseSet port => port.wf
  | .tamperSet port => port.wf
  | .tamperClear port => port.wf
  | .secStatus port => port.wf
  | .debugStatus port => port.wf
  | .debugClose port => port.wf
  | .secModeKeyLock req => req.wf
  | .secModeApprovedLock req => req.wf
  | .secNmboxPush req word => req.wf && decide (word < 2 ^ 32)
  | .secMeasExtend req n digest => req.wf && decide (n < 16) && decide (digest.length = 48)
  | .secWatchdogExpire => true
  | .secFault => true
  | .secRestartDone digest => decide (digest.length = 48)
  | .mgmtWatchdogExpire => true
  | .dbgChallengeRead => true
  | .dbgCertWrite word => decide (word < 2 ^ 32)
  | .debugAccess _ _ data => decide (data < 2 ^ 32)
  | .tamperAssert input _ => decide (input < 8)
  | .tamperRelease input _ => decide (input < 8)
  | .fiddleheadBoot _ _ _ _ => true
  | .peatFormat port => port.wf
  | .peatStatus port => port.wf
  | .peatCapture port => port.wf
  | .peatCaptureRead port => port.wf
  | .peatRetainSet port => port.wf
  | .peatUpdateWrite port => port.wf
  | .peatUpdateCommit port => port.wf
  | .peatActivate port => port.wf
  | .peatDumpRead port => port.wf
  | .peatLogRead port => port.wf
  | .firmwareActivation _ => true
  | .fwTrialFallback _ => true
  | .captureStaged _ => true
  | .captureStored _ => true
  | .powerFail => true
  | .powerFailFlushDone _ _ => true
  | .reserveClear => true
  | .nandProgramFail _ _ => true
  | .nandReadUncorrectable _ _ _ => true
  | .nandPatrol _ _ _ => true
  | .nandDisturbMove _ _ => true
  | .nandWearLevel _ _ _ => true
  | .fatalError _ _ => true
  | .wallSet port => port.wf
  | .rhzPortSet port => port.wf
  | .wallStatus port => port.wf
  | .wallForm _ _ _ => true
  | .rhzFlitReceive index flit _ => decide (index < 2) && decide (flit.length = 64)
  | .masterBeacon => true
  | .rhzTimingMessage index _ => decide (index < 2)
  | .masterLost => true
  | .rhzTimeHoldover => true
  | .rhzLinkDown index => decide (index < 2)
  | .remoteTagUpdate _ _ _ _ _ _ => true
  | .sharedFrameLand _ _ _ _ _ _ => true
  | .pwrDomainSet port => port.wf
  | .domainWakeDone domain => decide (domain < 12)
  | .pwrStatus port => port.wf
  | .pwrReset port => port.wf
  | .pwrAvsSet port => port.wf
  | .pwrThermalSet port => port.wf
  | .pwrSensorRead port => port.wf
  | .pwrShutdown port => port.wf
  | .coldReset => true
  | .warmReset => true
  | .powerOnReset => true
  | .pciePerst => true
  | .avsTick vread => decide (vread < 2 ^ 16)
  | .thermalSample sensor _ => decide (sensor < 16)
  | .thermalCritical => true
  | .vmonExcursion monitor _ => decide (monitor < 24)
  | .islandWake _ => true
  | .mgmtRestartDone => true
  | .pwrReadyHigh => true
  | .rhzLinkUp index _ _ _ => decide (index < 2)
  | .surfaceCopyDone _ _ => true
  | .islandStop _ => true

end Sys2Proof
end

