-- ==== Sys2Proof/Safety.lean ====
section
/-! DEFINITION. The terms in which claims speak of a run: well-formed queues, when a packet command is ready to run, and what a command that runs leaves. -/

namespace Sys2Proof.Machine

/-- True where every command that waits is well formed. -/
def State.queueWf (s : State) : Bool := s.pending.all Instr.wf

/-- The commands that may move device time: the PTP clock's messages and the power-on reset. -/
def movesTime : Instr → Bool
  | .ptpMessage _ _ _ _ _ => true
  | .rhzTimingMessage _ _ => true
  | .powerOnReset => true
  | _ => false

/-- A packet that its port hands over: the state once it is taken, its issuer and the packet. None where another packet is in front, a check of steps 1 to 6 fails, or it must wait for the journal (R56, R94, R130, R563, R639). -/
def Cmd.taken (c : Cmd) (s : State) : Port → Option (State × Who × Packet)
  | .slice inst idx =>
    match s.core.front inst idx with
    | .go p op =>
      let s1 := s.mapCore (fun k => k.refill inst)
      let j := c.willJournal s1 (sliceWho inst idx) p
      if op ≠ c.opcode ∨ (j && (!s1.journalAdmits c.opcode || s1.core.tokensOf inst == 0)) then none
      else some (s1.mapCore (fun k => (if j then k.spend inst else k).take inst idx p true), sliceWho inst idx, p)
    | _ => none
  | .sec p =>
    if p.opcode.toNat ≠ c.opcode ∨ !lengthOk p ∨ c.opcode < 2 ∨ c.opcode / 256 = 0x7F ∨ (c.willJournal s secWho p && !s.journalAdmits c.opcode) then none
    else some (s, secWho, p)
  | .forwarded =>
    match s.core.fwdIn with
    | [] => none
    | (w, p) :: rest =>
      if p.opcode.toNat ≠ c.opcode ∨ (c.willJournal s w p && !s.journalAdmits c.opcode) then none
      else some (s.mapCore (fun k => { k with fwdIn := rest }), w, p)

/-- True where steps 7 to 12 pass for the one unit of a packet that is executed here (Table 2.2). -/
def Cmd.passes (c : Cmd) (s : State) (w : Who) (p : Packet) : Bool :=
  c.step7 s w p && !(s.foreign (pkUnit p) && c.opcode / 2 != 0 && !isCompatOp c.opcode && w.remote.isNone) && !c.fansOut s w p && (c.steps s w p).isNone

/-- A packet that passes every check of Table 2.2: the state once it is taken, its issuer and the packet. -/
def Cmd.ready (c : Cmd) (s : State) (port : Port) : Option (State × Who × Packet) :=
  match c.taken s port with
  | some (t, w, p) => if c.passes t w p then some (t, w, p) else none
  | none => none

/-- A state after a command, but for what no command changes: what manufacture fixed, the queue and device time. -/
def State.kept (s t : State) : State := { t with fix := s.fix, pending := s.pending, core := { t.core with dt := s.core.dt } }

/-- The secure firmware's sequence moves on with its packets (R639). -/
def State.ported (t : State) : Port → State
  | .sec _ => t.mapCore (fun k => { k with secSeq := (k.secSeq + 1) % 2 ^ 32 })
  | .slice _ _ => t
  | .forwarded => t

/-- What a packet command leaves. -/
def State.closed (s : State) (port : Port) (t : State) : State := s.kept (t.ported port)

/-- The state once a packet is journaled, if it is to be (R81). -/
def Cmd.journaled (c : Cmd) (s : State) (w : Who) (p : Packet) (st : Status) : State := (s.journalIf (c.journals p) w p c.opcode st).1

/-- The journal sequence of its record, 0 where it is not journaled. -/
def Cmd.jseqOf (c : Cmd) (s : State) (w : Who) (p : Packet) (st : Status) : Nat := (s.journalIf (c.journals p) w p c.opcode st).2

/-- A command that ends at once: journaled with its status, its effect, its completion (R67, R81). -/
def Cmd.answered (c : Cmd) (s : State) (w : Who) (p : Packet) (st : Status) (f : State → State × Rsp) : State :=
  (f (c.journaled s w p st)).1.mapCore (fun k => k.completeOrWait w p (f (c.journaled s w p st)).2 (c.syncs p) (c.jseqOf s w p st))

/-- A command whose effect goes on: journaled, its first effect, and it waits for its completion (R67). -/
def Cmd.waits (c : Cmd) (s : State) (w : Who) (p : Packet) (f : State → State × Wait) : State :=
  (f (c.journaled s w p .served)).1.owe w p c.opcode (f (c.journaled s w p .served)).2 true false (c.jseqOf s w p .served) none

/-- A command that is delayed: journaled with the delayed status, a first completion, and it waits (R67, R84). -/
def Cmd.putOff (c : Cmd) (s : State) (w : Who) (p : Packet) (r : Rsp) (started : Bool) (f : State → State × Wait) : State :=
  let j := c.jseqOf s w p r.st
  ((f (c.journaled s w p r.st)).1.mapCore (fun k => k.complete w p r false (k.jrn.isDurable j && j != 0) j)).owe w p c.opcode (f (c.journaled s w p r.st)).2 started true j none

/-- What a packet command runs: not a query, and not waiting for the SEC's restart (R523). -/
def Cmd.acts (c : Cmd) (s : State) (p : Packet) : Bool := !c.asks p && !(c.secure && s.sec.run == .restarting)

/-- A packet command completes at once as SERVED: in every state, from every port, where it is ready and g holds before and after its journaling, exec answers the next state in which it is journaled, has the effect f, and is completed with f's response. -/
def Cmd.Serves (c : Cmd) (i : Port → Instr) (g : State → Who → Packet → Prop) (f : Who → Packet → State → State × Rsp) : Prop :=
  ∀ s port t w p, c.ready s port = some (t, w, p) → c.acts t p = true → g t w p → g (c.journaled t w p .served) w p →
    Machine.exec (i port) s = .next (s.closed port (c.answered t w p .served (f w p)))

/-- A query completes: exec answers the next state in which it is answered by f and completed with f's response. -/
def Cmd.Answers (c : Cmd) (i : Port → Instr) (g : State → Who → Packet → Prop) (f : Who → Packet → State → State × Rsp) : Prop :=
  ∀ s port t w p, c.ready s port = some (t, w, p) → c.asks p = true → g (c.journaled t w p .served) w p →
    Machine.exec (i port) s = .next (s.closed port (c.answered t w p .served (f w p)))

/-- A packet command starts and completes later: exec answers the next state in which it is journaled, has the first effect f and waits for what f names. -/
def Cmd.Starts (c : Cmd) (i : Port → Instr) (g : State → Who → Packet → Prop) (f : Who → Packet → State → State × Wait) : Prop :=
  ∀ s port t w p, c.ready s port = some (t, w, p) → c.acts t p = true → g t w p → g (c.journaled t w p .served) w p →
    Machine.exec (i port) s = .next (s.closed port (c.waits t w p (f w p)))

/-- A packet command is delayed: exec answers the next state in which it has a first completion with r and waits for what f names. -/
def Cmd.Delays (c : Cmd) (i : Port → Instr) (g : State → Who → Packet → Prop) (r : Rsp) (started : Bool) (f : Who → Packet → State → State × Wait) : Prop :=
  ∀ s port t w p, c.ready s port = some (t, w, p) → c.acts t p = true → g t w p → g (c.journaled t w p r.st) w p →
    Machine.exec (i port) s = .next (s.closed port (c.putOff t w p r started (f w p)))

end Sys2Proof.Machine
end

