-- ==== Sys2Proof/Certificates/Slice0/Obligations.lean ====
section
/-! DEFINITION. The statements for the provers. A packet clause reads: c.Serves i g f, where g names the operands and state and f the effect and the response; State.kept and State.closed name what no command changes. -/

open Sys2Proof Sys2Proof.Machine

/-- StepRunsTheFrontCommand: with c at the front of the queue, a step is exec of c on the state with the queue's rest. -/
def Obligations.StepRunsTheFrontCommand : Prop :=
  ∀ (s : State) (c : Instr) (rest : List Instr), s.pending = c :: rest → step s = exec c { s with pending := rest }

/-- IdleStepIsOneTick: on an empty queue a step adds 1 ns to device time and keeps the queue empty (the model's choice, log entry 1). -/
def Obligations.IdleStepIsOneTick : Prop :=
  ∀ s : State, s.pending = [] → step s = .next { s.tick with fix := s.fix, pending := [] } ∧
    (s.core.now + 1 < 2 ^ 64 → ∀ t, step s = .next t → t.core.now = s.core.now + 1)

/-- EveryStepKeepsTheQueueAndWhatIsFixed: every step answers a next state; none changes what manufacture, fuses and straps fixed; the queue only loses its front. So a queue of well-formed commands stays one. -/
def Obligations.EveryStepKeepsTheQueueAndWhatIsFixed : Prop :=
  ∀ s : State, ∃ t, step s = .next t ∧ t.fix = s.fix ∧ t.pending = s.pending.drop 1 ∧ (s.queueWf = true → t.queueWf = true)

/-- DeviceTimeNeverRunsBackwards: whatever command runs, device time after a step is not before device time at the step, but for a power-on reset and for the wrap of its 64 bits. -/
def Obligations.DeviceTimeNeverRunsBackwards : Prop :=
  ∀ s t : State, step s = .next t → (∀ rest, s.pending ≠ .powerOnReset :: rest) → s.core.now + 1 < 2 ^ 64 → s.core.now ≤ t.core.now

/-- OnlyTimeMessagesMoveDeviceTime: every command but a PTP message, a timing message of the wall and the power-on reset leaves device time as it is. -/
def Obligations.OnlyTimeMessagesMoveDeviceTime : Prop :=
  ∀ (c : Instr) (s t : State), exec c s = .next t → movesTime c = false → t.core.dt = s.core.dt

/-- ResetStateHolds: right after reset no command waits, every generation is 1 (R40), no surface, tag, region or slice exists, the journal recovers, and every memory is in its canonical form. -/
def Obligations.ResetStateHolds : Prop :=
  State.reset.pending = [] ∧ State.reset.queueWf = true ∧ (∀ u, State.reset.core.genOf u = 1) ∧ State.reset.srf.surfs = [] ∧ State.reset.led.tags = [] ∧ State.reset.led.regions = [] ∧
    State.reset.core.slices = [] ∧ State.reset.core.jrn.st = .recovering ∧ Memory.wf State.reset.core.host = true ∧ Memory.wf State.reset.mem.dram = true ∧ Memory.wf State.reset.sec.sram = true

/-- GenerationIncrementsPastZero: a unit's generation is incremented when its reset or power-down ends, and 0x0000 is never assigned; other units keep theirs. -/
def Obligations.GenerationIncrementsPastZero : Prop :=
  ∀ (c : Core) (u : Nat), (c.genOf u ≠ 0xFFFF → c.genOf u ≠ 0 → (c.bump u).genOf u = c.genOf u + 1 ∧ (c.bump u).genOf u ≠ 0) ∧ (c.genOf u = 0xFFFF → (c.bump u).genOf u = 1) ∧
    ∀ v, uKey v ≠ uKey u → (c.bump u).genOf v = c.genOf v

/-- MemoryReadsWhatWasWritten: in a memory in canonical form, bytes written read back, every other byte is as before, and the form is kept. -/
def Obligations.MemoryReadsWhatWasWritten : Prop :=
  ∀ (m : Memory) (a : Nat) (bs : List Byte), Memory.wf m = true →
    Memory.wf (Memory.wrN m a bs) = true ∧ Memory.rdN (Memory.wrN m a bs) a bs.length = bs ∧
    ∀ x, (x < a ∨ a + bs.length ≤ x) → Memory.rd (Memory.wrN m a bs) x = Memory.rd m x

/-- SessionCommandsComplete: NOP is served and changes nothing. NEGOTIATE, on a slice whose only unfinished packet it is, opens the session: the slice is in SESSION with the version R73 chooses, its status and fault rings latched if it had none; without a buffer it answers 0x2000 plus the version and 49 classes. A renegotiation behind unfinished packets is delayed with DELAYED_UNIT_BUSY and changes no slice (R75). MGT_SLICE0_CB takes 64 bits. A lockstep mismatch of a pair that has not failed marks it failed, and hands the work to the other pair where it was the active one; nothing else changes. -/
def Obligations.SessionCommandsComplete : Prop :=
  (
  cmdNop.Serves .nop (fun _ _ _ => True) (fun _ _ z => (z, Rsp.plain .served)) ∧
  cmdNegotiate.Serves .negotiate
    (fun z w p => ∃ sl v, z.core.slice w.inst w.slice = some sl ∧ sl.outstanding ≤ 1 ∧ chooseVersion (pkF p 0 7 0) (pkF p 0 15 8) = some v ∧ pkW p 1 = 0)
    (fun w p z => match z.core.slice w.inst w.slice, chooseVersion (pkF p 0 7 0) (pkF p 0 15 8) with
      | some sl, some v => (z.mapCore (fun c => (c.updSlice w.inst w.slice (fun t => { t with st := .session, ver := v, rings := if sl.ver = 0 then z.core.readRings w.inst sl else sl.rings })).syncCb w.inst w.slice), Rsp.ok (0x2000 + v) 49 0)
      | _, _ => (z, Rsp.plain .served))) ∧
  (
  cmdNegotiate.Delays .negotiate (fun z w _ => ∃ sl, z.core.slice w.inst w.slice = some sl ∧ sl.ver ≠ 0 ∧ 1 < sl.outstanding) (Rsp.plain .delayedUnitBusy) false
    (fun w _ z => (z, .unit (sliceUnit w.inst w.slice)))) ∧
  (
  (∀ (s : State) (v : Nat), exec (.mgtSlice0CbWrite v) s = .next (s.kept { s with core := { s.core with slice0Cb := v % 2 ^ 64 } })) ∧
  ∀ (s : State) (pair : Nat), pair < 2 → ¬ pair ∈ s.lnk.failedPairs →
    exec (.dispatchLockstepFail pair) s = .next (s.kept { s with lnk := { s.lnk with failedPairs := s.lnk.failedPairs ++ [pair], activePair := if s.lnk.activePair = pair then 1 - pair else s.lnk.activePair } }))

/-- DoorbellMakesPacketsVisible: a doorbell on a slice that is neither draining nor halted reads the packets up to the tail; where the ring is usable and the tail a multiple of 8 within it, the packets are appended to those visible, and front packets that fail steps 1 to 6 are disposed of. A slice that does not exist, drains or is halted takes only the host's own stores. -/
def Obligations.DoorbellMakesPacketsVisible : Prop :=
  ∀ (s : State) (inst idx tail : Nat) (stores : List Host.Cell),
    let s1 := s.mapCore (fun c => { c with host := stores.foldl (fun m e => Memory.wr m e.1 e.2) c.host })
    (∀ sl, s1.core.slice inst idx = some sl → sl.st ≠ .draining → sl.st ≠ .halted →
      exec (.doorbell inst idx tail stores) s = .next (s.kept (State.settle ((((s1.core.ring inst idx sl (fld tail 19 0)).slice inst idx).elim 0 (fun t => t.visible.length))) (s1.mapCore (fun c => c.ring inst idx sl (fld tail 19 0))) inst idx))) ∧
    ((s1.core.slice inst idx = none ∨ ∃ sl, s1.core.slice inst idx = some sl ∧ (sl.st = .draining ∨ sl.st = .halted)) → exec (.doorbell inst idx tail stores) s = .next (s.kept s1))

/-- JournalCommandsComplete: JOURNAL_STATUS answers the state and mode, the fill and the newest durable sequence; JOURNAL_TAIL writes as many 32-byte entries as fit and answers their number and the number there are; JOURNAL_EXPORT_READ writes bytes of the open export's stream. JOURNAL_SYNC is served with no effect of its own, once its record is durable. JOURNAL_EXPORT_BEGIN opens an export with the next identifier over the range of R101. JOURNAL_EXPORT_ACK marks records up to its sequence as exported, closes the export and journals JOURNAL_EXPORT. -/
def Obligations.JournalCommandsComplete : Prop :=
  (
  cmdJournalStatus.Answers .journalStatus (fun _ _ _ => True) (fun _ _ z => (z, Rsp.ok (z.core.jrn.st.code + (if z.core.jrn.regulated then 16 else 0)) z.core.jrn.fill z.core.jrn.durable)) ∧
  cmdJournalTail.Answers .journalTail (fun _ _ _ => True)
    (fun w p z =>
      let es := (Tbl.keep z.core.slices (fun k _ => bitOf (pkW p 0) 8 || k / 256 == pkF p 0 5 0)).map (fun e => tailEntry z.core e.1 e.2)
      z.answer w (pkW p 1) (es.take (min es.length (pkW p 2 / 32))).flatten (Rsp.ok (min es.length (pkW p 2 / 32)) es.length 0)) ∧
  cmdJournalExportRead.Answers .journalExportRead (fun z _ _ => z.core.jrn.openExport.isSome)
    (fun w p z =>
      let bs := match z.core.jrn.openExport with
        | some e => (((z.core.jrn.part.filter (fun i => decide (e.first ≤ i.jseq) && decide (i.jseq ≤ e.last))).flatMap JItem.toBytes).drop (pkW p 1)).take (pkF p 3 31 0)
        | none => []
      z.answer w (pkW p 2) bs (Rsp.ok bs.length 0 0))) ∧
  (
  cmdJournalSync.Serves .journalSync (fun _ _ _ => True) (fun _ _ z => (z, Rsp.plain .served)) ∧
  (∀ p, cmdJournalSync.syncs p = true) ∧
  cmdJournalExportBegin.Serves .journalExportBegin (fun z _ p => (z.core.jrn.exportRange (pkW p 0) (pkW p 1)).isSome)
    (fun _ p z => match z.core.jrn.exportRange (pkW p 0) (pkW p 1) with
      | some (a, b) => ({ z with core := { z.core with jrn := { z.core.jrn with exports := z.core.jrn.exports + 1, openExport := some { id := z.core.jrn.exports + 1, first := a, last := b } } } }, Rsp.ok (z.core.jrn.exports + 1) (a % 2 ^ 32) (a / 2 ^ 32))
      | none => (z, Rsp.plain .served)) ∧
  cmdJournalExportAck.Serves .journalExportAck (fun _ _ _ => True)
    (fun _ p z => (z.mapCore (fun k =>
      (({ k with jrn := { k.jrn with exported := max k.jrn.exported (pkW p 1), openExport := none } } : Core).event 0xFE04 0 (uid 0x81 0 0) (pkF p 0 31 0) (le 8 (pkW p 1) ++ le 1 (pkF p 0 33 32))).journalState true), Rsp.plain .served)))

/-- JournalEventsComplete: JOURNAL_FLUSH moves what is buffered to what is being programmed, where the store is formatted, MGMT runs, no power-fail flush runs and there is space. JOURNAL_RECORD_DURABLE takes what was programmed into the partition. JOURNAL_SEAL and SEAL_TIMER seal the chain after the newest record when they are due; at the timer with no new record only the timer restarts. -/
def Obligations.JournalEventsComplete : Prop :=
  (∀ s : State, s.pwr.mgmtRestarting = false → s.peat.formatted = true → s.peat.flushing = false → s.core.jrn.noSpace = false → s.partPermits 4 2 true = true →
    itemsBytes s.core.jrn.part + (itemsBytes s.core.jrn.buffer + itemsBytes s.core.jrn.flushing) ≤ s.core.jrn.capacity →
    exec .journalFlush s = .next (s.kept { s with core := { s.core with jrn := { s.core.jrn with flushing := s.core.jrn.flushing ++ s.core.jrn.buffer, buffer := [] } } })) ∧
  (∀ s : State, ∃ t, exec .journalRecordDurable s = .next t ∧ t = s.kept (s.mapCore (fun c =>
    (({ c with jrn := { c.jrn with part := c.jrn.part ++ c.jrn.flushing, flushing := [], durable := c.jrn.flushing.foldl (fun m i => max m i.jseq) c.jrn.durable } } : Core).syncDone).journalState false))) ∧
  (∀ s : State, s.canSeal = true → 1024 ≤ s.core.jrn.sinceSeal → s.core.jrn.resumed = false → ∃ t b, exec .journalSeal s = .next t ∧
    b.jseq = s.core.jrn.nextJseq - 1 ∧ b.h = s.core.jrn.chain ∧ b.dt = s.core.now ∧ b.sig = deviceSign s.sec.sealKey (sha384 b.body) ∧
    t = s.kept { s with core := { s.core with jrn := { s.core.jrn with buffer := s.core.jrn.buffer ++ [.seal b], sealed := s.core.jrn.nextJseq - 1, sinceSeal := 0, sealTimer := s.core.now } } }) ∧
  (∀ s : State, s.canSeal = true → s.core.jrn.sealTimer + 10 ^ 9 ≤ s.core.now → s.core.jrn.sinceSeal = 0 →
    exec .sealTimer s = .next (s.kept { s with core := { s.core with jrn := { s.core.jrn with sealTimer := s.core.now } } })) ∧
  (∀ s : State, s.canSeal = true → s.core.jrn.sealTimer + 10 ^ 9 ≤ s.core.now → s.core.jrn.sinceSeal ≠ 0 → exec .sealTimer s = .next (s.kept (s.mapCore (fun c => c.sealNow s.sec.sealKey))))

/-- JournalRecoverRebuildsThePartition: with the journal RECOVERING, the peat store powered and the boot not halted, JOURNAL_RECOVER merges both reserve areas into the partition in journal order, empties them, and leaves RECOVERING with both reserves erased. -/
def Obligations.JournalRecoverRebuildsThePartition : Prop :=
  ∀ s : State, s.core.jrn.st = .recovering → Tbl.at s.pwr.dom .off 11 = .on → s.sec.bootHalted = false →
    let r0 := restoreItems s.core.jrn.part (Tbl.at s.peat.reserve [] 0)
    let r1 := restoreItems (s.core.jrn.part ++ r0) (Tbl.at s.peat.reserve [] 1)
    ∃ t, exec .journalRecover s = .next t ∧ t.peat = { s.peat with reserve := [] } ∧ t.core.jrn.part = mergeItems (mergeItems s.core.jrn.part r0) r1 ∧
      t.core.jrn.reserves = [true, true] ∧ t.core.jrn.st ≠ .recovering

/-- GroupCommandsComplete: GROUP_CREATE lists the group, owned by the issuer's instance, without members. GROUP_MEMBER appends a member, or takes it out, and moves the group's generation on; where there is nothing to do it answers SERVED with RESULT1 1 and changes nothing. GROUP_DESTROY of a group in no other group, with no command at work on it, takes it out of the list. -/
def Obligations.GroupCommandsComplete : Prop :=
  cmdGroupCreate.Serves .groupCreate (fun _ _ _ => True)
    (fun w p z => ({ z with core := { z.core with groups := Tbl.put z.core.groups (uKey (pkUnit p)) { owner := w.inst, members := [] } } }, Rsp.plain .served)) ∧
  cmdGroupMember.Serves .groupMember (fun z _ p => ∃ g, Tbl.find z.core.groups (uKey (pkUnit p)) = some g ∧ bitOf (pkW p 0) 32 = g.members.contains (pkF p 0 31 0))
    (fun _ p z =>
      let g := (Tbl.find z.core.groups (uKey (pkUnit p))).getD { owner := 0, members := [] }
      let ms := if bitOf (pkW p 0) 32 then g.members.filter (· != pkF p 0 31 0) else g.members ++ [pkF p 0 31 0]
      (z.mapCore (fun c => ({ c with groups := Tbl.put c.groups (uKey (pkUnit p)) { g with members := ms } } : Core).bump (uKey (pkUnit p))), Rsp.plain .served)) ∧
  cmdGroupMember.Serves .groupMember (fun z _ p => ∃ g, Tbl.find z.core.groups (uKey (pkUnit p)) = some g ∧ bitOf (pkW p 0) 32 ≠ g.members.contains (pkF p 0 31 0))
    (fun _ _ z => (z, Rsp.ok 0 1 0)) ∧
  cmdGroupDestroy.Serves .groupDestroy
    (fun z _ p => ∃ t, ((z.leaveGroups (pkUnit p)).startTr (pkUnit p) .powerDown).trOf (pkUnit p) = some t ∧ ((z.leaveGroups (pkUnit p)).startTr (pkUnit p) .powerDown).groupBusy (pkUnit p) = false)
    (fun _ p z =>
      let z1 := (z.leaveGroups (pkUnit p)).startTr (pkUnit p) .powerDown
      match z1.trOf (pkUnit p) with
      | some t => (z1.quiet (pkUnit p) t, Rsp.plain .served)
      | none => (z1, Rsp.plain .served))

/-- UnitResetsComplete: UNIT_RESET on one unit of Table 1.13 that is ACTIVE starts its drain for a reset at device time, and the command waits for the unit. UNIT_DRAIN_START on an ACTIVE unit of this device, of a class with transitions of its own and not leased, makes it DRAINING for what was asked, from device time. UNIT_QUIET on a draining unit that holds nothing more, and DRAIN_LIMIT_EXPIRE on one whose limit has passed, after aborting what it holds, make it QUIET and then its groups. The end of a drain moves the generation of its unit on to the next, never 0x0000, and of no other unit; no transition changes by it. -/
def Obligations.UnitResetsComplete : Prop :=
  (
  cmdUnitReset.Starts .unitReset (fun z _ p => isGroupUnit (pkUnit p) = false ∧ z.trOf (pkUnit p) = none ∧ z.isActive (pkUnit p) = true)
    (fun _ p z => ({ z with core := { z.core with trans := Tbl.put z.core.trans (uKey (pkUnit p)) { phase := .draining, kind := .reset, queued := [], discarded := 0, began := z.core.now } } }, .unit (uKey (pkUnit p))))) ∧
  (
  (∀ (s : State) (unit : BitVec 32) (kind : Transition), s.foreign unit.toNat = false → unitInRange unit.toNat = true → 0x02 < uCls unit.toNat → uCls unit.toNat ≠ 0xA0 → s.leased unit.toNat = false →
    s.trOf unit.toNat = none → s.isActive unit.toNat = true →
    exec (.unitDrainStart unit kind) s = .next (s.kept { s with core := { s.core with trans := Tbl.put s.core.trans (uKey unit.toNat) { phase := .draining, kind := kind, queued := [], discarded := 0, began := s.core.now } } })) ∧
  (∀ (s : State) (unit : BitVec 32) (t : UnitTr), s.foreign unit.toNat = false → uCls unit.toNat ≠ 0xA0 → s.trOf unit.toNat = some t → t.phase = .draining → s.drained unit.toNat t = true →
    exec (.unitQuiet unit) s = .next (s.kept ((s.quiet unit.toNat t).settleGroups))) ∧
  (∀ (s : State) (unit : BitVec 32) (t : UnitTr), s.foreign unit.toNat = false → uCls unit.toNat ≠ 0xA0 → isGroupUnit unit.toNat = false → s.trOf unit.toNat = some t → t.phase = .draining → s.limitPast unit.toNat t = true →
    exec (.drainLimitExpire unit) s = .next (s.kept (((s.abortHeld (heldFor unit.toNat)).quiet unit.toNat t).settleGroups)))) ∧
  (
  ∀ (s : State) (u d : Nat), (s.bumpDrained u d).core.genOf u = nextGen (s.core.genOf u) ∧ (s.bumpDrained u d).core.trans = s.core.trans ∧ (∀ v, uKey v ≠ uKey u → (s.bumpDrained u d).core.genOf v = s.core.genOf v) ∧
    nextGen (s.core.genOf u) ≠ 0)

/-- LichenLinkAndPaceComplete: An acknowledgement lets go of the flits before the expected sequence; a NAK resends, and counts, what the replay buffer holds from the named sequence; a flit that fails its CRC is counted and starts dropping; the next stream data flit in order is taken. The first failed lane's stripe moves to the spare and both directions replay; where the spare is used the link is in 2-lane operation and MGMT is interrupted. A frond whose heartbeats have been lost for 2 ms raises its cause. The heartbeats go out to all nine fronds when they are due. A sample takes the 48 Canvas and 8 Warden readings; device pace is the largest Canvas reading; while the 100 us window is not full no overload begins or ends. OVERLOAD_EXIT after 1 ms of calm ends the overload, sets FLOOR_MISS, interrupts MGMT and the manager and sends PACE_OVERLOAD with flag 0. -/
def Obligations.LichenLinkAndPaceComplete : Prop :=
  (
  (∀ s : State, s.lnk.up = true → s.lnk.toWarden.sinceAck ≠ 0 →
    exec (.lichenAck true) s = .next (s.kept { s with lnk := { s.lnk with toWarden := { s.lnk.toWarden.free s.lnk.toWarden.expect with sinceAck := 0 } } })) ∧
  (∀ s : State, s.lnk.up = true → s.lnk.toCanvas.sinceAck ≠ 0 →
    exec (.lichenAck false) s = .next (s.kept { s with lnk := { s.lnk with toCanvas := { s.lnk.toCanvas.free s.lnk.toCanvas.expect with sinceAck := 0 } } })) ∧
  (∀ (s : State) (seq : Nat), s.lnk.up = true → (seq + 4096 - s.lnk.toWarden.acked) % 4096 ≤ s.lnk.toWarden.replay.length →
    exec (.lichenNakReceive true seq) s = .next (s.kept { s with lnk := { s.lnk with toWarden := { s.lnk.toWarden with acked := seq % 4096, replay := s.lnk.toWarden.replay.drop ((seq + 4096 - s.lnk.toWarden.acked) % 4096) }, replayCount := satAdd s.lnk.replayCount (s.lnk.toWarden.replay.length - (seq + 4096 - s.lnk.toWarden.acked) % 4096) } })) ∧
  (∀ (s : State) (flit : List Byte) (item : Option (BitVec 32 × Gen × BitVec 32)), s.lnk.up = true → lichenOk flit = false →
    exec (.lichenFlitReceive true flit item) s = .next (s.kept { s with lnk := { s.lnk with crcErr := satInc s.lnk.crcErr, toWarden := { s.lnk.toWarden with dropping := true } } })) ∧
  (∀ (s : State) (flit : List Byte), s.lnk.up = true → lichenOk flit = true → fld (ofLe (flit.take 2)) 13 12 < 2 → fld (ofLe (flit.take 2)) 15 14 ≠ 1 → fld (ofLe (flit.take 2)) 11 0 = s.lnk.toWarden.expect → s.lnk.toWarden.sinceAck < 63 →
    exec (.lichenFlitReceive true flit none) s = .next (s.kept { s with lnk := { s.lnk with toWarden := { s.lnk.toWarden with expect := (s.lnk.toWarden.expect + 1) % 4096, dropping := false, sinceAck := s.lnk.toWarden.sinceAck + 1 } } }))) ∧
  (
  (∀ (s : State) (lane : Nat), lane < 4 → s.lnk.up = true → s.lnk.laneFail = 0 → s.lnk.spareUsed = false →
    exec (.laneFail lane) s = .next (s.kept { s with lnk := { s.lnk with laneFail := 2 ^ lane, spareUsed := true, replacedLane := lane, replayCount := satAdd s.lnk.replayCount (s.lnk.toWarden.replay.length + s.lnk.toCanvas.replay.length) } })) ∧
  (∀ (s : State) (lane : Nat), lane < 5 → s.lnk.up = true → bitOf s.lnk.laneFail lane = false → s.lnk.spareUsed = true →
    ∃ t, exec (.laneFail lane) s = .next t ∧ t.lnk = { s.lnk with laneFail := s.lnk.laneFail + 2 ^ lane, degraded := true, replayCount := satAdd s.lnk.replayCount (s.lnk.toWarden.replay.length + s.lnk.toCanvas.replay.length) } ∧ Irq.mgmtLinkDegraded ∈ t.core.irqs) ∧
  (∀ (s : State) (frond : Nat), frond < 9 → Tbl.at s.lnk.lastBeat 0 frond + 2000000 ≤ s.core.now → Tbl.at s.lnk.osuFault false frond = false →
    exec (.heartbeatLoss frond) s = .next (s.kept (({ s with lnk := { s.lnk with osuFault := Tbl.put s.lnk.osuFault frond true } } : State).causeOnFrond .heartbeat true frond))) ∧
  (∀ s : State, s.lnk.up = true → s.lnk.heartbeatsStopped = false → s.sec.run ≠ .gaveUp → s.lnk.lastBeat = [] → s.lnk.osuFault = [] → s.lnk.toCanvas.replay.length + 9 ≤ 1024 →
    ∃ t, exec .osuHeartbeatSend s = .next t ∧ (∀ f, f < 9 → Tbl.find t.lnk.lastBeat f = some s.core.now) ∧ t.lnk.toCanvas.msgCount = s.lnk.toCanvas.msgCount + 9 ∧ t.lnk.toCanvas.replay.length = s.lnk.toCanvas.replay.length + 9)) ∧
  (
  (∀ (s : State) (canvas warden : List Nat), canvas.length = 48 → warden.length = 8 → s.lnk.window.length + 1 < 100 →
    ∃ t, exec (.paceSample canvas warden) s = .next t ∧ t.lnk.pacePs = min (canvas.foldl max 0) 65535 ∧ t.lnk.canvasPace = canvas ∧ t.lnk.wardenPace = warden ∧ t.lnk.window = s.lnk.window ++ [canvas.foldl max 0] ∧
      t.lnk.overload = s.lnk.overload ∧ t.core = s.core ∧ t.mem = s.mem) ∧
  (∀ s : State, s.lnk.overload = true → 1000 ≤ s.lnk.calmUs →
    exec .overloadExit s = .next (s.kept (({ s with lnk := { s.lnk with overload := false, floorMiss := true, calmUs := 0 } } : State).mapCore (fun c => ((c.irq .mgmtPace).irq .managerPace).notify 0x0010 0 0 [0])))))

/-- SlicesAndInstancesComplete: SLICE_CREATE opens the slice with its PASID, translation switch, control block and stage-1 base. SLICE_DESTROY and SLICE_RESET take the slice out of use and wait for its drain. INSTANCE_RESET, a function-level reset of a VF or of the PF, and a clear VF enable ask for a reset of each instance; it begins where no reset of the instance or of a slice of it is in progress. RESET_DONE ends a reset whose engines have stopped, or forces them to at 2 ms. An admission decision answers the next state of the model's one decision (R126 to R134, log entry 1 for when it runs). A record that waits for an ACTIVE instance is in force after it, and waits no longer. Where nothing waits it changes nothing. -/
def Obligations.SlicesAndInstancesComplete : Prop :=
  (
  cmdSliceCreate.Serves .sliceCreate (fun _ _ _ => True)
    (fun _ p z => (z.mapCore (fun c => c.openSlice (uIdx (pkUnit p)) (uSub (pkUnit p)) (freshSlice (pkF p 0 19 0) (bitOf (pkW p 0) 20) (pkW p 1) (pkW p 2))), Rsp.plain .served)) ∧
  (∀ (c : Core) (i k : Nat) (sl : Slice), (i ≠ 0 ∨ k ≠ 0) → (c.openSlice i k sl).slice i k = some sl) ∧
  (∀ (pasid : Nat) (off : Bool) (cb base : Nat), (freshSlice pasid off cb base).st = .opened ∧ (freshSlice pasid off cb base).pasid = pasid ∧ (freshSlice pasid off cb base).disable = off ∧
    (freshSlice pasid off cb base).cb = cb ∧ (freshSlice pasid off cb base).s1base = base ∧ (freshSlice pasid off cb base).visible = []) ∧
  cmdSliceDestroy.Starts .sliceDestroy (fun _ _ _ => True)
    (fun _ p z => ((z.startTr (pkUnit p) .powerDown).mapCore (fun c => c.updSlice (uIdx (pkUnit p)) (uSub (pkUnit p)) (fun sl => { sl with st := .draining, visible := [] })), .unit (uKey (pkUnit p)))) ∧
  cmdSliceReset.Starts .sliceReset (fun z _ p => z.resetting (uIdx (pkUnit p)) (uSub (pkUnit p)) = false)
    (fun _ p z => (z.beginReset (uIdx (pkUnit p)) (some (uSub (pkUnit p))) false, .unit (uKey (pkUnit p))))) ∧
  (
  cmdInstanceReset.Starts .instanceReset (fun z _ _ => z.core.resets = [])
    (fun _ p z => (z.beginReset (uIdx (pkUnit p)) none false, .unit (uKey (pkUnit p)))) ∧
  (∀ s : State, s.core.ready = true → s.core.resets = [] → exec (.functionLevelReset 0) s = .next (s.kept (s.beginReset 0 none true))) ∧
  (∀ (s : State) (inst : Nat), s.core.ready = true → 0 < inst → inst < 64 →
    exec (.functionLevelReset inst) s = .next (s.kept ((s.mapCore (fun c => c.notify 0x0004 inst (uid 0x01 inst 0) [])).askReset inst true))) ∧
  (∀ s : State, s.core.ready = true → exec .vfEnableClear s = .next (s.kept ((List.range 63).foldl (fun t i => t.askReset (i + 1) false) s))) ∧
  (∀ (s : State) (inst : Nat) (slice : Option Nat), ∀ r, Tbl.find s.core.resets (resetUnit inst slice) = some r → r.queued = false → s.stopped inst slice = true →
    exec (.resetDone inst slice) s = .next (s.kept ((s.endReset inst slice r).nextReset inst))) ∧
  (∀ (s : State) (inst : Nat) (slice : Option Nat), ∀ r, Tbl.find s.core.resets (resetUnit inst slice) = some r → r.queued = false → s.stopped inst slice = false → r.start + 2 * 10 ^ 6 ≤ s.core.now →
    exec (.resetDone inst slice) s = .next (s.kept (((s.forceStop inst slice).1.endReset inst slice { r with decodes := r.decodes + (s.forceStop inst slice).2 }).nextReset inst)))) ∧
  (
  (∀ s : State, exec .admissionDecision s = .next (s.kept s.runAdmission)) ∧
  (∀ (s : State) (inst : Nat) (sh : Share), s.core.sharesPending = [(inst, sh)] → s.isActive (uid 0x01 inst 0) = true → Tbl.has s.core.resets (uid 0x01 inst 0) = false → s.core.owed = [] → s.ras.jobs = [] → s.core.slices = [] →
    ∃ t, exec .admissionDecision s = .next t ∧ Tbl.find t.core.shares inst = some sh ∧ t.core.sharesPending = []) ∧
  (∀ s : State, s.core.sharesPending = [] → s.core.shares = [] → s.core.owed = [] → s.ras.jobs = [] → s.core.slices = [] → exec .admissionDecision s = .next (s.kept s)))

/-- ShareMailboxAndTranslationComplete: SHARE_SET stores the record as the newest of its instance, to take effect later. DTU_INVALIDATE removes the cached translations it names and no others. STAGE2_SET sets an instance's stage-2 base and enable and drops its cached stage-2 translations. ADMISSION_STATUS answers the instance's counts. The manager's head write gives entries back and posts what waits; a VF's send copies its bytes to its slot of the up mailbox, marks the request and notifies the manager, and sets BUSY where the last request has no reply; a reply of the manager reaches VF_MBOX_RSP, sets REPLY and raises the mailbox vector; a read of VF_MBOX_RSP answers its bytes and clears REPLY. -/
def Obligations.ShareMailboxAndTranslationComplete : Prop :=
  (
  cmdShareSet.Serves .shareSet (fun _ _ _ => True)
    (fun _ p z => ({ z with core := { z.core with sharesPending := Tbl.put z.core.sharesPending (uIdx (pkUnit p)) (shareOf p) } }, Rsp.plain .served)) ∧
  cmdDtuInvalidate.Serves .dtuInvalidate (fun _ _ _ => True)
    (fun _ p z => ({ z with core := { z.core with tlb := z.core.tlb.filter (fun e => !invalidated z p e) } }, Rsp.plain .served)) ∧
  cmdStage2Set.Serves .stage2Set (fun _ _ _ => True)
    (fun _ p z => ({ z with core := { z.core with stage2 := Tbl.put z.core.stage2 (uIdx (pkUnit p)) { base := pkW p 0 / 4096 * 4096, enabled := bitOf (pkW p 0) 0 },
                                                  tlb := z.core.tlb.filter (fun e => !(e.inst == uIdx (pkUnit p) && e.stage == 2)) } }, Rsp.plain .served)) ∧
  cmdAdmissionStatus.Answers .admissionStatus (fun _ _ p => pkW p 0 = 0)
    (fun _ p z => (z, Rsp.ok (Tbl.at z.core.adm AdmCount.zero (uIdx (pkUnit p))).delayed (Tbl.at z.core.adm AdmCount.zero (uIdx (pkUnit p))).refused (Tbl.at z.core.adm AdmCount.zero (uIdx (pkUnit p))).late)) ∧
  cmdStage2Set.Answers .stage2Set (fun _ _ _ => True)
    (fun w p z => z.answerWords w p [BitVec.ofNat 64 ((Tbl.at z.core.stage2 { base := 0, enabled := false } (uIdx (pkUnit p))).base + b2n (Tbl.at z.core.stage2 { base := 0, enabled := false } (uIdx (pkUnit p))).enabled)])) ∧
  (
  (∀ (s : State) (head : Nat), s.core.waitingN = [] → s.core.keptN = [] → exec (.mgtMboxUpHeadWrite head) s = .next (s.kept { s with core := { s.core with upHead := head % 2 ^ 32 } })) ∧
  (∀ (s : State) (head : Nat), exec (.mgtMboxUpHeadWrite head) s = .next (s.kept (s.mapCore (fun c => Core.postWaiting (c.waitingN.length + c.keptN.length) { c with upHead := head % 2 ^ 32 })))) ∧
  (∀ (s : State) (inst count : Nat), 0 < inst → inst < 64 → count ≤ 512 → Tbl.at s.core.vfAsked false inst = true →
    exec (.vfMboxSend inst count) s = .next (s.kept { s with core := { s.core with vfBusy := Tbl.put s.core.vfBusy inst true } })) ∧
  (∀ (s : State) (inst count : Nat), 0 < inst → inst < 64 → count ≤ 512 → Tbl.at s.core.vfAsked false inst = false → s.core.mboxUp ≠ 0 →
    exec (.vfMboxSend inst count) s = .next (s.kept (s.mapCore (fun c =>
      Core.notify { Core.wr2 0 ((fit 512 (Tbl.at c.vfReq [] inst)).take count) c (c.mboxUp + 32768 + 512 * inst) with vfAsked := Tbl.put c.vfAsked inst true } 0x0003 inst (uid 0x01 inst 0) (le 2 count))))) ∧
  (∀ (s : State) (inst count : Nat), 0 < inst → inst < 64 → count ≤ 1024 → s.core.mboxDown ≠ 0 →
    ∃ t, exec (.mgtMboxReply inst count []) s = .next t ∧ Tbl.find t.core.vfReply inst = some true ∧ Tbl.find t.core.vfAsked inst = some false ∧ Tbl.find t.core.vfBusy inst = some false ∧
      Tbl.find t.core.vfRsp inst = some (s.core.rd2 0 (s.core.mboxDown + 1024 * inst) count ++ (fit 1024 (Tbl.at s.core.vfRsp [] inst)).drop count)) ∧
  (∀ (s : State) (inst off size : Nat), 0 < inst → inst < 64 → off + size ≤ 1024 →
    exec (.vfMboxRspRead inst off size) s = .next (s.kept { s with core := { s.core with rdData := ((fit 1024 (Tbl.at s.core.vfRsp [] inst)).drop off).take size, vfReply := Tbl.put s.core.vfReply inst false } })))

/-- SecureCommandsComplete: What the secure firmware's commands leave: KEY_LOAD a key in an operator or session slot, sessions of a replaced slot ended and register 11 extended; LEASE_SET leases set or ended; TAMPER_SET one input's configuration; TAMPER_CLEAR no latched tamper; REGULATED_SET, in regulated mode already, nothing more. DEBUG_CLOSE clears the four debug enables and extends register 12. SEC_SESSION_CLOSE ends one slice's session. SEC_SESSION_OPEN whose signature verifies ends the challenge, opens the session under the named key slot at device time, and answers the slot and its CERTIFIED flag. APPROVED_SET whose list is well formed and signed by the named operator key puts the list in force and extends register 9. -/
def Obligations.SecureCommandsComplete : Prop :=
  (
  cmdKeyLoad.Serves .keyLoad (fun _ _ p => pkF p 0 3 0 < 4)
    (fun _ p z => (({ z with sec := { z.sec with operatorKeys := Tbl.put z.sec.operatorKeys (pkF p 0 3 0) (pkSpan p 1 12) } } : State).extend 11 (le 1 (pkF p 0 3 0) ++ pkSpan p 1 12), Rsp.plain .served)) ∧
  cmdKeyLoad.Serves .keyLoad (fun _ _ p => 4 ≤ pkF p 0 3 0)
    (fun _ p z => ((({ z with sec := { z.sec with sessionKeys := Tbl.put z.sec.sessionKeys (pkF p 0 3 0 - 4) { key := pkSpan p 1 12, certified := bitOf (pkW p 0) 8 } } } : State).endSessions (fun a => a.slot == pkF p 0 3 0 - 4)).extend 11 (le 1 (pkF p 0 3 0) ++ pkSpan p 1 12), Rsp.plain .served)) ∧
  cmdLeaseSet.Serves .leaseSet (fun _ _ _ => True)
    (fun _ p z => ({ z with sec := { z.sec with leases := (z.leaseUnits (pkF p 0 31 0)).foldl (fun t u => if bitOf (pkW p 0) 32 then Tbl.del t u else Tbl.put t u true) z.sec.leases } }, Rsp.plain .served)) ∧
  cmdTamperSet.Serves .tamperSet (fun _ _ p => bitOf (pkW p 0) 31 = false)
    (fun _ p z => ({ z with sec := { z.sec with tamperCfg := Tbl.put z.sec.tamperCfg (pkF p 0 34 32) (pkF p 0 31 0) } }, Rsp.plain .served)) ∧
  cmdTamperClear.Serves .tamperClear (fun _ _ _ => True) (fun _ _ z => ({ z with sec := { z.sec with tamperLatched := [] } }, Rsp.plain .served)) ∧
  cmdRegulatedSet.Serves .regulatedSet (fun z _ _ => z.regulated = true) (fun _ _ z => (z, Rsp.plain .served)) ∧
  cmdRegulatedSet.Serves .regulatedSet (fun z _ _ => z.regulated = false)
    (fun _ _ z =>
      let z1 := (z.mapCore (fun c => { c with jrn := { c.jrn with regulated := true } })).extend 10 (le 4 6)
      (z1.mapCore (fun c => (c.event 0xFE95 0 0 1 ((z1.measOf 10).take 16)).journalState false), Rsp.plain .served)) ∧
  cmdDebugClose.Serves .debugClose (fun _ _ _ => True) (fun _ _ z => (({ z with sec := { z.sec with dbgEnables := 0 } } : State).extend 12 [0], Rsp.plain .served)) ∧
  cmdSecSessionClose.Serves .secSessionClose (fun _ _ _ => True)
    (fun _ p z => (z.mapCore (fun c => c.updSlice (uIdx (pkUnit p)) (uSub (pkUnit p)) (fun sl => { sl with auth := none })), Rsp.plain .served))) ∧
  (
  cmdSecSessionOpen.Serves .secSessionOpen (fun z w p => sessionVerifies z w p = true)
    (fun w p z => ((z.putChallenge w none).putAuth w { slot := pkF p 0 2 0, opened := z.core.now },
      Rsp.ok (pkF p 0 2 0) (b2n ((Tbl.find z.sec.sessionKeys (pkF p 0 2 0)).elim false SessKey.certified)) 0)) ∧
  cmdApprovedSet.Serves .approvedSet
    (fun z w p => ∃ bs key, (z.hostRead w (pkW p 0) (64 * pkW p 1 + 100)).2 = .ok bs ∧ approvedOk (pkW p 1) (bs.take (64 * pkW p 1)) = true ∧
      Tbl.find (z.hostRead w (pkW p 0) (64 * pkW p 1 + 100)).1.sec.operatorKeys (ofLe ((bs.drop (64 * pkW p 1)).take 4)) = some key ∧
      ecdsaVerify key (sha384 (bs.take (64 * pkW p 1))) (bs.drop (64 * pkW p 1 + 4)) = true)
    (fun w p z =>
      let r := z.hostRead w (pkW p 0) (64 * pkW p 1 + 100)
      let list := match r.2 with | .ok bs => bs.take (64 * pkW p 1) | .error _ => []
      (({ r.1 with sec := { r.1.sec with approved := approvedOf (pkW p 1) list, approvedWords := [BitVec.ofNat 64 (pkW p 0), BitVec.ofNat 64 (pkW p 1)] } } : State).extend 9 list, Rsp.plain .served)))

/-- SecureQueriesAnswer: SEC_STATUS, DEBUG_STATUS, MEASURE_READ and ATTEST answer the mode and attestation flags and the number of leases, the debug enables and failures, the sixteen measurement registers and then their counts, 832 bytes where each register holds 48, to the buffer in word 0, and the signed report. -/
def Obligations.SecureQueriesAnswer : Prop :=
  cmdSecStatus.Answers .secStatus (fun _ _ _ => True) (fun _ _ z => (z, Rsp.ok z.secMode z.attestFlags z.sec.leases.length)) ∧
  cmdDebugStatus.Answers .debugStatus (fun _ _ _ => True) (fun _ _ z => (z, Rsp.ok z.dbgStatus z.dbgFail 0)) ∧
  cmdMeasureRead.Answers .measureRead (fun _ _ _ => True)
    (fun w p z => z.answer w (pkW p 0) ((List.range 16).flatMap z.measOf ++ (List.range 16).flatMap (fun n => le 4 (Tbl.cnt z.sec.measCount n))) (Rsp.ok 832 0 0)) ∧
  cmdAttest.Answers .attest (fun z _ _ => z.sec.run ≠ .gaveUp) (fun w p z => z.answer w (pkW p 4) (z.report (pkSpan p 0 4)) (Rsp.ok 1024 0 0)) ∧
  (∀ s : State, (∀ n, (s.measOf n).length = 48) → ((List.range 16).flatMap s.measOf ++ (List.range 16).flatMap (fun n => le 4 (Tbl.cnt s.sec.measCount n))).length = 832) ∧
  (∀ p, cmdSecStatus.asks p = true ∧ cmdDebugStatus.asks p = true ∧ cmdMeasureRead.asks p = true ∧ cmdAttest.asks p = true)

/-- ExtensionReplacesTheMeasurementRegister: an extension of register n with a digest replaces it with SHA-384 of the register followed by the digest and increments its count, and leaves every other register. -/
def Obligations.ExtensionReplacesTheMeasurementRegister : Prop :=
  ∀ (s : State) (n : Nat) (d : List Byte), (s.extendDigest n d).measOf n = sha384 (s.measOf n ++ d) ∧ Tbl.cnt (s.extendDigest n d).sec.measCount n = satInc (Tbl.cnt s.sec.measCount n) ∧
    ∀ m, m ≠ n → (s.extendDigest n d).measOf m = s.measOf m ∧ Tbl.cnt (s.extendDigest n d).sec.measCount m = Tbl.cnt s.sec.measCount m

/-- SecureRegistersAndEventsComplete: Written by the secure world, the lock bits are set and extend register 10, SEC_MEAS_EXTEND extends a register that is not marked hardware; the normal mailbox's last word appends its entry where there is room. A watchdog that expires after 50 ms, or a fault, restarts the running SEC and records the cause and device time. A restart whose image has the recorded digest, as the first of three within 600 s, runs again, counts and extends register 15; another digest makes the SEC give up and its heartbeats stop. A read of the challenge's first word draws a new one. The last word of an accepted debug certificate sets the enables it names; of another, it is counted and the eighth locks the port. An enabled tamper input asserted for its time is recorded on, and answered as configured; released, it is off. -/
def Obligations.SecureRegistersAndEventsComplete : Prop :=
  (
  (∀ s : State, s.sec.keyLock = false → exec (.secModeKeyLock .sec) s = .next (s.kept (({ s with sec := { s.sec with keyLock := true } } : State).extend 10 (le 4 8)))) ∧
  (∀ s : State, s.sec.approvedLock = false → exec (.secModeApprovedLock .sec) s = .next (s.kept (({ s with sec := { s.sec with approvedLock := true } } : State).extend 10 (le 4 7)))) ∧
  (∀ s : State, s.led.veilLock = false → exec (.ledVeilLock .sec) s = .next (s.kept ((s.lockVeil.extend 8 s.veilBytes).extend 10 (le 4 4)))) ∧
  (∀ s : State, s.aud.hpLock = false → exec (.lockBitSet .sec 5) s = .next (s.kept (({ s with aud := { s.aud with hpLock := true } } : State).extend 10 (le 4 5)))) ∧
  (∀ s : State, s.peat.retainLock = false → exec (.lockBitSet .sec 9) s = .next (s.kept (({ s with peat := { s.peat with retainLock := true } } : State).extend 10 (le 4 9)))) ∧
  (∀ (s : State) (n : Nat), n < 8 → bitOf (Tbl.cnt s.sec.tamperCfg n) 31 = false →
    exec (.lockBitSet .sec (16 + n)) s = .next (s.kept (({ s with sec := { s.sec with tamperCfg := Tbl.put s.sec.tamperCfg n (Tbl.cnt s.sec.tamperCfg n + 2 ^ 31) } } : State).extend 10 (le 4 (16 + n))))) ∧
  (∀ (s : State) (n : Nat) (d : List Byte), n < 16 → ¬ n ∈ [0, 6, 7, 8, 10, 12, 15] → d.length = 48 → exec (.secMeasExtend .sec n d) s = .next (s.kept (s.extendDigest n d))) ∧
  (∀ (s : State) (word : Nat), s.sec.nmbox.length < 256 →
    exec (.secNmboxPush .mgmt word) s = .next (s.kept { s with sec := { s.sec with nmPush := Memory.wrN s.sec.nmPush 60 (le 4 word), nmbox := s.sec.nmbox ++ [Memory.rdN (Memory.wrN s.sec.nmPush 60 (le 4 word)) 0 64] } }))) ∧
  (
  (∀ s : State, s.sec.run = .running → s.sec.wdog + 50 * 10 ^ 6 ≤ s.core.now →
    exec .secWatchdogExpire s = .next (s.kept { s with sec := { s.sec with run := .restarting, restartBegan := s.core.now, restartCause := 1 } })) ∧
  (∀ s : State, s.sec.run = .running → exec .secFault s = .next (s.kept { s with sec := { s.sec with run := .restarting, restartBegan := s.core.now, restartCause := 2 } })) ∧
  (∀ (s : State) (d : List Byte), s.sec.run = .restarting → d = s.sec.fwDigest → s.sec.restartTimes = [] →
    ∃ t, exec (.secRestartDone d) s = .next t ∧ t.sec.run = .running ∧ t.sec.restarts = s.sec.restarts + 1 ∧ t.sec.wdog = s.core.now ∧ t.sec.restartTimes = [s.sec.restartBegan] ∧
      Tbl.cnt t.sec.measCount 15 = satInc (Tbl.cnt s.sec.measCount 15) ∧ t.sec.leases = s.sec.leases ∧ t.sec.nmbox = s.sec.nmbox) ∧
  (∀ (s : State) (d : List Byte), s.sec.run = .restarting → d ≠ s.sec.fwDigest → ∃ t, exec (.secRestartDone d) s = .next t ∧ t.sec = { s.sec with run := .gaveUp } ∧ t.lnk = { s.lnk with heartbeatsStopped := true })) ∧
  (
  (∀ s : State, exec .dbgChallengeRead s = .next (s.kept (({ s with sec := { s.sec with dbgChallenge := le 48 (Config.trng s.core.freeCtr).toNat } } : State).mapCore (fun c => { c with freeCtr := c.freeCtr + 1 })))) ∧
  (∀ (s : State) (word : Nat), s.sec.dbgLocked = false →
    certOk { s with sec := { s.sec with dbgCert := Memory.wrN s.sec.dbgCert 252 (le 4 word) } } (Memory.rdN (Memory.wrN s.sec.dbgCert 252 (le 4 word)) 0 256) = true →
    ∃ t, exec (.dbgCertWrite word) s = .next t ∧ t = s.kept ([3, 2, 1, 0].foldl (fun u b => if bitOf ((Memory.rdN (Memory.wrN s.sec.dbgCert 252 (le 4 word)) 0 256).getD 16 0).toNat b then u.debugEnable b else u)
      { s with sec := { s.sec with dbgCert := Memory.wrN s.sec.dbgCert 252 (le 4 word) } })) ∧
  (∀ (s : State) (word : Nat), s.sec.dbgLocked = false →
    certOk { s with sec := { s.sec with dbgCert := Memory.wrN s.sec.dbgCert 252 (le 4 word) } } (Memory.rdN (Memory.wrN s.sec.dbgCert 252 (le 4 word)) 0 256) = false →
    exec (.dbgCertWrite word) s = .next (s.kept { s with sec := { s.sec with dbgCert := Memory.wrN s.sec.dbgCert 252 (le 4 word), dbgCertFail := min 0xFFFF (s.sec.dbgCertFail + 1), dbgLocked := decide (8 ≤ s.sec.dbgCertFail + 1) } })) ∧
  (∀ (s : State) (input ms : Nat), input < 8 → bitOf (Tbl.cnt s.sec.tamperCfg input) 1 = true → fld (Tbl.cnt s.sec.tamperCfg input) 23 16 ≤ ms → ¬ input ∈ s.sec.tamperOn → bitOf (Tbl.cnt s.sec.tamperCfg input) 8 = false → s.onlyAon = false →
    exec (.tamperAssert input ms) s = .next (s.kept ((({ s with sec := { s.sec with tamperOn := s.sec.tamperOn ++ [input] } } : State).tamperEvent input (Tbl.cnt s.sec.tamperCfg input) true).tamperResponds (Tbl.cnt s.sec.tamperCfg input)))) ∧
  (∀ (s : State) (input ms : Nat), input ∈ s.sec.tamperOn → fld (Tbl.cnt s.sec.tamperCfg input) 23 16 ≤ ms → s.onlyAon = false →
    exec (.tamperRelease input ms) s = .next (s.kept (({ s with sec := { s.sec with tamperOn := s.sec.tamperOn.filter (· != input) } } : State).tamperEvent input (Tbl.cnt s.sec.tamperCfg input) false))))

/-- NormalWorldCannotWriteSecureRegisters: a write of the key, approved-list, veil, headphone or retention lock, or of a measurement register, by any other requester sets nothing: it is counted as denied, or, from a virtual function, has no effect. -/
def Obligations.NormalWorldCannotWriteSecureRegisters : Prop :=
  ∀ (s : State) (req : Requester) (n : Nat) (d : List Byte), req ≠ .sec →
    ∀ c ∈ [Instr.secModeKeyLock req, .secModeApprovedLock req, .ledVeilLock req, .secMeasExtend req n d, .lockBitSet req 5, .lockBitSet req 9],
      ∃ t, exec c s = .next t ∧ t = s.kept { s with sec := { s.sec with worldDeny := t.sec.worldDeny } } ∧ (t.sec.worldDeny = s.sec.worldDeny ∨ t.sec.worldDeny = satInc s.sec.worldDeny)

/-- MemoryRequestsComplete: a write that hits a locked surface, not with that surface's own reference, is dropped, counted and answered DROPPED; any other request that the region controller does not permit is answered DROPPED or ERROR and counted; neither stores anything. A permitted read, or a write outside every surface or to an unlocked one without a mirror, is queued at its group and a slot cycle runs, or, where the group does not serve, is answered POISON or WRITE_LOST. A write to a mirrored surface is queued at both groups, where both serve. -/
def Obligations.MemoryRequestsComplete : Prop :=
  (∀ (s : State) (port : Nat) (inst : Option Nat) (slice band : Nat) (addr : Nat) (data : List Byte) (surface : Option Nat) (n off : Nat) (sf : Surf),
    s.surfAt (addr % 2 ^ 36) = some (n, sf, off) → sf.locked = true → (surface ≠ some n ∨ sf.written = false) →
    let t := s.lockDrop (inst.getD 0) slice n off 2
    exec (.memoryRequest port inst slice band true addr data surface) s = .next (s.kept { t with mem := { t.mem with answer := some .dropped } }) ∧ t.mem.dram = s.mem.dram ∧
      (Tbl.has s.srf.surfs n = true → Tbl.cnt t.srf.dropCount (inst.getD 0) = satInc (Tbl.cnt s.srf.dropCount (inst.getD 0)))) ∧
  (∀ (s : State) (port : Nat) (inst : Option Nat) (slice band : Nat) (write : Bool) (addr : Nat) (data : List Byte) (surface : Option Nat),
    (write = true → ∀ e, s.surfAt (addr % 2 ^ 36) = some e → e.2.1.locked = false) → s.permits port write (addr % 2 ^ 36) = false →
    let t := s.deny port inst slice write (addr % 2 ^ 36)
    exec (.memoryRequest port inst slice band write addr data surface) s = .next (s.kept { t with mem := { t.mem with answer := some (if write then .dropped else .error) } }) ∧ t.mem.dram = s.mem.dram ∧
      (t.group (addrGroup (addr % 2 ^ 36))).rgnViol = satInc (s.group (addrGroup (addr % 2 ^ 36))).rgnViol) ∧
  (∀ (s : State) (port : Nat) (inst : Option Nat) (slice band : Nat) (write : Bool) (addr : Nat) (data : List Byte) (surface : Option Nat),
    (write = true → ∀ e, s.surfAt (addr % 2 ^ 36) = some e → e.2.1.locked = false ∧ e.2.1.mirror = none) → s.permits port write (addr % 2 ^ 36) = true →
    let r : MemReq := { port := port, inst := inst, slice := slice, band := band, write := write, addr := addr % 2 ^ 36, data := data, surface := surface }
    ((s.group (addrGroup r.addr)).st.serves = true → exec (.memoryRequest port inst slice band write addr data surface) s = .next (s.kept (s.enqueue r))) ∧
    ((s.group (addrGroup r.addr)).st.serves = false →
      exec (.memoryRequest port inst slice band write addr data surface) s = .next (s.kept { s with mem := { s.mem with answer := some (if write then .writeLost else .poison) } }))) ∧
  (∀ (s : State) (port : Nat) (inst : Option Nat) (slice band : Nat) (addr : Nat) (data : List Byte) (surface : Option Nat) (n off m : Nat) (sf : Surf),
    s.surfAt (addr % 2 ^ 36) = some (n, sf, off) → sf.locked = false → sf.mirror = some m → s.permits port true (addr % 2 ^ 36) = true → (s.group sf.home).st.serves = true → (s.group (1 - sf.home)).st.serves = true →
    let r : MemReq := { port := port, inst := inst, slice := slice, band := band, write := true, addr := addr % 2 ^ 36, data := data, surface := surface }
    exec (.memoryRequest port inst slice band true addr data surface) s = .next (s.kept (((s.enqueue { r with addr := sf.homeBase + off }).enqueue { r with addr := sf.mirrorBase m + off }).updSurf n (fun x => x))))

/-- IssuedRequestStoresOrReads: a request that its group issues leaves the queue; a write stores its bytes at its address and no other byte changes, and is answered; a read of a block that is not poisoned stores nothing and is answered with the 64 bytes of its block. -/
def Obligations.IssuedRequestStoresOrReads : Prop :=
  ∀ (s : State) (g : Nat) (r : MemReq), Memory.wf s.mem.dram = true →
    (r.write = true → (s.issue g r).mem.answer = some .done ∧ Memory.rdN (s.issue g r).mem.dram r.addr r.data.length = r.data ∧ Memory.wf (s.issue g r).mem.dram = true ∧
      ∀ a, (a < r.addr ∨ r.addr + r.data.length ≤ a) → Memory.rd (s.issue g r).mem.dram a = Memory.rd s.mem.dram a) ∧
    (r.write = false → (s.group g).poison.contains (r.addr / 64 * 64) = false →
      (s.issue g r).mem.answer = some (.data (Memory.rdN s.mem.dram (r.addr / 64 * 64) 64)) ∧ (s.issue g r).mem.dram = s.mem.dram) ∧
    ((r.write = true ∨ (s.group g).poison.contains (r.addr / 64 * 64) = false) → (s.issue g r).core = s.core ∧ (s.issue g r).led = s.led ∧ (s.issue g r).srf = s.srf)

/-- MemoryGroupsComplete: Written by the dispatch firmware: the grain, of 8 to 16 and in TRAINING, is set, or else dropped and counted; the locks are set once and extend register 10; a port's priority is set; a frozen group's recovery discards its queue. At the table wrap the pending bank becomes active; a group goes to the deepest low state R161 allows after its idle time, begins its exit on a request, and is ACTIVE again when the exit ends, from SR_DEEP at slot 0; MR4 sets the refresh rate; a due retraining starts, and is late after 50 ms. A correctable error is counted on its channel; a scrub pass records every uncorrectable block; a demand error freezes a group that serves, with its cause, channel, port and address; all channels passing training makes a group ACTIVE, a channel that fails makes it OFFLINE; a recovery whose channels all trained ends ACTIVE with the bad pages retired. -/
def Obligations.MemoryGroupsComplete : Prop :=
  (
  (∀ (s : State) (g grain : Nat), g < 2 → 8 ≤ grain → grain ≤ 16 → (s.group g).lock = false → (s.group g).st = .training →
    exec (.memCfgGrainWrite .dispatch g grain) s = .next (s.kept (s.updGroup g (fun m => { m with grain := grain })))) ∧
  (∀ (s : State) (g grain : Nat), g < 2 → (grain < 8 ∨ 16 < grain ∨ (s.group g).lock = true) →
    exec (.memCfgGrainWrite .dispatch g grain) s = .next (s.kept (s.updGroup g (fun m => { m with cfgWrDrop := satInc m.cfgWrDrop })))) ∧
  (∀ (s : State) (g : Nat), g < 2 → (s.group g).lock = false →
    exec (.memCfgLock .dispatch g) s = .next (s.kept ((s.updGroup g (fun m => { m with lock := true })).extend 10 (le 4 g)))) ∧
  (∀ (s : State) (g : Nat), g < 2 → (s.group g).rgnLock = false →
    exec (.memRgnLock .dispatch g) s = .next (s.kept ((s.updGroup g (fun m => { m with rgnLock := true })).extend 10 (le 4 (2 + g))))) ∧
  (∀ (s : State) (g port prio : Nat), g < 2 → port < 32 → prio < 4 →
    exec (.slotPrioWrite .dispatch g port prio) s = .next (s.kept (s.updGroup g (fun m => { m with prio := Tbl.put m.prio port prio })))) ∧
  (∀ (s : State) (g : Nat), g < 2 → (s.group g).st = .frozen →
    exec (.memRecover .pf g) s = .next (s.kept (s.updGroup g (fun m => { m with st := .recovering, queue := [] })))) ∧
  (∀ (s : State) (g : Nat) (f : MemGroup → MemGroup), g < 2 → (s.updGroup g f).group g = f (s.group g) ∧ (s.updGroup g f).group (1 - g) = s.group (1 - g) ∧ (s.updGroup g f).core = s.core)) ∧
  (
  (∀ (s : State) (g : Nat) (t : Tbl Nat), g < 2 → (s.group g).st = .active → (s.group g).pendingSlots = some t →
    ∃ u, exec (.slotTableSwap g) s = .next u ∧ (u.group g) = { s.group g with slots := t, pendingSlots := none, slotPos := 0 } ∧ u.core = s.core) ∧
  (∀ (s : State) (g : Nat) (st : GroupSt), g < 2 → (s.group g).st = .active → (s.group g).queue = [] → (s.group g).lastReq + (s.group g).idleNs ≤ s.core.now → (s.group g).lowState = some st →
    exec (.memSleepEnter g) s = .next (s.kept (s.updGroup g (fun m => { m with st := st, exiting := false })))) ∧
  (∀ (s : State) (g : Nat), g < 2 → (s.group g).st.low = true → Tbl.at s.pwr.dom .off (5 + g) = .on → (s.group g).queue ≠ [] →
    exec (.memSleepExit g) s = .next (s.kept (s.updGroup g (fun m => { m with exiting := true })))) ∧
  (∀ (s : State) (g : Nat), g < 2 → (s.group g).st.low = true → (s.group g).exiting = true →
    exec (.memExitComplete g) s = .next (s.kept (s.updGroup g (fun m => { m with st := .active, exiting := false, slotPos := if m.st = .srDeep then 0 else m.slotPos })))) ∧
  (∀ (s : State) (g rate : Nat), g < 2 → exec (.memRefreshPoll g rate) s = .next (s.kept (s.updGroup g (fun m => { m with refreshRate := rate })))) ∧
  (∀ (s : State) (g : Nat) (moved : Bool), g < 2 → (s.group g).st.serves = true → (s.group g).retrainDue = none → (moved = true ∨ (s.group g).lastRetrain + (s.group g).retrainMs * 10 ^ 6 ≤ s.core.now) →
    exec (.memRetrainDue g moved) s = .next (s.kept (s.updGroup g (fun m => { m with retrainDue := some s.core.now, retrainLeft := 512 })))) ∧
  (∀ (s : State) (g t : Nat), g < 2 → (s.group g).retrainDue = some t → t + 50 * 10 ^ 6 ≤ s.core.now →
    exec (.retrainLate g) s = .next (s.kept ((s.updGroup g (fun m => { m with retrainLate := true })).mapCore (fun k => k.irq .mgmtRetrainLate))))) ∧
  (
  (∀ (s : State) (g c : Nat), g < 2 → c < 8 → (s.group g).st.serves = true → (s.group g).ceTimes = [] → 1 ≤ (s.group g).ceLimit →
    exec (.memCorrectableError g c) s = .next (s.kept (s.updGroup g (fun m => { m with ceCount := Tbl.inc m.ceCount c, ceTimes := Tbl.put m.ceTimes c [s.core.now] })))) ∧
  (∀ (s : State) (g : Nat) (bad : List Nat), g < 2 → (s.group g).st.serves = true → exec (.memScrub g bad) s = .next (s.kept (bad.foldl (fun t a => t.latentUe g a) s))) ∧
  (∀ (s : State) (g a : Nat), g < 2 → ((s.latentUe g a).group g).latentUe = true ∧ a / 64 * 64 ∈ ((s.latentUe g a).group g).poison ∧ (s.latentUe g a).mem.dram = s.mem.dram) ∧
  (∀ (s : State) (g cause channel port addr : Nat) (inst : Option Nat) (band : Nat), g < 2 → exec (.memDemandError g cause channel port addr inst band) s = .next (s.kept (s.freeze g cause channel port addr inst band))) ∧
  (∀ (s : State) (g : Nat), g < 2 → (s.group g).st = .training → Tbl.at s.pwr.dom .off (5 + g) = .on →
    exec (.memTrainDone g 255) s = .next (s.kept (s.updGroup g (fun m => { m with st := .active, chTrained := 255, slotPos := 0, lastReq := s.core.now, lastRetrain := s.core.now })))) ∧
  (∀ (s : State) (g passed : Nat), g < 2 → (s.group g).st = .training → Tbl.at s.pwr.dom .off (5 + g) = .on → passed < 255 →
    ∃ t, exec (.memTrainDone g passed) s = .next t ∧ (t.group g) = { s.group g with st := .offline, lost := true, chTrained := passed }) ∧
  (∀ (s : State) (g : Nat) (bad : List Nat), g < 2 → (s.group g).st = .recovering → (retirePages (s.group g).badPages bad).length ≤ 256 →
    ∃ t, exec (.memRecovered g bad 255) s = .next t ∧ (t.group g).st = .active ∧ (t.group g).badPages = retirePages (s.group g).badPages bad ∧ (t.group g).poison = (s.group g).poison.filter (fun a => !bad.contains a) ∧
      t.mem.dram = s.mem.dram))

/-- SurfaceCommandsComplete: SURFACE_REGISTER allocates the first fit of the pool and the lowest free index, and answers the surface's unit, home and place, and size. POOL_SET sets or removes a pool. SURFACE_MAP adds an aperture mapping of the issuer, SURFACE_UNMAP removes one. SURFACE_MIRROR off drops the mirror, on allocates it in the other group and waits for the copy. SURFACE_PALETTE loads 256 entries. SURFACE_GRANT sets or removes an instance's access. -/
def Obligations.SurfaceCommandsComplete : Prop :=
  cmdSurfaceRegister.Serves .surfaceRegister
    (fun z _ p => ∃ a n, z.srf.firstFit (pkF p 0 5 0) (pkF p 0 18 18) (regShape p).units = some a ∧ Tbl.lowestFree z.srf.surfs (2 ^ 20) 0 = some n)
    (fun _ p z =>
      let a := (z.srf.firstFit (pkF p 0 5 0) (pkF p 0 18 18) (regShape p).units).getD 0
      let n := (Tbl.lowestFree z.srf.surfs (2 ^ 20) 0).getD 0
      let sh := regShape p
      let sf : Surf := { owner := pkF p 0 5 0, format := sh.format, width := sh.width, height := sh.height, layout := sh.layout, stride := sh.stride, home := pkF p 0 18 18, first := a, size := sh.units, mirror := (if bitOf (pkW p 0) 19 then z.srf.firstFit (pkF p 0 5 0) (1 - pkF p 0 18 18) sh.units else none), mirrorStale := false, homeStale := false, palette := [], grants := [], refs := [], releasing := false }
      let z1 : State := { z with srf := { z.srf with surfs := Tbl.put z.srf.surfs n sf } }
      (if bitOf (pkW p 0) 20 then z1.clearSurf n else z1, Rsp.ok (z.core.here (surfUnit n)) (pkF p 0 18 18 * 2 ^ 19 + a) sh.units)) ∧
  cmdPoolSet.Serves .poolSet (fun _ _ _ => True)
    (fun _ p z => ({ z with srf := { z.srf with pools := if pkW p 2 = 0 then Tbl.del z.srf.pools (pkF p 0 5 0 * 2 + pkF p 0 8 8) else Tbl.put z.srf.pools (pkF p 0 5 0 * 2 + pkF p 0 8 8) { first := pkW p 1, size := pkW p 2 } } }, Rsp.plain .served)) ∧
  cmdSurfaceMap.Serves .surfaceMap (fun _ _ _ => True)
    (fun w p z => ({ z with srf := { z.srf with maps := z.srf.maps ++ [{ inst := w.inst, slice := w.slice, offset := pkF p 1 31 0, surf := uNum (pkUnit p), surfOff := pkF p 1 63 32, len := pkW p 2 }] } }, Rsp.plain .served)) ∧
  cmdSurfaceUnmap.Serves .surfaceUnmap (fun _ _ _ => True)
    (fun w p z => ({ z with srf := { z.srf with maps := z.srf.maps.filter (fun m => !(m.inst == w.inst && m.offset == pkF p 0 31 0)) } }, Rsp.plain .served)) ∧
  cmdSurfaceMirror.Serves .surfaceMirror (fun z _ p => (z.target p).isSome ∧ pkW p 0 = 0)
    (fun _ p z => (z.updSurf (uNum (pkUnit p)) (fun x => { x with mirror := none, mirrorStale := false }), Rsp.plain .served)) ∧
  cmdSurfaceMirror.Starts .surfaceMirror (fun z _ p => pkW p 0 ≠ 0 ∧ ∃ sf, z.target p = some sf ∧ sf.mirror = none)
    (fun _ p z =>
      let sf := (z.target p).getD { owner := 0, format := 0, width := 0, height := 0, layout := 0, stride := 0, home := 0, first := 0, size := 0, mirror := none, mirrorStale := false, homeStale := false, palette := [], grants := [], refs := [], releasing := false }
      let z1 := (z.mapCore (fun k => { k with nextWork := k.nextWork + 1 })).updSurf (uNum (pkUnit p)) (fun x => { x with mirror := z.srf.firstFit sf.owner (1 - sf.home) sf.size, mirrorStale := true })
      ({ z1 with srf := { z1.srf with mirrorCopies := z1.srf.mirrorCopies ++ [(z.core.nextWork, uNum (pkUnit p))] } }, .work z.core.nextWork)) ∧
  cmdSurfacePalette.Serves .surfacePalette (fun z w p => ∃ bs, (z.hostRead w (pkW p 0) 1024).2 = .ok bs)
    (fun w p z =>
      let r := z.hostRead w (pkW p 0) 1024
      (r.1.updSurf (uNum (pkUnit p)) (fun x => { x with palette := match r.2 with | .ok bs => elemsOf 4 256 bs | .error _ => [] }), Rsp.plain .served)) ∧
  cmdSurfaceGrant.Serves .surfaceGrant (fun _ _ p => pkF p 0 5 0 ≠ 0)
    (fun _ p z => (z.updSurf (uNum (pkUnit p)) (fun x =>
      if pkF p 0 5 0 = x.owner then x else if pkF p 0 9 8 = 0 then { x with grants := Tbl.del x.grants (pkF p 0 5 0) } else { x with grants := Tbl.put x.grants (pkF p 0 5 0) (pkF p 0 9 8) }), Rsp.plain .served))

/-- SurfaceCopiesAndEventsComplete: SURFACE_FREE of a surface that nothing locks or copies removes it; SURFACE_COPY starts a copy and waits for it; SURFACE_COPY_DONE, MIRROR_COPY_DONE and MIRROR_COPYBACK_DONE end what was started. An aperture read answers the surface's stored bytes; a write reaches them, or, on a locked surface, is dropped; an access that no mapping covers is counted, and a read of it answers zeros. A read of the lock table's status sets PEAK to IN_USE. A latch point runs the frond's latch; references no longer needed are released. -/
def Obligations.SurfaceCopiesAndEventsComplete : Prop :=
  (
  cmdSurfaceFree.Serves .surfaceFree
    (fun z _ p => (∃ sf, Tbl.find z.srf.surfs (uNum (pkUnit p)) = some sf ∧ sf.locked = false) ∧ z.srf.copies.any (fun c => c.surf == uNum (pkUnit p)) = false)
    (fun _ p z => (z.dropSurf (uNum (pkUnit p)), Rsp.ok 0 0x200 0)) ∧
  cmdSurfaceCopy.Starts .surfaceCopy (fun z _ p => ∃ sf b, z.target p = some sf ∧ z.readBase sf = some b)
    (fun w p z =>
      let r := rectOf (pkW p 3)
      let c : CopyRun := { work := z.core.nextWork, who := w, surf := uNum (pkUnit p), plane := pkF p 0 33 32, toSurface := !bitOf (pkW p 0) 40, iova := pkW p 1, stride := pkF p 2 31 0, x := r.1, y := r.2.1, w := r.2.2.1, h := r.2.2.2 }
      ({ z with core := { z.core with nextWork := z.core.nextWork + 1 }, srf := { z.srf with copies := z.srf.copies ++ [c] } }, .work z.core.nextWork)) ∧
  (∀ (s : State) (work before : Nat) (c : CopyRun), s.srf.copies.find? (fun x => x.work == work) = some c →
    ∃ t, exec (.surfaceCopyDone work before) s = .next t ∧
      let r := s.copyDone c before
      let s2 := ({ r.1 with srf := { r.1.srf with copies := r.1.srf.copies.filter (fun x => x.work != work) } } : State).finishWork work r.2
      (Tbl.find s2.srf.surfs c.surf = none → t = s.kept s2)) ∧
  (∀ (s : State) (work n : Nat) (sf : Surf), s.srf.mirrorCopies.find? (fun e => e.1 == work) = some (work, n) → Tbl.find s.srf.surfs n = some sf →
    exec (.mirrorCopyDone work) s = .next (s.kept (
      let s1 := (s.copyAcross sf true).updSurf n (fun x => { x with mirrorStale := false })
      ({ s1 with srf := { s1.srf with mirrorCopies := s1.srf.mirrorCopies.filter (fun e => e.1 != work) } } : State).finishWork work (Rsp.plain .served)))) ∧
  (∀ (s : State) (n : Nat) (sf : Surf), Tbl.find s.srf.surfs n = some sf → (s.group 0).st.serves = true → (s.group 1).st.serves = true → (sf.homeStale = true ∨ sf.mirrorStale = true) →
    exec (.mirrorCopybackDone n) s = .next (s.kept ((s.copyAcross sf (!sf.homeStale)).updSurf n (fun x => { x with homeStale := false, mirrorStale := false }))))) ∧
  (
  (∀ (s : State) (inst off size : Nat) (m : Mapping) (sf : Surf), s.mapOf inst off size = some m → Tbl.find s.srf.surfs m.surf = some sf → s.permits 15 false (sf.homeBase + (m.surfOff + (off - m.offset))) = true →
    exec (.apertureRead inst off size) s = .next (s.kept { s with core := { s.core with rdData := s.surfRead sf (m.surfOff + (off - m.offset)) size } })) ∧
  (∀ (s : State) (inst off size : Nat), s.mapOf inst off size = none →
    exec (.apertureRead inst off size) s = .next (s.kept (s.apertureMiss.mapCore (fun k => { k with rdData := List.replicate size 0 })))) ∧
  (∀ (s : State) (inst off : Nat) (bytes : List Byte) (m : Mapping) (sf : Surf), s.mapOf inst off bytes.length = some m → Tbl.find s.srf.surfs m.surf = some sf → sf.locked = false →
    exec (.apertureWrite inst off bytes) s = .next (s.kept (s.putPieces m.surf 15 (some inst) m.slice [(m.surfOff + (off - m.offset), bytes)]))) ∧
  (∀ (s : State) (inst off : Nat) (bytes : List Byte) (m : Mapping) (sf : Surf), s.mapOf inst off bytes.length = some m → Tbl.find s.srf.surfs m.surf = some sf → sf.locked = true →
    ∃ t, exec (.apertureWrite inst off bytes) s = .next t ∧ t = s.kept (s.lockDrop m.inst m.slice m.surf (m.surfOff + (off - m.offset)) 0) ∧ t.mem.dram = s.mem.dram) ∧
  (∀ s : State, exec .lockStatusRead s = .next (s.kept { s with core := { s.core with rdData := le 4 (s.srf.inUse * 0x10000 + s.srf.peak) }, srf := { s.srf with peak := s.srf.inUse } })) ∧
  (∀ (s : State) (f : Nat), exec (.latchPoint f) s = .next (s.kept (s.syncVeils.latch f))) ∧
  (∀ (s : State) (f : Nat) (fr : Frond) (o : Nat) (out : Outp), s.frond f = some fr → s.outOf f = some (o, out) → (out.latches = false ∨ fr.next.isSome = true) → s.latch f = s) ∧
  (∀ (s : State) (surf : Nat), exec (.surfaceRefRelease surf) s = .next (s.kept (s.releaseRefs (uNum surf)))))

/-- LayerCommandsComplete: LAYER_COMMIT into a named slot, or on a frond into the slot it picks, queues the commit and waits for its frame. LAYER_POST on a layer with fewer than four posts and room in the lock table appends the post, takes a reference to the surface, and waits. LAYER_REMOVE marks the layer and aborts its posts. FROND_APPLY with nothing staged is served; with commits that pass, it moves them to the frond's next latch point and waits. -/
def Obligations.LayerCommandsComplete : Prop :=
  cmdLayerCommit.Starts .layerCommit (fun z _ p => ∃ k, pkSlot p = some k ∧ (uCls (pkDesc p).source = 0x11 → z.lockFull (uNum (pkDesc p).source) = false))
    (fun w p z =>
      let r := z.commit w (uIdx (pkUnit p)) ((pkSlot p).getD 0) ((z.layer (pkUnit p)).elim w.inst Layer.owner) false (pkDesc p)
      (r.1, .work r.2)) ∧
  cmdLayerCommit.Starts .layerCommit (fun z _ p => pkSlot p = none ∧ (∃ k, z.pickSlot (uIdx (pkUnit p)) (pkDesc p).scalable = some k) ∧ (uCls (pkDesc p).source = 0x11 → z.lockFull (uNum (pkDesc p).source) = false))
    (fun w p z =>
      let r := z.commit w (uIdx (pkUnit p)) ((z.pickSlot (uIdx (pkUnit p)) (pkDesc p).scalable).getD 0) ((z.layer (pkUnit p)).elim w.inst Layer.owner) true (pkDesc p)
      (r.1, .work r.2)) ∧
  cmdLayerPost.Starts .layerPost (fun z _ p => (∃ l, z.layer (pkUnit p) = some l ∧ l.removing = none ∧ l.posts.length < 4) ∧ z.lockFull (uNum (pkW p 0)) = false)
    (fun w p z =>
      let n := z.core.nextWork
      let z1 := (z.mapCore (fun k => { k with nextWork := k.nextWork + 1 })).takeRef (uNum (pkW p 0)) false (.layer (subKey (pkUnit p) / 256) (subKey (pkUnit p) % 256) n)
      (z1.updLayer (subKey (pkUnit p)) (fun l => { l with posts := l.posts ++ [{ surf := pkW p 0, work := n, ref := n, ready := 0, inst := w.inst, slice := w.slice, recv := none }] }), .work n)) ∧
  cmdLayerRemove.Starts .layerRemove (fun z _ p => ∃ l, z.layer (pkUnit p) = some l ∧ l.removing = none)
    (fun _ p z => (((z.mapCore (fun k => { k with nextWork := k.nextWork + 1 })).updLayer (subKey (pkUnit p)) (fun l => { l with removing := some (z.core.nextWork, false) })).abortPosts (subKey (pkUnit p)), .work z.core.nextWork)) ∧
  cmdFrondApply.Serves .frondApply (fun z w p => ∃ fr, z.frond (uIdx (pkUnit p)) = some fr ∧ fr.stagedBy w = []) (fun _ _ z => (z, Rsp.plain .served)) ∧
  cmdFrondApply.Starts .frondApply (fun z w p => ∃ fr, z.frond (uIdx (pkUnit p)) = some fr ∧ fr.stagedBy w ≠ [] ∧ z.stagedRefusal w (fr.stagedBy w) = none)
    (fun w p z =>
      let cs := (z.frond (uIdx (pkUnit p))).elim [] (fun fr => fr.stagedBy w)
      let mark : Commit := { layer := 0, desc := { w0 := 0, w1 := 0, w2 := 0, w3 := 0, w4 := 0 }, work := z.core.nextWork, inst := w.inst, slice := w.slice, applied := true, creates := false }
      ((z.mapCore (fun k => { k with nextWork := k.nextWork + 1 })).updFrond (uIdx (pkUnit p)) (fun fr =>
        { fr with staged := fr.staged.filter (fun c => !(c.inst == w.inst && c.slice == w.slice)), commits := fr.commits ++ cs ++ [mark] }), .work z.core.nextWork))

/-- FrondCommandsComplete: FROND_SET sets the frond's entries, safety bands, mirror, enable, offset and background, and rebuilds the slot tables. SCALER_COEF_LOAD with the default set, and TONE_LOAD of a readable buffer, put the set in the pending bank and wait for its swap. The group layer commands set a group layer's size and intermediates, and a member's words. GROUP_LAYER_COMPOSE, with its members free, an intermediate free, lock table room and engine time, charges the pre-compose engine, queues the pass and waits. GROUP_LAYER_PASS_DONE of a pass without nested passes stores it into its intermediate and finishes its command. -/
def Obligations.FrondCommandsComplete : Prop :=
  (
  cmdFrondSet.Serves .frondSet (fun _ _ _ => True)
    (fun _ p z => ((z.updFrond (uIdx (pkUnit p)) (fun fr =>
      { fr with entA := pkF p 0 10 0, entB := pkF p 0 26 16, bands := pkF p 0 35 32, fullMirror := bitOf (pkW p 0) 36, enable := bitOf (pkW p 0) 37, offset := pkF p 1 12 0, bg := pkF p 1 61 32 })).rebuildSlots, Rsp.plain .served)) ∧
  cmdScalerCoefLoad.Starts .scalerCoefLoad (fun z _ p => bitOf (pkW p 1) 0 = true ∧ (Tbl.find z.frd.layers (subKey (pkUnit p))).bind (fun l => l.coef.pending) = none)
    (fun _ p z => ((z.mapCore (fun k => { k with nextWork := k.nextWork + 1 })).updLayer (subKey (pkUnit p)) (fun l => { l with coef := { l.coef with pending := some (defaultCoef, z.core.nextWork, z.core.now) } }), .work z.core.nextWork)) ∧
  cmdToneLoad.Starts .toneLoad
    (fun z w p => z.leased (pkUnit p) = false ∧ (∃ bs, (z.hostRead w (pkW p 0) (toneLen p)).2 = .ok bs) ∧ ((z.hostRead w (pkW p 0) (toneLen p)).1.toneBank (pkUnit p)).bind Bank.pending = none)
    (fun w p z =>
      let r := z.hostRead w (pkW p 0) (toneLen p)
      let bs := match r.2 with | .ok bs => bs | .error _ => []
      ((r.1.mapCore (fun k => { k with nextWork := k.nextWork + 1 })).putTone (pkUnit p) (some (bs, r.1.core.nextWork, r.1.core.now)) , .work r.1.core.nextWork)) ∧
  cmdGroupLayerSet.Serves .groupLayerSet (fun z _ p => Tbl.find z.frd.glayers (uIdx (pkUnit p)) = none)
    (fun w p z =>
      let g : GLayer := { owner := w.inst, width := pkF p 0 15 0, height := pkF p 0 31 16, inter := glInter p, members := [], done := 0, doneSize := 0 }
      ({ z with frd := { z.frd with glayers := Tbl.put z.frd.glayers (uIdx (pkUnit p)) g } }, Rsp.plain .served)) ∧
  cmdGroupLayerMember.Serves .groupLayerMember (fun _ _ _ => True)
    (fun _ p z => ({ z with frd := { z.frd with glayers := Tbl.upd z.frd.glayers (uIdx (pkUnit p)) (fun g =>
      { g with members := if pkF p 0 31 0 = 0 then Tbl.del g.members (pkF p 0 41 32) else Tbl.put g.members (pkF p 0 41 32) [pkW p 0, pkW p 1, pkW p 2, pkW p 3] }) } }, Rsp.plain .served))) ∧
  (
  cmdGroupLayerCompose.Starts .groupLayerCompose
    (fun z _ p => bitOf (pkW p 0) 0 = false ∧ ∃ g inter, z.glayer (uKey (pkUnit p)) = some g ∧ z.memberBusy g = false ∧ z.freeInter g = some inter ∧ z.lockFull (uNum inter) = false ∧ z.engineFits 1 g.owner (z.glBand (uKey (pkUnit p))) g.cost = true)
    (fun w p z => match z.glayer (uKey (pkUnit p)) with
      | some g =>
        let inter := (z.freeInter g).getD 0
        let n := (z.charge 1 g.owner (z.glBand (uKey (pkUnit p))) g.cost).core.nextWork
        let z2 := ((z.charge 1 g.owner (z.glBand (uKey (pkUnit p))) g.cost).mapCore (fun k => { k with nextWork := k.nextWork + 1 })).passRefs g inter n
        ({ z2 with frd := { z2.frd with passes := z2.frd.passes ++ [{ work := n, gl := uIdx (uKey (pkUnit p)), inter := inter, who := w, skipped := 0, nested := [], outer := 0 }] } }, .work n)
      | none => (z, .work 0)) ∧
  (∀ (s : State) (work : Nat) (ps : Pass) (g : GLayer), s.frd.passes.find? (fun p => p.work == work) = some ps → ps.nested = [] →
    let s1 : State := { s with frd := { s.frd with passes := s.frd.passes.filter (fun q => q.work != work) } }
    Tbl.find s.frd.glayers ps.gl = some g → g.members.findSome? (fun e => (s1.surf (memberUnit e.2)).bind (fun sf => if (s1.readBase sf).isNone then some sf.home else none)) = none →
    exec (.groupLayerPassDone work) s = .next (s.kept ((((s1.passErrors g).storePass ps.gl ps.inter ps.who).dropWork work).finishLate work (s.glBand (uid 0xF2 ps.gl 0)) (Rsp.ok 0 ps.skipped 0)))))

/-- OutputCommandsComplete: OUTPUT_PREPARE stores the mode's words under the next token and answers it; OUTPUT_COMMIT on a running output starts a modeset with them and waits; OUTPUT_CANCEL drops the token; OUTPUT_REFRESH stores the new vertical total and waits for its frame; OUTPUT_GENLOCK sets the reference; a frond's writeback is set through its pending words. OUTPUT_STATUS and PATROL_STATUS answer. -/
def Obligations.OutputCommandsComplete : Prop :=
  cmdOutputPrepare.Serves .outputPrepare (fun z _ p => (z.out (pkOut p)).isSome)
    (fun _ p z => match z.out (pkOut p) with
      | some o => (z.updOut (pkOut p) (fun x => { x with token := some (x.tokens + 1, pkMode p), tokens := x.tokens + 1 }),
          Rsp.ok ((o.tokens + 1) % 2 ^ 32) (ceilDiv ((o.withMode (pkMode p)).pixelHz * (o.withMode (pkMode p)).bits16) (16 * 10 ^ 6)) (o.rateFor (pkMode p) * 16 + modeLanes (pkMode p)))
      | none => (z, Rsp.plain .served)) ∧
  cmdOutputCommit.Starts .outputCommit (fun z _ p => z.leased (pkUnit p) = false ∧ ∃ x t ws, z.out (pkOut p) = some x ∧ x.modeset = none ∧ x.token = some (t, ws) ∧ x.mode ≠ [])
    (fun _ p z =>
      let ws := ((z.out (pkOut p)).bind Outp.token).elim [] Prod.snd
      ((z.mapCore (fun k => { k with nextWork := k.nextWork + 1 })).updOut (pkOut p) (fun y =>
        { y with token := none, modeset := some { words := ws, work := z.core.nextWork, stage := 0, began := z.core.now }, link := if y.link = 2 then 4 else y.link }), .work z.core.nextWork)) ∧
  cmdOutputCancel.Serves .outputCancel (fun _ _ _ => True) (fun _ p z => (z.updOut (pkOut p) (fun o => { o with token := none }), Rsp.plain .served)) ∧
  cmdOutputRefresh.Starts .outputRefresh (fun z _ p => ∃ x, z.out (pkOut p) = some x ∧ x.vtNew = none)
    (fun _ p z => ((z.mapCore (fun k => { k with nextWork := k.nextWork + 1 })).updOut (pkOut p) (fun x => { x with vtNew := some (pkW p 0, z.core.nextWork, false) }), .work z.core.nextWork)) ∧
  cmdOutputGenlock.Serves .outputGenlock (fun _ _ _ => True)
    (fun _ p z => ((z.updOut (pkOut p) (fun x => { x with genlock := [pkW p 0, pkW p 1, pkW p 2], goodFrames := 0, edgeCount := 0, edgeAt := z.core.now })).setLock (pkOut p) (if pkF p 0 1 0 = 0 then 0 else 1), Rsp.plain .served)) ∧
  cmdWritebackSet.Serves .writebackSet (fun z _ p => pkF p 0 39 32 = 0 ∧ (z.frond (uIdx (pkUnit p))).isSome)
    (fun _ p z => match z.frond (uIdx (pkUnit p)) with
      | some fr =>
        let old := ((fr.wbSlot (wbSlotOf p)).pending.elim [] (fun x => x.2.1)).filter (fun u => !(fr.wbSlot (wbSlotOf p)).targets.contains u)
        (((z.wbDrop (uIdx (pkUnit p)) (wbSlotOf p) old).wbRefs (uIdx (pkUnit p)) (wbSlotOf p) []).updFrond (uIdx (pkUnit p)) (fun x => { x with wb := Tbl.put x.wb (wbSlotOf p) { fr.wbSlot (wbSlotOf p) with pending := some (pkW p 0, [], pkW p 2) } }), Rsp.plain .served)
      | none => (z, Rsp.plain .served)) ∧
  cmdOutputStatus.Answers .outputStatus (fun _ _ _ => True) (fun _ p z => (z, outStatus z (pkOut p))) ∧
  cmdPatrolStatus.Answers .patrolStatus (fun _ _ _ => True) (fun _ _ z => (z, Rsp.ok z.frd.patrol.word z.frd.patrol.mismatch z.frd.patrol.swaps))

/-- PatrolFlagAndGenlockEventsComplete: FROND_STANDIN during the patrol asks for the swap and waits. The patrol goes to its next frond after 600 clean frames, and ends its warm-up; the spare's self-test result asks for the swap back or marks the frond. A flag is recorded with its line and stage. An output in acquisition with 16 good frames is locked; one whose reference is missing holds over at its rate; a house sync edge that an output does not divide to yet only counts. -/
def Obligations.PatrolFlagAndGenlockEventsComplete : Prop :=
  (
  cmdFrondStandin.Starts .frondStandin (fun z _ p => pkW p 0 ≠ 0 ∧ z.frd.patrol.st = 1 ∧ z.frd.patrol.pending = [])
    (fun _ p z => ((z.mapCore (fun k => { k with nextWork := k.nextWork + 1 })).updPatrol (fun x => { x with pending := x.pending ++ [(uIdx (pkUnit p), z.core.now, 4, z.core.nextWork)] }), .work z.core.nextWork)) ∧
  (∀ s : State, s.frd.patrol.st = 1 → 600 ≤ s.frd.patrol.frames → s.frd.patrol.streak = 0 → s.frd.patrol.pending = [] →
    exec .patrolNext s = .next (s.kept { s with frd := { s.frd with patrol := { s.frd.patrol with st := 0, frames := 0, target := ((s.driving.find? (fun f => decide (s.frd.patrol.target < f))).or s.driving.head?).getD s.frd.patrol.target } } })) ∧
  (∀ s : State, s.frd.patrol.st = 0 → s.frd.patrol.partly = false → s.driving ≠ [] →
    exec .patrolWarmupEnd s = .next (s.kept { s with frd := { s.frd with patrol := { s.frd.patrol with st := 1, frames := 0, streak := 0, target := if s.driving.contains s.frd.patrol.target then s.frd.patrol.target else s.driving.headD s.frd.patrol.target } } })) ∧
  (∀ (s : State) (f : Nat), s.frd.patrol.st = 2 → s.frd.patrol.target = f → 1 ≤ s.frd.patrol.cause → s.frd.patrol.cause ≤ 3 → exec (.frondBistDone f false) s = .next (s.kept (s.updFrond f (fun fr => { fr with bistFailed := true })))) ∧
  (∀ (s : State) (f : Nat), s.frd.patrol.st = 2 → s.frd.patrol.target = f → 1 ≤ s.frd.patrol.cause → s.frd.patrol.cause ≤ 3 → s.frd.patrol.pending = [] →
    exec (.frondBistDone f true) s = .next (s.kept { s with frd := { s.frd with patrol := { s.frd.patrol with pending := [(f, s.core.now, 5, 0)] } } })) ∧
  (∀ (s : State) (f line stage : Nat) (both : Bool), f < 8 → s.outOf f = none →
    exec (.frondFlag f line stage both) s = .next (s.kept (s.updFrond f (fun fr => { fr with flagLine := line, flagStages := fr.flagStages ||| 2 ^ stage })))) ∧
  (∀ (s : State) (f line stage : Nat) (both : Bool), exec (.frondFlag f line stage both) s = .next (s.kept (s.flag f line stage both)))) ∧
  (
  (∀ (s : State) (o : Nat) (x : Outp), s.out o = some x → x.lock = 1 → 16 ≤ x.goodFrames → exec (.genlockAcquired o) s = .next (s.kept (s.setLock o 2))) ∧
  (∀ (s : State) (o : Nat) (x : Outp), s.out o = some x → (x.lock = 1 ∨ x.lock = 2) → s.refMissing x = true →
    exec (.genlockHoldover o) s = .next (s.kept ((s.updOut o (fun y => { y with rateMean := y.pixelHz })).setLock o 3))) ∧
  (∀ (s : State) (input o : Nat) (x : Outp), s.frd.outs = [(o, x)] → x.source = 2 + input → x.edgeCount + 1 < fld (x.genlock.getD 0 0) 7 4 →
    exec (.houseSyncEdge input) s = .next (s.kept { s with frd := { s.frd with outs := [(o, { x with edgeCount := x.edgeCount + 1 })] } })) ∧
  (∀ (s : State) (o lock : Nat) (x : Outp), s.out o = some x → x.lock ≠ lock →
    s.out o ≠ none ∧ ((s.setLock o lock).out o).map Outp.lock = some lock ∧ (s.setLock o lock).mem = s.mem ∧ ∀ k, k ≠ o → (s.setLock o lock).out k = s.out k))

/-- ScanoutEventsComplete: a start of active video, a due line and a writeback answer the next states of State.startFrame, State.lineDue and State.writeback. An output in the third stage of a modeset starts no frame; a black output's line is all zeros; the two hot-plug pulses and the end of link training move the link's state. -/
def Obligations.ScanoutEventsComplete : Prop :=
  (∀ (s : State) (o : Nat), exec (.startOfActiveVideo o) s = .next (s.kept (s.startFrame o))) ∧
  (∀ (s : State) (o : Nat) (x : Outp), s.out o = some x → x.mode ≠ [] → x.link ≠ 1 → x.modeset.map Modeset.stage = some 2 → s.startFrame o = s) ∧
  (∀ (s : State) (f line : Nat) (missing : List Nat) (cushion : Nat) (full mis : Bool) (fr : Frond) (o : Nat) (out : Outp), s.frond f = some fr → s.outOf f = some (o, out) → out.black = true → line + 1 < out.vActive →
    exec (.lineDue f line missing cushion full mis) s = .next (s.kept (s.updOut o (fun x => { x with lineOut := List.replicate (3 * out.hActive) 0 })))) ∧
  (∀ (s : State) (f line : Nat) (missing : List Nat) (cushion : Nat) (full mis : Bool), exec (.lineDue f line missing cushion full mis) s = .next (s.kept (s.lineDue f line missing cushion full mis))) ∧
  (∀ (s : State) (f k : Nat), exec (.writebackComplete f k) s = .next (s.kept (s.writeback f k))) ∧
  (∀ (s : State) (o : Nat) (x : Outp), s.out o = some x →
    exec (.hpdLongPulse o none) s = .next (s.kept ((s.updOut o (fun y => { y with hpd := false, sink := none, link := 0, rate := 0, lanes := 0, modeset := y.modeset.map (fun m => if m.stage = 2 then { m with stage := 3 } else m) })).linkEvent o))) ∧
  (∀ (s : State) (o : Nat) (x : Outp), s.out o = some x → x.link = 2 → exec (.hpdShortPulse o false) s = .next (s.kept ((s.updOut o (fun y => { y with link := 1 })).linkEvent o))) ∧
  (∀ (s : State) (o : Nat) (x : Outp), s.out o = some x → x.link = 1 → x.modeset = none →
    exec (.linkTrainingDone o []) s = .next (s.kept ((s.updOut o (fun y => { y with link := 3, rate := 0, lanes := 0 })).linkEvent o))) ∧
  (∀ (s : State) (o r l : Nat) (x : Outp) (ts : List (Nat × Nat)), s.out o = some x → x.link = 1 → x.modeset = none →
    (trainOrder (x.rateFor x.mode) (modeLanes x.mode) (x.sink.elim 6 Sink.rate)).find? (fun c => ts.contains c && x.carries c.1 c.2 && decide (c.2 ≤ x.sink.elim 4 Sink.lanes)) = some (r, l) →
    exec (.linkTrainingDone o ts) s = .next (s.kept ((s.updOut o (fun y => { y with link := 2, rate := r, lanes := l })).linkEvent o)))

/-- TagCommandsComplete: TAG_CREATE makes a run of COUNT unbound tags of the issuer at the lowest free run and answers the first one's unit; TAG_SET changes MAX_AGE alone; TAG_RETIRE retires the tag, which goes where no region binds it; TAG_GROUP_SET stores the group's members and moves its generation. The query forms answer the entries and the members; LEDGER_STATUS answers the counts. -/
def Obligations.TagCommandsComplete : Prop :=
  cmdTagCreate.Serves .tagCreate (fun z _ p => (pkF p 0 33 32 = 2 → z.sec.run ≠ .restarting) ∧ (freeTagRun z.led.tags (pkF p 0 16 0)).isSome)
    (fun w p z =>
      let a := (freeTagRun z.led.tags (pkF p 0 16 0)).getD 0
      let t : Tag := { last := 0, maxAge := pkW p 1, st := .unbound, path := pkF p 0 33 32, source := pkW p 2, remote := false, notify := bitOf (pkW p 0) 34, owner := w.inst }
      ({ z with led := { z.led with tags := (List.range (pkF p 0 16 0)).foldl (fun m i => Tbl.put m (a + i) t) z.led.tags } }, Rsp.ok (z.core.here (uidN 0x50 a)) 0 0)) ∧
  cmdTagSet.Serves .tagSet (fun _ _ _ => True) (fun _ p z => (z.updTag (uNum (pkUnit p)) (fun t => { t with maxAge := pkW p 1 }), Rsp.plain .served)) ∧
  cmdTagSet.Answers .tagSet (fun _ _ _ => True)
    (fun w p z => (z.mapCore (fun k => k.useFree 1)).answer w (pkW p 0) ((List.range (pkW p 1)).flatMap (fun i => z.tagEntry (uNum (pkUnit p) + i))) (Rsp.ok (16 * pkW p 1) (16 * pkW p 1) 0)) ∧
  cmdTagRetire.Serves .tagRetire (fun _ _ _ => True) (fun _ p z => ((z.updTag (uNum (pkUnit p)) (fun t => { t with st := .retired })).reapTag (uNum (pkUnit p)), Rsp.plain .served)) ∧
  cmdTagGroupSet.Serves .tagGroupSet (fun z w p => ∃ bs, (z.hostRead w (pkW p 1) (4 * pkF p 0 10 0)).2 = .ok bs)
    (fun w p z =>
      let r := z.hostRead w (pkW p 1) (4 * pkF p 0 10 0)
      let ms := match r.2 with | .ok bs => elemsOf 4 (pkF p 0 10 0) bs | .error _ => []
      (r.1.setTagGroup (pkUnit p) ((Tbl.find z.core.groups (uKey (pkUnit p))).elim w.inst Group.owner) ms, Rsp.plain .served)) ∧
  cmdTagGroupSet.Answers .tagGroupSet (fun _ _ _ => True)
    (fun w p z =>
      let ms := (Tbl.find z.core.groups (uKey (pkUnit p))).elim [] Group.members
      z.answer w (pkW p 0) ((ms.take (min ms.length (pkW p 1 / 4))).flatMap (le 4)) (Rsp.ok (min ms.length (pkW p 1 / 4)) ms.length 0)) ∧
  cmdLedgerStatus.Answers .ledgerStatus (fun _ w _ => w.inst = 0) (fun _ _ z => (z, Rsp.ok z.led.tags.length z.ledStatus (Tbl.keep z.led.tags (fun _ t => t.st != .live)).length)) ∧
  cmdLedgerStatus.Answers .ledgerStatus (fun _ w _ => w.inst ≠ 0)
    (fun w _ z => (z, Rsp.ok (Tbl.keep z.led.tags (fun _ t => t.owner == w.inst)).length (Tbl.keep z.led.regions (fun _ r => !r.secure && r.inst == w.inst)).length (Tbl.keep z.led.tags (fun _ t => t.owner == w.inst && t.st != .live)).length))

/-- RefreshesComplete: a REFRESH whose every entry applies is SERVED with the count. A stream's or a sequence's refresh of a tag of that path and source, newer than its last and not late, makes the tag LIVE at the stamp; of another path or source, it is dropped and counted. A refresh of a FROZEN tag that does not move leaves it FROZEN. A frozen receiver's report freezes its tags. A wheel tick makes the LIVE tags whose expiry has passed STALE. -/
def Obligations.RefreshesComplete : Prop :=
  cmdRefresh.Serves .refresh (fun z w p => (z.refreshEntries w p).2.1 = pkF p 0 63 56) (fun w p z => ((z.refreshEntries w p).1, Rsp.ok (pkF p 0 63 56) 0 (z.refreshEntries w p).2.2)) ∧
  (∀ (s : State) (tag r stamp : Nat) (moving : Bool) (t : Tag), Tbl.find s.led.tags tag = some t → t.path = 1 → t.source = r → t.st = .live → atOrAfter t.last (stamp % 2 ^ 48) = false →
    atOrAfter s.ledgerNow ((stamp % 2 ^ 48 + 1000 * t.maxAge) % 2 ^ 48 + 1) = false →
    exec (.streamRefresh tag r stamp moving) s = .next (s.kept (s.updTag tag (fun x => { x with last := stamp % 2 ^ 48, st := .live })))) ∧
  (∀ (s : State) (tag r stamp : Nat) (moving : Bool) (t : Tag), Tbl.find s.led.tags tag = some t → (t.path ≠ 1 ∨ uKey t.source ≠ uKey r) →
    exec (.streamRefresh tag r stamp moving) s = .next (s.kept { s with led := { s.led with refreshDrop := satInc s.led.refreshDrop } })) ∧
  (∀ (s : State) (tag r stamp : Nat) (t : Tag), Tbl.find s.led.tags tag = some t → t.path = 1 → t.source = r → t.st = .frozen →
    atOrAfter s.ledgerNow ((stamp % 2 ^ 48 + 1000 * t.maxAge) % 2 ^ 48 + 1) = false →
    exec (.streamRefresh tag r stamp false) s = .next (s.kept (s.updTag tag (fun x => if atOrAfter t.last (stamp % 2 ^ 48) then x else { x with last := stamp % 2 ^ 48 })))) ∧
  (∀ (s : State) (tag region stamp : Nat) (t : Tag), Tbl.find s.led.tags tag = some t → t.path = 2 → t.source = region → t.st = .unbound →
    atOrAfter s.ledgerNow ((stamp % 2 ^ 48 + 1000 * t.maxAge) % 2 ^ 48 + 1) = false →
    exec (.seqRefresh tag region stamp) s = .next (s.kept (s.updTag tag (fun x => { x with last := stamp % 2 ^ 48, st := .live })))) ∧
  (∀ (s : State) (n : Nat) (r : Recv), Tbl.find s.ing.recvs n = some r → r.st = 3 → exec (.freezeReport n) s = .next (s.kept (s.freezeTags n r.run))) ∧
  (∀ (s : State) (n c tag : Nat) (t : Tag), s.tagsFrom 1 n = [tag] → Tbl.find s.led.tags tag = some t → t.st = .live →
    s.freezeTags n c = (s.updTag tag (fun x => { x with st := .frozen })).mapCore (fun k => k.event 0xFE33 0 (uidN 0x50 tag) (uidN 0x50 tag) (le 1 n ++ le 1 c))) ∧
  (∀ s : State, exec .ledgerWheelTick s = .next (s.kept ((Tbl.keys (Tbl.keep s.led.tags (fun _ t => t.st == .live && atOrAfter s.ledgerNow t.expiry))).foldl State.expireTag s))) ∧
  (∀ (s : State) (n : Nat) (t : Tag), Tbl.find s.led.tags n = some t → t.notify = false → s.expireTag n = s.updTag n (fun x => { x with st := .stale }))

/-- LiveRegionsComplete: REGION_CREATE makes a region at the lowest free index with its E_r and answers its unit; REGION_BIND rebinds it from the next latch point, and its query form answers the veil; REGION_REMOVE marks it. ER_UPDATE of an untied region takes the E_r that State.calcEr gives from its bound tags. At the decision point a region is veiled where a cause is in force or E_r plus 50 µs is not after the scan, else clear. The host link's change is journaled and changes no tag. -/
def Obligations.LiveRegionsComplete : Prop :=
  cmdRegionCreate.Serves .regionCreate (fun z _ _ => z.sec.run ≠ .restarting ∧ (Tbl.lowestFree z.led.regions 65536 0).isSome)
    (fun w p z =>
      let n := (Tbl.lowestFree z.led.regions 65536 0).getD 0
      let r : LRegion :=
        { place := uKey (pkUnit p), rect := pkW p 1, size := pkF p 0 1 0, tied := bitOf (pkW p 0) 2, slots := pkSlots p, inst := w.inst, slice := w.slice, secure := w.secure, bandA := w.secure && uCls (pkUnit p) == 0x22,
          er := 0, erNow := true, erAt := z.core.now, erFrame := 0, frozenBadge := false, safetyAt := none, newPlace := none, removing := false, orphan := false, drawn := none, repeatedPx := 0, veil := noVeil }
      let z0 := z.addMirrors w.inst (pkSlots p)
      let z1 : State := { z0 with led := { z0.led with regions := Tbl.put z0.led.regions n r } }
      (z1.updRegion n (fun x => { x with er := (z1.calcEr r).1, erNow := (z1.calcEr r).2.1, frozenBadge := (z1.calcEr r).2.2 }), Rsp.ok (z.core.here (uidN 0x51 n)) 0 0)) ∧
  cmdRegionBind.Serves .regionBind (fun z _ _ => z.sec.run ≠ .restarting)
    (fun _ p z =>
      let n := uNum (pkUnit p)
      let z1 := (z.addMirrors ((z.region p).elim 0 LRegion.inst) (pkSlots p)).updRegion n (fun r => { r with slots := pkSlots p, newPlace := (if pkW p 0 = 0 then r.newPlace else some (uKey (pkW p 0), pkW p 1)), removing := false })
      let z2 := z1.updRegion n (fun r => { r with veil := { r.veil with causes := r.veil.causes.map (fun c => if c.kind = .instanceReset ∧ c.ended.isNone then { c with ended := some z.core.now } else c) } })
      ((z2.bindEr n).unbind (z.boundTags ((z.region p).elim [] LRegion.slots)), Rsp.plain .served)) ∧
  cmdRegionBind.Answers .regionBind (fun z _ p => ∃ r, z.region p = some r)
    (fun _ p z => (z.mapCore (fun k => k.useFree 1), (z.region p).elim (Rsp.plain .rejectedUnit) (fun r => Rsp.ok (b2n r.veil.veiled + r.veil.code * 2 + min r.veil.frames 0xFFFF * 0x10000) (z.shownEr r % 2 ^ 32) (r.veil.since % 2 ^ 32)))) ∧
  cmdRegionRemove.Serves .regionRemove (fun _ _ _ => True) (fun _ p z => (z.updRegion (uNum (pkUnit p)) (fun r => { r with removing := true }), Rsp.plain .served)) ∧
  (∀ (s : State) (n : Nat) (r : LRegion), Tbl.find s.led.regions n = some r → r.tied = false → s.calcEr r ≠ (r.er, r.erNow, r.frozenBadge) →
    exec (.erUpdate n) s = .next (s.kept (s.updRegion n (fun x => { x with er := (s.calcEr r).1, erNow := (s.calcEr r).2.1, frozenBadge := (s.calcEr r).2.2, erAt := s.core.now })))) ∧
  (∀ (s : State) (region f o : Nat) (r : LRegion) (fr : Frond) (sc : Scene) (out : Outp) (rc : Rect), uCls region = 0x51 → Tbl.find s.led.regions (uNum region) = some r → s.frondOfPlace r.place = f → s.frond f = some fr →
    fr.sceneFor r.veil.decided = some (sc, true) → s.outOf f = some (o, out) → sc.rectOf (uKey region) = some rc → r.veil.veiled = false →
    exec (.veilDecision region) s = .next (s.kept (
      let timed := r.erNow || atOrAfter ((out.sav + out.linesNs rc.2.1.toNat) / 1000 % 2 ^ 48) ((r.er + 50) % 2 ^ 48)
      let v := r.veil.fixFrame sc.latchDt sc.frame timed r.frozenBadge
      (s.updRegion (uNum region) (fun x => { x with veil := v })).noteVeil (uKey region) f sc.frame (s.shownEr r) r.veil v (s.isBandA r || uCls r.place == 0x22) (s.isBandA r) r.inst))) ∧
  (∀ (v : Veil) (latch frame : Nat) (held frozen : Bool), (v.fixFrame latch frame held frozen).veiled = (v.causes.any (fun c => c.inForce latch) || held)) ∧
  (∀ (s : State) (up : Bool), s.led.hostLink ≠ up → ∃ t, exec (.hostLink up) s = .next t ∧ t.led = { s.led with hostLink := up } ∧ t.pwr.pcieUp = up ∧ t.core.jrn.nextJseq = ((s.core.event 0xFE32 0 0 (b2n up) (le 8 s.core.now)).jrn.nextJseq))

/-- RegistersComplete: a 4-byte write by the SEC to an unlocked veil palette entry stores 30 bits; a PF write to a memory group's CE_LIMIT or a device's bandwidth weight stores the word; a write of 8 bytes is two of 4, the lower first; a misaligned write to registers does nothing. A low-word read of a 64-bit Canvas register answers its lower word and latches its upper word. A debug read without its enable reads 0 and is counted; a debug write with it writes the register. -/
def Obligations.RegistersComplete : Prop :=
  (∀ (s : State) (n v : Nat), n < 16 → v < 2 ^ 32 → s.led.veilLock = false →
    exec (.registerWrite .sec (0x400 + 4 * n) 4 v) s = .next (s.kept { s with led := { s.led with palRgb := Tbl.put s.led.palRgb n (v % 2 ^ 30) } })) ∧
  (∀ (s : State) (v : Nat), v < 2 ^ 32 →
    exec (.registerWrite .pf 0x5001C 4 v) s = .next (s.kept (s.updGroup 0 (fun m => { m with ceLimit := v }))) ∧ exec (.registerWrite .pf 0x6001C 4 v) s = .next (s.kept (s.updGroup 1 (fun m => { m with ceLimit := v })))) ∧
  (∀ (s : State) (k v : Nat), k < 7 → v < 2 ^ 32 → exec (.registerWrite .pf (0x7F100 + 4 * k) 4 v) s = .next (s.kept { s with mem := { s.mem with devWeight := Tbl.put s.mem.devWeight k v } })) ∧
  (∀ (s : State) (off lo hi : Nat), off % 4 = 0 → off < 0x800000 → lo < 2 ^ 32 → hi < 2 ^ 32 →
    exec (.registerWrite .pf off 8 (hi * 2 ^ 32 + lo)) s = .next (s.kept ((s.write32 .pf off lo).write32 .pf (off + 4) hi))) ∧
  (∀ (s : State) (off v : Nat), off % 4 ≠ 0 → exec (.registerWrite .pf off 4 v) s = .next (s.kept s)) ∧
  (∀ (s : State) (off v : Nat), off < 0x800000 → off / 0x10000 ≠ 12 → s.canvasSecure off = false → s.canvas64 off = some v →
    exec (.reg64LowRead .pf off) s = .next (s.kept { s with reg := { s.reg with latch := Tbl.put s.reg.latch (off + 4) (v / 2 ^ 32 % 2 ^ 32) }, core := { s.core with rdData := le 4 (v % 2 ^ 32) } })) ∧
  (∀ (s : State) (off data : Nat), 0x10000000 ≤ off → off < 0x10800000 → bitOf s.sec.dbgEnables 0 = false →
    exec (.debugAccess false off data) s = .next (s.kept { s with sec := { s.sec with dbgAccessFail := min 0xFFFF (s.sec.dbgAccessFail + 1) }, core := { s.core with rdData := le 4 0 } })) ∧
  (∀ (s : State) (off data : Nat), 0x10000000 ≤ off → off < 0x10800000 → bitOf s.sec.dbgEnables 1 = true →
    exec (.debugAccess true off data) s = .next (s.kept (s.write32 .dispatch (off - 0x10000000) (data % 2 ^ 32)))) ∧
  (∀ (s : State) (data : Nat), exec (.debugAccess false 0 data) s = .next (s.kept { s with core := { s.core with rdData := le 4 s.dbgStatus } }))

/-- SignedRegionsComplete: SIG_REGION_SET gives a region of the frond its new setting from the next latch point and answers its unit; SIG_REGION_REMOVE marks it; SIG_EXPECT whose every record is accepted queues them; SIG_CLEAR moves a LATCHED region to PENDING and journals SIG_CLEARED, and leaves another; SIG_STATUS answers. A frame whose CRC matches its record keeps a CHECKING region CHECKING with flags 1; one that differs makes it FAULTED, or LATCHED, with flags 3, a counted fault and the SIGNATURE cause begun. -/
def Obligations.SignedRegionsComplete : Prop :=
  cmdSigRegionSet.Serves .sigRegionSet (fun z _ p => uCls (pkUnit p) = 0x52 ∨ (Tbl.lowestFree z.led.sregs 64 (uIdx (pkUnit p) * 256)).isSome)
    (fun w p z =>
      let k := if uCls (pkUnit p) = 0x52 then subKey (pkUnit p) else (Tbl.lowestFree z.led.sregs 64 (uIdx (pkUnit p) * 256)).getD 0
      let r := (Tbl.find z.led.sregs k).getD (newSreg w)
      ({ z with led := { z.led with sregs := Tbl.put z.led.sregs k { r with newSet := some (pkF p 0 31 0, pkW p 1, bitOf (pkW p 0) 32, bitOf (pkW p 0) 33, 0), removing := none } } }, Rsp.ok (z.core.here (uid 0x52 (uIdx (pkUnit p)) (k % 256))) 0 0)) ∧
  cmdSigRegionRemove.Serves .sigRegionRemove (fun _ _ _ => True) (fun _ p z => (z.updSreg (subKey (pkUnit p)) (fun r => { r with removing := some 0 }), Rsp.plain .served)) ∧
  cmdSigExpect.Serves .sigExpect (fun z w p => (z.expectAll w p (pkF p 0 7 0)).2 = (pkF p 0 7 0, none) ∧ (z.expectAll w p (pkF p 0 7 0)).1.expectFull = none)
    (fun w p z => ((z.expectAll w p (pkF p 0 7 0)).1, Rsp.ok (pkF p 0 7 0) 0 0)) ∧
  cmdSigClear.Serves .sigClear (fun z _ p => ∃ r, z.sreg (pkUnit p) = some r ∧ r.st = .latched)
    (fun _ p z => ((z.updSreg (subKey (pkUnit p)) (fun g => { g with st := .pending, base := none })).mapCore (fun k => k.event 0xFE41 0 (uKey (pkUnit p)) (uKey (pkUnit p)) (le 8 ((z.sreg (pkUnit p)).elim 0 SRegion.lastFrame))), Rsp.plain .served)) ∧
  cmdSigClear.Serves .sigClear (fun z _ p => ∃ r, z.sreg (pkUnit p) = some r ∧ r.st ≠ .latched) (fun _ _ z => (z, Rsp.plain .served)) ∧
  cmdSigStatus.Answers .sigStatus (fun z w p => ∃ r, z.sreg (pkUnit p) = some r ∧ r.mine w = true) (fun _ p z => (z, (z.sreg (pkUnit p)).elim (Rsp.plain .rejectedUnit) (fun r => Rsp.ok r.word (r.lastFrame % 2 ^ 32) r.faults))) ∧
  (∀ (s : State) (u : Nat) (r : SRegion) (x : SigRec), s.sreg (uKey u) = some r → r.waiting = true → (r.consume (r.crcFrame % 2 ^ 32)).used = some x → r.drawn.isSome = true → r.st = .checking → r.moving = false → r.layerRepeat = false →
    s.frond (uIdx (uKey u)) = none → s.tagsFrom 2 (uKey u) = [] → x.expected = r.crc →
    ∃ t g, exec (.sigResult u) s = .next t ∧ Tbl.find t.led.sregs (subKey (uKey u)) = some g ∧ g.st = .checking ∧ g.lastFlags = 1 ∧ g.lastAlive = x.alive ∧ g.lastFrame = r.crcFrame ∧ g.faults = r.faults ∧ g.waiting = false ∧
      t.led.results.length = s.led.results.length + 1 ∧ t.led.tags = s.led.tags ∧ t.core.jrn = s.core.jrn) ∧
  (∀ (s : State) (u : Nat) (r : SRegion) (x : SigRec), s.sreg (uKey u) = some r → r.waiting = true → (r.consume (r.crcFrame % 2 ^ 32)).used = some x → r.drawn.isSome = true → r.st = .checking → r.moving = false → r.layerRepeat = false →
    s.frond (uIdx (uKey u)) = none → x.expected ≠ r.crc →
    ∃ t g, exec (.sigResult u) s = .next t ∧ Tbl.find t.led.sregs (subKey (uKey u)) = some g ∧ g.st = (if r.latchFault then .latched else .faulted) ∧ g.lastFlags = 3 ∧ g.faults = satInc r.faults ∧ g.captured = true ∧
      g.veil = r.veil.begin .signature s.core.now ∧ t.led.tags = s.led.tags) ∧
  (∀ (s : State) (u : Nat), (∀ r, s.sreg (uKey u) = some r → r.waiting = false) → exec (.sigResult u) s = .next (s.kept s))

/-- CheckEnginesComplete: CHK_SCAN on an idle engine takes a reference to its surface, starts and waits for its end; CHK_CANCEL stops a periodic scan, at its run's end if one is in progress; CHK_STATUS answers. A run's end feeds the rows' bytes to the check, compares where asked, and ends the run with its flags and value; where the bytes cannot be read, with the failure. The period over, the next run starts with the scan queued, or is STARVED. -/
def Obligations.CheckEnginesComplete : Prop :=
  cmdChkScan.Starts .chkScan
    (fun z _ p => (z.engine (uIdx (pkUnit p))).mode = 0 ∧ (scanSpace p = 0 → ∀ sf, z.surf (pkF p 1 31 0) = some sf → sf.written = false ∧ z.lockFull (uNum (pkF p 1 31 0)) = false))
    (fun w p z =>
      let z1 := z.mapCore (fun k => { k with nextWork := k.nextWork + 1 })
      let z2 := if scanSpace p = 0 ∧ (z.surf (pkF p 1 31 0)).isSome then z1.takeRef (uNum (pkF p 1 31 0)) false (.work z.core.nextWork) else z1
      (z2.startScan (uIdx (pkUnit p)) { work := z.core.nextWork, who := w, pk := p }, .work z.core.nextWork)) ∧
  cmdChkCancel.Serves .chkCancel (fun z _ p => (z.engine (uIdx (pkUnit p))).mode = 2 ∧ (z.engine (uIdx (pkUnit p))).running = true)
    (fun _ p z => (z.putEngine (uIdx (pkUnit p)) { z.engine (uIdx (pkUnit p)) with cancel := true }, Rsp.plain .served)) ∧
  cmdChkCancel.Serves .chkCancel (fun z _ p => (z.engine (uIdx (pkUnit p))).mode = 2 ∧ (z.engine (uIdx (pkUnit p))).running = false) (fun _ p z => (z.idle (uIdx (pkUnit p)), Rsp.plain .served)) ∧
  cmdChkCancel.Serves .chkCancel (fun z _ p => (z.engine (uIdx (pkUnit p))).mode ≠ 2) (fun _ _ z => (z, Rsp.plain .served)) ∧
  cmdChkStatus.Answers .chkStatus (fun _ _ _ => True) (fun _ p z => (z, Rsp.ok (z.chkWord (uIdx (pkUnit p))) ((z.engine (uIdx (pkUnit p))).bytes % 2 ^ 32) 0)) ∧
  (∀ (s : State) (e : Nat) (c : Scan) (bs : List Byte), (s.engine e).scan = some c → (s.engine e).running = true → (s.scanBytes c).2 = .ok bs →
    exec (.chkScanDone e) s = .next (s.kept (
      let v := (s.scanBytes c).1.scanValue e c.pk bs
      let cmp := bitOf (pkW c.pk 0) 4 && bitOf (pkW c.pk 0) 2
      let flags := (s.engine e).runFlags + b2n cmp + b2n (cmp && v.2.2) * 2
      v.1.scanEnds e c flags (Rsp.ok (v.2.1 % 2 ^ 32) (v.2.1 / 2 ^ 32) flags)))) ∧
  (∀ (s : State) (e : Nat) (c : Scan) (r : Rsp), (s.engine e).scan = some c → (s.engine e).running = true → (s.scanBytes c).2 = .error r →
    exec (.chkScanDone e) s = .next (s.kept ((s.scanBytes c).1.scanEnds e c (s.engine e).runFlags r))) ∧
  (∀ (s : State) (e : Nat) (p : Packet) (bs : List Byte), pkF p 0 1 0 ≠ 3 → bitOf (pkW p 0) 3 = false →
    let r := crcFeed (pkF p 0 1 0) (crcInit (pkF p 0 1 0)) bs
    let v := if bitOf (pkW p 0) 4 then r ^^^ crcXor (pkF p 0 1 0) else r
    s.scanValue e p bs = (s.putEngine e { s.engine e with run := r, bytes := bs.length }, v, pkW p 4 != v)) ∧
  (∀ (s : State) (e : Nat) (c q : Scan), (s.engine e).scan = some c → (s.engine e).mode = 2 → (s.engine e).running = false → (s.engine e).began + pkF c.pk 3 47 32 * 10 ^ 6 ≤ s.core.now → (s.engine e).queued = some q →
    exec (.chkPeriodicRun e) s = .next (s.kept (((s.dropWork c.work).putEngine e { s.engine e with queued := none }).startScan e q))) ∧
  (∀ (s : State) (e : Nat) (c : Scan), (s.engine e).scan = some c → (s.engine e).mode = 2 → (s.engine e).running = false → (s.engine e).began + pkF c.pk 3 47 32 * 10 ^ 6 ≤ s.core.now → (s.engine e).queued = none →
    exec (.chkPeriodicRun e) s = .next (s.kept (s.putEngine e { s.engine e with running := true, runFlags := 16, began := s.core.now })))

/-- RasterComplete: a RASTER_JOB whose surfaces are free and whose cost fits takes its references, is charged and waits for its end; RASTER_CANCEL stops a job; RASTER_COMBINER_LOAD with no job of its instance in hand swaps the program in, else waits; RASTER_STATUS answers. The first admitted job starts. A pass stores its tile with its list's items, or with the first ones where it is split; a job's end renders what no pass did, completes it and frees its surfaces. -/
def Obligations.RasterComplete : Prop :=
  cmdRasterJob.Starts .rasterJob
    (fun z w p =>
      let j := z.bindJob (jobOf z.core.nextWork w p)
      let z1 : State := { z with core := { z.core with nextWork := z.core.nextWork + 1 }, ras := { z.ras with jobs := z.ras.jobs ++ [j] } }
      z.rjob z.core.nextWork = none ∧ z1.canHold j = true ∧ (z1.takeJob z.core.nextWork).engineFits 0 w.inst j.band j.cost = true)
    (fun w p z =>
      let z1 : State := { z with core := { z.core with nextWork := z.core.nextWork + 1 }, ras := { z.ras with jobs := z.ras.jobs ++ [z.bindJob (jobOf z.core.nextWork w p)] } }
      ((z1.takeJob z.core.nextWork).admitJob z.core.nextWork, .work z.core.nextWork)) ∧
  cmdRasterCancel.Serves .rasterCancel (fun _ _ _ => True) (fun w p z => ((z.cancelJob w p).elim z z.stopJob, Rsp.plain .served)) ∧
  cmdRasterCombinerLoad.Serves .rasterCombinerLoad (fun z w p => (∃ bs, (z.hostRead w (pkW p 1) 72).2 = .ok bs) ∧ ((z.hostRead w (pkW p 1) 72).1.ras.jobs.any (fun j => j.who.inst == w.inst && j.bound)) = false)
    (fun w p z =>
      let r := z.hostRead w (pkW p 1) 72
      let ws := match r.2 with | .ok bs => progWords bs | .error _ => []
      ({ r.1 with ras := { r.1.ras with programs := Tbl.put r.1.ras.programs (w.inst * 16 + pkW p 0) ws } }, Rsp.plain .served)) ∧
  cmdRasterCombinerLoad.Delays .rasterCombinerLoad (fun z w p => (∃ bs, (z.hostRead w (pkW p 1) 72).2 = .ok bs) ∧ ((z.hostRead w (pkW p 1) 72).1.ras.jobs.any (fun j => j.who.inst == w.inst && j.bound)) = true) (Rsp.plain .delayedUnitBusy) true
    (fun w p z =>
      let r := z.hostRead w (pkW p 1) 72
      let ws := match r.2 with | .ok bs => progWords bs | .error _ => []
      let z2 := r.1.mapCore (fun k => { k with nextWork := k.nextWork + 1 })
      ({ z2 with ras := { z2.ras with loads := z2.ras.loads ++ [(w.inst, pkW p 0, ws, r.1.core.nextWork)] } }, .work r.1.core.nextWork)) ∧
  cmdRasterStatus.Answers .rasterStatus (fun _ _ _ => True) (fun w _ z => (z, Rsp.ok (if w.inst = 0 then z.ras.status else z.ras.counts (some w.inst)) z.ras.flushCount z.ras.passSplit)) ∧
  (∀ (s : State) (j : RJob), s.ras.jobs = [j] → j.holds = true → j.admitted = true → j.started = false → j.stopped = false → exec .rasterJobStart s = .next (s.kept (s.beginJob j))) ∧
  (∀ (s : State) (core us skipped : Nat) (c : RCore) (j : RJob) (sf : Surf), Tbl.find s.ras.cores core = some c → s.rjob c.work = some j → s.surf j.target = some sf →
    let x := c.tile % s.perRow j * 32
    let y := c.tile / s.perRow j * 32
    let after (upto split : Nat) : State :=
      let s1 := (s.passTbc j upto x y (min 32 (sf.width - x)) (min 32 (sf.height - y))).renderRect j upto x y (min 32 (sf.width - x)) (min 32 (sf.height - y))
      let s2 : State := { s1 with ras := { s1.ras with cores := Tbl.del s1.ras.cores core, hsrSkip := satAdd s1.ras.hsrSkip skipped, passSplit := if split = 1 then satInc s1.ras.passSplit else s1.ras.passSplit } }
      (((s2.updJob j.work (fun k => { k with done := Tbl.put k.done c.tile upto, used := k.used + us, splits := k.splits + split })).nextRound j.work).endStopped j.work).takeTiles
    exec (.tilePassDone core us skipped) s = .next (s.kept (after j.roundEnd 0)) ∧
    ∀ k, exec (.tilePassSplit core us skipped k) s = .next (s.kept (after (min j.roundEnd (Tbl.at j.done 0 c.tile + k)) 1))) ∧
  (∀ (s : State) (work us : Nat) (j : RJob), s.rjob work = some j → j.started = true → j.stopped = false → (∀ t n, j.todo t n = []) →
    exec (.rasterJobDone work us) s = .next (s.kept (
      let s2 : State := { s with ras := { s.ras with flushCount := satAdd s.ras.flushCount (j.rounds.length - 1 - j.round) } }
      (s2.endJob j { j with used := j.used + us }.rsp).takeTiles))) ∧
  (∀ (s : State) (work us : Nat) (j : RJob), s.rjob work = some j → j.started = true → j.stopped = false →
    (boxTiles (s.perRow j) j.scissor).any (fun t => (j.todo t j.items.length).any (fun it => boxHas (s.perRow j) it.box t)) = true →
    exec (.rasterJobDone work us) s = .next (s.kept (
      let sc := j.scissor
      let n := j.items.length
      let s1 := (s.passTbc j n sc.1 sc.2.1 (sc.2.2.1 + 1 - sc.1) (sc.2.2.2 + 1 - sc.2.1)).renderRect j n sc.1 sc.2.1 (sc.2.2.1 + 1 - sc.1) (sc.2.2.2 + 1 - sc.2.1)
      let s2 : State := { s1 with ras := { s1.ras with flushCount := satAdd s1.ras.flushCount (j.rounds.length - 1 - j.round) } }
      (s2.endJob j { j with used := j.used + us }.rsp).takeTiles)))

/-- IngestCommandsComplete: INGEST_PORT_SET stores a port's words; INGEST_ASSIGN gives a closed receiver its instance, or takes it away; STREAM_OPEN opens a receiver WAITING with its words, lanes and declaration; STREAM_CLOSE closes one with no frame in progress at once, and waits for the frame otherwise; STREAM_DECLARE takes effect from the next good frame; STREAM_ROUTE adds a route; STREAM_STATUS answers; PTP_SET stores the domain and ports. -/
def Obligations.IngestCommandsComplete : Prop :=
  cmdIngestPortSet.Serves .ingestPortSet (fun z _ p => z.portOpen (uIdx (pkUnit p)) = false ∧ bitOf (pkW p 0) 16 = true)
    (fun _ p z => ({ z with ing := { z.ing with ports := Tbl.put z.ing.ports (uIdx (pkUnit p)) { w0 := pkW p 0, w1 := pkW p 1, link := (Tbl.find z.ing.ports (uIdx (pkUnit p))).elim false EthPort.link } } }, Rsp.plain .served)) ∧
  cmdIngestAssign.Serves .ingestAssign (fun z _ p => pkF p 0 6 6 = 0 ∧ ∃ x, z.recv (uIdx (pkUnit p)) = some x ∧ x.st = 0 ∧ x.closing = none ∧ x.owner ≠ some (pkF p 0 5 0))
    (fun _ p z => ((z.updRecv (uIdx (pkUnit p)) (fun y => { y with owner := none })).updRecv (uIdx (pkUnit p)) (fun y => { y with owner := some (pkF p 0 5 0) }), Rsp.plain .served)) ∧
  cmdIngestAssign.Serves .ingestAssign (fun z _ p => pkF p 0 6 6 = 1 ∧ ∃ x, z.recv (uIdx (pkUnit p)) = some x ∧ x.st = 0 ∧ x.closing = none)
    (fun _ p z => (z.updRecv (uIdx (pkUnit p)) (fun y => { y with owner := none }), Rsp.plain .served)) ∧
  cmdStreamOpen.Serves .streamOpen (fun _ _ _ => True)
    (fun _ p z =>
      let ws := (List.range 8).map (pkW p)
      (z.updRecv (uIdx (pkUnit p)) (fun r => { Recv.closed with owner := r.owner, routes := r.routes, words := ws, st := 1, moving := pkF p 0 8 8 == 1, k := (if pkF p 0 23 16 = 0 then 6 else pkF p 0 23 16), lanes := (if pkF p 0 1 0 = 1 then (z.ing.place ws).getD 0 else 0), badFrames := r.badFrames, noBuffer := r.noBuffer, stampFallback := r.stampFallback, pathLost := r.pathLost, cause := r.cause }), Rsp.plain .served)) ∧
  cmdStreamClose.Serves .streamClose (fun z _ p => ∃ x, z.recv (uIdx (pkUnit p)) = some x ∧ x.st = 0 ∧ x.closing = none) (fun _ _ z => (z, Rsp.plain .served)) ∧
  cmdStreamClose.Serves .streamClose (fun z _ p => (∃ x, z.recv (uIdx (pkUnit p)) = some x ∧ x.st ≠ 0 ∧ x.frames = []) ∧ ((z.closeRecv (uIdx (pkUnit p)) false).recv (uIdx (pkUnit p))).elim false (fun x => x.closing.isSome) = false)
    (fun _ p z => (z.closeRecv (uIdx (pkUnit p)) false, Rsp.plain .served)) ∧
  cmdStreamClose.Starts .streamClose (fun z _ p => ∃ x, z.recv (uIdx (pkUnit p)) = some x ∧ x.st ≠ 0 ∧ x.frames ≠ [] ∧ x.closing = none)
    (fun _ p z => (z.updRecv (uIdx (pkUnit p)) (fun y => { y with closing := some (y.closing.elim z.core.now Prod.fst, y.closing.elim false Prod.snd) }), .unit (recvUnit (uIdx (pkUnit p))))) ∧
  cmdStreamDeclare.Serves .streamDeclare (fun _ _ _ => True)
    (fun _ p z => (z.updRecv (uIdx (pkUnit p)) (fun r => { r with declared := some (pkF p 0 8 8 == 1, if pkF p 0 23 16 = 0 then 6 else pkF p 0 23 16) }), Rsp.plain .served)) ∧
  cmdStreamRoute.Serves .streamRoute
    (fun z _ p => pkF p 0 32 32 = 0 ∧ (∀ o ∈ (pkRecv z p).routes, o.layer ≠ pkF p 0 31 0) ∧ (∀ e ∈ z.ing.recvs, ∀ o ∈ e.2.routes, o.layer ≠ pkF p 0 31 0))
    (fun w p z => (z.updRecv (uIdx (pkUnit p)) (fun x => { x with routes := x.routes ++ [routeOf w p true 0] }), Rsp.plain .served)) ∧
  cmdStreamStatus.Answers .streamStatus (fun _ _ _ => True) (fun _ p z => (z, Rsp.ok (pkRecv z p).status ((pkRecv z p).good % 2 ^ 32) (pkRecv z p).badFrames)) ∧
  cmdPtpSet.Serves .ptpSet (fun _ _ _ => True) (fun _ p z => ({ z with ing := { z.ing with ptp := { z.ing.ptp with domain := pkF p 0 7 0, ports := pkF p 0 11 8 } } }, Rsp.plain .served))

/-- IngestAndPtpEventsComplete: A packet of a new number on an open path begins a frame of its timestamp that holds it. MERGE_US over, missing numbers are lost. A whole good frame is stored and completed, one that fails a condition is stored and counted bad. Two frame periods without a marker abandon a frame. A path with no packet for 10 ms goes DOWN; LOSS_MS without a good frame make a stream LOST. An Ethernet link's change is kept and its paths go DOWN. An announce of the domain on a port that may carry PTP starts acquisition from FREE or HOLDOVER; the sixteenth sync in a row within 100 ns locks the clock, and at the first lock, with no tag and no output on device time, device time steps forward to a later master's; locked, a slower device time slews by at most 100 ppm. No announce in time moves a LOCKED clock to HOLDOVER, journaled. Another domain's message is ignored. -/
def Obligations.IngestAndPtpEventsComplete : Prop :=
  (
  (∀ (s : State) (r path : Nat) (p : RtpPacket) (x : Recv), s.recv r = some x → x.st ≠ 0 → path ∈ x.paths → (Tbl.find s.ing.ports (x.portOf path)).elim false EthPort.link = true → x.frames = [] → x.closing = none → (∀ e ∈ x.seen, e.1 ≠ p.seq) →
    ∃ (t : State) (x' : Recv) (f : RxFrame), exec (.ingestPacket r path p) s = .next t ∧ t.recv r = some x' ∧ x'.frames = [f.add p] ∧ f.ts = p.ts ∧ f.seqs = [] ∧ f.samples = [] ∧ f.began = s.core.now ∧ x'.st = x.st ∧ x'.words = x.words) ∧
  (∀ (s : State) (r at0 : Nat) (x : Recv), s.recv r = some x → x.waitSince = some at0 → at0 + x.f 0 47 32 * 1000 ≤ s.core.now →
    ∃ (t : State) (x' : Recv), exec (.mergeTimeout r) s = .next t ∧ t.recv r = some x' ∧ x'.waitSince = none ∧ x'.frames.length = x.frames.length ∧ ∀ f ∈ x'.frames, f.seqs.length < f.seqs.foldl max 0 + 1 - f.first.getD (f.seqs.foldl min (f.seqs.foldl max 0)) → f.lost = true) ∧
  (∀ (s : State) (r : Nat) (x : Recv) (f : RxFrame) (fs : List RxFrame), s.recv r = some x → x.frames = f :: fs → x.essence < 2 → f.marker.isSome = true → x.waitSince = none →
    exec (.streamFrameComplete r) s = .next (s.kept ((if f.fails x = 0 then (s.storeFrame x f).goodFrame r x f else (s.storeFrame x f).badFrame r f (f.fails x)).endClosing r))) ∧
  (∀ (s : State) (r : Nat) (x : Recv) (f : RxFrame) (fs : List RxFrame), s.recv r = some x → x.frames = f :: fs → f.marker = none → x.essence < 2 → 2 * fpsDen x.words * 10 ^ 9 ≤ (s.core.now - f.began) * x.f 5 31 0 →
    exec (.streamFrameAbandon r) s = .next (s.kept (((s.storeFrame x f).badFrame r f 1).endClosing r))) ∧
  (∀ (s : State) (r path : Nat) (x : Recv), s.recv r = some x → x.st ≠ 0 → path ∈ x.paths → x.pathAt.getD path 0 + 10 ^ 7 ≤ s.core.now → x.pathUp.getD path false = true →
    exec (.pathDown r path) s = .next (s.kept ((s.updRecv r (fun y => { y with pathUp := y.pathUp.set path false })).mapCore (fun k => k.event 0xFE50 0 (recvUnit r) (r + path * 256) (le 8 s.core.now))))) ∧
  (∀ (s : State) (r : Nat) (x : Recv), s.recv r = some x → (x.st = 2 ∨ x.st = 3) → x.lastGood + x.f 0 63 48 * 10 ^ 6 ≤ s.core.now →
    exec (.streamLost r) s = .next (s.kept ((s.updRecv r (fun y => { y with st := 4 })).mapCore (fun k => k.event 0xFE52 0 (recvUnit r) r (le 8 x.good))))) ∧
  (∀ (s : State) (i : Nat) (q : EthPort), Tbl.find s.ing.ports i = some q →
    exec (.ethLinkChange i true) s = .next (s.kept { s with ing := { s.ing with ports := Tbl.put s.ing.ports i { q with link := bitOf q.w0 16 } } }) ∧
    exec (.ethLinkChange i false) s = .next (s.kept (({ s with ing := { s.ing with ports := Tbl.put s.ing.ports i { q with link := false } } } : State).portDown i)))) ∧
  (
  (∀ (s : State) (i d : Nat) (a : Bool) (off : Int) (m : Nat), d ≠ s.ing.ptp.domain → ∃ t, exec (.ptpMessage i d a off m) s = .next t ∧ t.ing = s.ing ∧ t.core = s.core) ∧
  (∀ (s : State) (i : Nat) (off : Int) (m : Nat), bitOf s.ing.ptp.ports i = true → (Tbl.find s.ing.ports i).elim false EthPort.link = true → (s.ing.ptp.st = 0 ∨ s.ing.ptp.st = 3) →
    ∃ t, exec (.ptpMessage i s.ing.ptp.domain true off m) s = .next t ∧ t.ing.ptp.st = 1 ∧ t.ing.ptp.goodSyncs = 0 ∧ t.ing.ptp.lastAnnounce = s.core.now ∧ t.core.dt = s.core.dt) ∧
  (∀ (s : State) (i : Nat) (off : Int) (m : Nat), bitOf s.ing.ptp.ports i = true → (Tbl.find s.ing.ports i).elim false EthPort.link = true → s.ing.ptp.st = 1 → s.ing.ptp.goodSyncs = 15 → s.ing.ptp.everLocked = false → -100 ≤ off → off ≤ 100 →
    s.led.tags = [] → s.frd.outs = [] → s.core.now ≤ m → m < 2 ^ 64 →
    ∃ t, exec (.ptpMessage i s.ing.ptp.domain false off m) s = .next t ∧ t.ing.ptp.st = 2 ∧ t.ing.ptp.everLocked = true ∧ t.ing.ptp.offset = off ∧ t.core.dt = BitVec.ofNat 64 m) ∧
  (∀ (s : State) (i : Nat) (off : Int) (m : Nat), bitOf s.ing.ptp.ports i = true → (Tbl.find s.ing.ports i).elim false EthPort.link = true → s.ing.ptp.st = 2 → s.ing.ptp.goodSyncs = 16 → s.ing.ptp.everLocked = true → -100 ≤ off → off ≤ 100 →
    s.core.now + 1000 < m → m < 2 ^ 64 →
    ∃ t, exec (.ptpMessage i s.ing.ptp.domain false off m) s = .next t ∧ t.ing.ptp.st = 2 ∧ t.ing.ptp.slewing = true ∧ s.core.now ≤ t.core.now ∧ t.core.now ≤ s.core.now + (s.core.now - s.ing.ptp.lastSync) / 10000) ∧
  (∀ s : State, s.ing.ptp.st = 2 → exec .ptpHoldover s = .next (s.kept (({ s with ing := { s.ing with ptp := { s.ing.ptp with st := 3 } } } : State).mapCore (fun k => k.event 0xFE51 0 0 3 (le 8 (enc 64 s.ing.ptp.offset)))))))

/-- TouchCommandsComplete: TOUCH_SURFACE_SET ends the surface's contacts, stores its words, restarts it and moves its generation; TOUCH_REGION_SET queues a region's change for the next frame; TOUCH_HANDOVER of an OFF surface takes effect at once, else it waits for its region's contacts, silently with FORCE; TOUCH_SUBSCRIBE sets the slice's ring; TOUCH_REBASE waits for its frames; TOUCH_STATUS answers. -/
def Obligations.TouchCommandsComplete : Prop :=
  cmdTouchSurfaceSet.Serves .touchSurfaceSet (fun _ _ _ => True)
    (fun _ p z =>
      let t := uIdx (pkUnit p)
      let c := (z.tsurf t).cancelAll t z.core.now
      let z0 := (z.updTsurf t (fun _ => c.1)).touchReports t (z.tsurf t).frame false c.2
      (((z0.updTsurf t (fun x => { x with words := [pkW p 0, pkW p 1, pkW p 2] })).surfUpdate t).mapCore (fun k => k.bump (uid 0x60 t 0)), Rsp.plain .served)) ∧
  cmdTouchRegionSet.Serves .touchRegionSet (fun _ _ _ => True)
    (fun _ p z => (z.updTsurf (uIdx (pkUnit p)) (fun x =>
      { x with nextRegions := x.nextRegions ++ [(pkF p 0 5 0, if bitOf (pkW p 0) 16 then none else some { owner := pkF p 0 13 8, rect := pkW p 1, critical := bitOf (pkW p 0) 17 })] }), Rsp.plain .served)) ∧
  cmdTouchHandover.Starts .touchHandover (fun z _ p => (z.tsurf (uIdx (pkUnit p))).st ≠ 0 ∧ bitOf (pkW p 0) 16 = true)
    (fun _ p z => ((z.mapCore (fun k => { k with nextWork := k.nextWork + 1 })).updTsurf (uIdx (pkUnit p)) (fun x => { x with handover := x.handover ++ [(pkF p 0 5 0, pkF p 0 13 8, true, z.core.nextWork)] }), .work z.core.nextWork)) ∧
  cmdTouchHandover.Delays .touchHandover (fun z _ p => (z.tsurf (uIdx (pkUnit p))).st ≠ 0 ∧ bitOf (pkW p 0) 16 = false) (Rsp.plain .delayedUnitBusy) true
    (fun _ p z => ((z.mapCore (fun k => { k with nextWork := k.nextWork + 1 })).updTsurf (uIdx (pkUnit p)) (fun x => { x with handover := x.handover ++ [(pkF p 0 5 0, pkF p 0 13 8, false, z.core.nextWork)] }), .work z.core.nextWork)) ∧
  cmdTouchHandover.Serves .touchHandover (fun z _ p => (z.tsurf (uIdx (pkUnit p))).st = 0)
    (fun _ p z =>
      let z2 := (z.mapCore (fun k => { k with nextWork := k.nextWork + 1 })).updTsurf (uIdx (pkUnit p)) (fun x => { x with handover := x.handover ++ [(pkF p 0 5 0, pkF p 0 13 8, bitOf (pkW p 0) 16, z.core.nextWork)] })
      ((z2.handOver (uIdx (pkUnit p)) (pkF p 0 5 0) (pkF p 0 13 8) z.core.nextWork).1, Rsp.plain .served)) ∧
  cmdTouchSubscribe.Serves .touchSubscribe (fun _ _ _ => True)
    (fun w p z => (z.updTsurf (uIdx (pkUnit p)) (fun x => { x with rings := Tbl.put x.rings (sliceKey w.inst w.slice) { base := pkW p 0, log2 := pkF p 1 4 0, vector := pkF p 1 15 8, head := pkW p 2, pos := { next := 0, phase := true }, lost := 0 } }), Rsp.plain .served)) ∧
  cmdTouchRebase.Starts .touchRebase (fun z _ p => (z.tsurf (uIdx (pkUnit p))).rebase = none ∧ (bitOf (pkW p 0) 0 = true ∨ ((z.tsurf (uIdx (pkUnit p))).contacts = [] ∧ (z.tsurf (uIdx (pkUnit p))).st = 2)))
    (fun _ p z => ((z.mapCore (fun k => { k with nextWork := k.nextWork + 1 })).updTsurf (uIdx (pkUnit p)) (fun y => if bitOf (pkW p 0) 0 then { y with rebase := some (true, z.core.nextWork) } else { y with st := 3, sums := [], taken := 0, learn := [], rebase := some (false, z.core.nextWork) }), .work z.core.nextWork)) ∧
  cmdTouchStatus.Answers .touchStatus (fun _ _ _ => True)
    (fun _ p z => (z, Rsp.ok (z.tsurf (uIdx (pkUnit p))).status (z.tsurf (uIdx (pkUnit p))).frame (Tbl.cnt z.tch.anomaly (uIdx (pkUnit p)))))

/-- TouchEventsComplete: a scan frame of an integrated surface in STARTUP adds its counts to the sums; of an ACTIVE one with nothing waiting it runs the contact search. Eight frames end STARTUP with their mean as the baseline; four end REBASE. A raw frame that passes its checks is kept for the next scan; one that fails is counted. A raw-frame surface without frames for 3 periods and 100 ms is LOST. Ten clean minutes store the baseline. Due lines are declared faulty or recovered, resting contacts marked, learnt nodes take their mean. -/
def Obligations.TouchEventsComplete : Prop :=
  (∀ (s : State) (t : Nat) (cs own : List Nat) (x : TSurf), t < 2 → s.tsurf t = x → x.st = 1 → x.taken < 8 → x.lines = [] → x.lineBad = [] → x.reported = [] → x.handover = [] →
    ∃ (u : State) (y : TSurf), exec (.touchScanFrame t cs own) s = .next u ∧ u.tsurf t = y ∧ y.st = 1 ∧ y.taken = x.taken + 1 ∧ y.frame = (x.frame + 1) % 2 ^ 32 ∧ y.sums = (List.range x.nodes).map (fun i => x.sums.getD i 0 + cs.getD i 0) ∧ u.core = s.core) ∧
  (∀ (s : State) (t : Nat) (cs own : List Nat) (x : TSurf), t < 2 → s.tsurf t = x → x.st = 2 → x.lines = [] → x.lineBad = [] → x.reported = [] → x.learn = [] → x.nextRegions = [] → x.handover = [] → x.rebase = none →
    exec (.touchScanFrame t cs own) s = .next (s.kept (((s.updTsurf t (fun y => { y with self := some own, counts := none })).activeFrame t cs []).updTsurf t (fun y => { y with frame := (y.frame + 1) % 2 ^ 32, self := none })))) ∧
  (∀ (s : State) (t : Nat) (x : TSurf), s.tsurf t = x → x.st = 1 → 8 ≤ x.taken → Tbl.find s.peat.baselines t = none →
    ∃ u, exec (.touchStartupDone t) s = .next u ∧ (u.tsurf t).st = 2 ∧ (u.tsurf t).base = x.sums.map (· / 8) ∧ (u.tsurf t).suspect = []) ∧
  (∀ (s : State) (t : Nat) (x : TSurf), s.tsurf t = x → x.st = 3 → 4 ≤ x.taken →
    exec (.touchRebaseDone t) s = .next (s.kept (
      let s1 := s.updTsurf t (fun y => { y with st := 2, base := x.sums.map (· / 4), suspect := [], learn := [], sums := [], taken := 0, rebase := none })
      x.rebase.elim s1 (fun r => s1.finishWork r.2 (Rsp.plain .served))))) ∧
  (∀ (s : State) (t : Nat), exec (.touchReacquireDone t) s = .next (s.kept (s.updTsurf t (fun x => x.learnt 2))) ∧ exec (.touchAbsorbDone t) s = .next (s.kept (s.updTsurf t (fun x => x.learnt 4)))) ∧
  (∀ (x : TSurf) (i : Nat) (l : TLearn), i < x.base.length → x.learn = [(i, l)] → l.need = 2 → 2 ≤ l.seen → ((x.learnt 2).base.getD i 0 = l.sum / l.seen ∧ (x.learnt 2).learn = [] ∧ Tbl.find (x.learnt 2).suspect i = none)) ∧
  (∀ (s : State) (t l : Nat) (x : TSurf), s.tsurf t = x → x.newFaults = [l] → exec (.touchLineFault t) s = .next (s.kept (s.lineFault t l))) ∧
  (∀ (s : State) (t l : Nat) (x : TSurf), s.tsurf t = x → x.lines.filter (fun l => decide (16 ≤ Tbl.cnt x.lineFit l)) = [l] →
    exec (.touchLineRecover t) s = .next (s.kept (((s.updTsurf t (fun y => { y with lines := y.lines.filter (· != l), noInterp := y.noInterp.filter (· != l), lineBad := Tbl.put y.lineBad l 0 })).anomaly t 1 (l + 0x4000)).touchReports t x.frame false [touchEvent none t 1 (l + 0x4000) x.frame s.core.now]))) ∧
  (∀ (s : State) (t : Nat) (x : TSurf), s.tsurf t = x → x.absorb = false →
    exec (.touchContactResting t) s = .next (s.kept (s.updTsurf t (fun y => { y with contacts := x.contacts.map (fun c => if x.restNs ≠ 0 ∧ c.resting = false ∧ c.hover = 0 ∧ x.restNs ≤ s.core.now - c.since then { c with resting := true } else c) })))) ∧
  (∀ (s : State) (t : Nat) (x : TSurf), s.tsurf t = x → x.st = 2 → x.contacts = [] → x.suspect = [] → x.cleanSince + 600 * 10 ^ 9 ≤ s.core.now →
    exec (.touchBaselineStore t) s = .next (s.kept { s.updTsurf t (fun y => { y with cleanSince := s.core.now }) with peat := { s.peat with baselines := Tbl.put s.peat.baselines t ([x.w 0, x.w 1] ++ x.base) } })) ∧
  (∀ (s : State) (t : Nat) (x : TSurf), 2 ≤ t → t < 8 → s.tsurf t = x → x.st ≠ 0 → x.st ≠ 4 → x.rate ≠ 0 → x.lastRf + max (3 * 10 ^ 9 / x.rate) (10 ^ 8) ≤ s.core.now →
    exec (.touchSurfaceLost t) s = .next (s.kept (((s.updTsurf t (fun _ => { (x.cancelAll t s.core.now).1 with st := 4, sums := [], taken := 0 })).touchReports t x.frame false ((x.cancelAll t s.core.now).2 ++ [touchEvent none t 2 0 x.frame s.core.now])).anomaly t 2 0))) ∧
  (∀ (s : State) (i span : Nat) (fr : List Byte), i < 6 → ofBe (fr.take 2) ≠ 0x7E5A → exec (.rawFrameReceive i fr span) s = .next (s.kept { s with tch := { s.tch with rfErr := Tbl.inc s.tch.rfErr i } })) ∧
  (∀ (s : State) (i : Nat) (fr : List Byte) (x : TSurf), i < 6 → s.tsurf (i + 2) = x → x.st = 2 → x.drive = (fr.getD 6 0).toNat → x.sense = (fr.getD 7 0).toNat → fr.length = 14 + 2 * x.nodes → ofBe (fr.take 2) = 0x7E5A → (fr.getD 2 0).toNat = 0x10 → (fr.getD 3 0).toNat = 0 →
    ofBe ((fr.drop (fr.length - 2)).take 2) = crc16 (fr.take (fr.length - 2)) → x.lastCount = none →
    ∃ (u : State) (y : TSurf), exec (.rawFrameReceive i fr fr.length) s = .next u ∧ u.tsurf (i + 2) = y ∧ y.counts = some ((List.range x.nodes).map (fun k => ofBe ((fr.drop (12 + 2 * k)).take 2))) ∧ y.lastCount = some (ofBe ((fr.drop 4).take 2)) ∧ y.lastRf = s.core.now ∧ y.st = 2 ∧ u.tch.rfErr = s.tch.rfErr)

/-- HapticsComplete: HAP_CHANNEL_SET stores the words, updates the channel and moves its generation; HAP_EFFECT_SET stores a slot; HAP_PLAY triggers it on a driven channel and waits; HAP_STOP asks an effect to stop; HAP_TOUCH_BIND binds a region; HAP_SCAN starts at F_LO; HAP_CLEAR ends a FAULT; HAP_STATUS answers. A pulse's end drives the next pulse, or a listen window where one is due; a window records resonance and peak, and the second bad one in a row is a fault; the brake ends 12 ms after it began. -/
def Obligations.HapticsComplete : Prop :=
  cmdHapChannelSet.Serves .hapChannelSet (fun _ _ _ => True)
    (fun _ p z =>
      let c := uIdx (pkUnit p)
      let z1 := z.updChan c (fun h => { h with w0 := pkW p 0, w1 := pkW p 1, res := pkF p 1 63 52 * 10, st := (if h.st = 0 then (if pkF p 0 0 0 = 1 then 1 else 0) else h.st) })
      ((z1.chanUpdate c).mapCore (fun k => k.bump (uid 0x61 c 0)), Rsp.plain .served)) ∧
  cmdHapEffectSet.Serves .hapEffectSet (fun _ _ _ => True)
    (fun w p z => ({ z with hap := { z.hap with slots := Tbl.put z.hap.slots (uIdx (pkUnit p)) { owner := w.inst, w0 := pkW p 0, w1 := pkW p 1 } } }, Rsp.plain .served)) ∧
  cmdHapPlay.Starts .hapPlay
    (fun z _ p => (z.chan (uIdx (pkUnit p))).st ≠ 0 ∧ (z.chan (uIdx (pkUnit p))).st ≠ 6 ∧ ∃ h, Tbl.find z.hap.slots (pkF p 0 7 0) = some h ∧ (fld h.w0 3 0 ≠ 0 ∨ fld h.w0 15 8 ≠ 0 ∨ fld h.w0 19 16 ≠ 0))
    (fun _ p z =>
      let h := (Tbl.find z.hap.slots (pkF p 0 7 0)).getD { owner := 0, w0 := 0, w1 := 0 }
      let t : HTrig := { slot := pkF p 0 7 0, owner := h.owner, w0 := h.w0, w1 := h.w1, preempt := bitOf (pkW p 0) 8, work := z.core.nextWork }
      ((z.mapCore (fun k => { k with nextWork := k.nextWork + 1 })).trigger (uIdx (pkUnit p)) t, .work z.core.nextWork)) ∧
  cmdHapStop.Serves .hapStop (fun _ _ _ => True)
    (fun _ p z => (z.updChan (uIdx (pkUnit p)) (fun h => if (h.st = 2 ∨ h.st = 3) ∧ h.cur.isSome then { h with stop := true } else h), Rsp.plain .served)) ∧
  cmdHapTouchBind.Serves .hapTouchBind (fun _ _ _ => True)
    (fun w p z =>
      let k := pkF p 0 2 0 * 64 + pkF p 0 13 8
      ({ z with hap := { z.hap with binds := if bitOf (pkW p 0) 25 then Tbl.del z.hap.binds k else Tbl.put z.hap.binds k { inst := w.inst, channel := uIdx (pkUnit p), slot := pkF p 0 23 16, preempt := bitOf (pkW p 0) 24 } } }, Rsp.plain .served)) ∧
  cmdHapScan.Starts .hapScan (fun z _ p => (z.chan (uIdx (pkUnit p))).st = 1)
    (fun _ p z => ((z.mapCore (fun k => { k with nextWork := k.nextWork + 1 })).updChan (uIdx (pkUnit p))
      (fun h => { h with st := 5, amp := 10, listening := false, scan := some { work := z.core.nextWork, freq := h.fLo, pulse := 0, best := 0, bestPeak := 0, bad := 0, paused := false } }), .work z.core.nextWork)) ∧
  cmdHapClear.Serves .hapClear (fun _ _ _ => True) (fun _ p z => (z.updChan (uIdx (pkUnit p)) (fun h => if h.st = 6 then ({ h with fault := 0 } : HChan).rest else h), Rsp.plain .served)) ∧
  cmdHapStatus.Answers .hapStatus (fun _ _ _ => True) (fun _ p z => (z, Rsp.ok (z.chan (uIdx (pkUnit p))).status (z.chan (uIdx (pkUnit p))).touchRun (z.chan (uIdx (pkUnit p))).trigDrop)) ∧
  (∀ (s : State) (c : Nat) (h : HChan) (t : HTrig), s.chan c = h → h.listening = false → (h.st = 2 ∨ h.st = 3) → h.cur = some t → h.cut = none → h.stop = false → h.idx ≠ t.count h.st → h.sinceListen + 1 < h.every →
    ∃ u, exec (.hapPulseEnd c) s = .next u ∧ u.chan c = { h with driven := h.driven + 1, sinceListen := h.sinceListen + 1, idx := h.idx + 1, amp := min (t.amp h.st (h.idx + 1)) h.vmax, clipped := h.clipped || decide (h.vmax < t.amp h.st (h.idx + 1)) }) ∧
  (∀ (s : State) (c : Nat) (h : HChan) (t : HTrig), s.chan c = h → h.listening = false → (h.st = 2 ∨ h.st = 3 ∨ h.st = 4) → h.cur = some t → h.cut = none → (h.idx = t.count h.st ∨ h.every ≤ h.sinceListen + 1) →
    ∃ u, exec (.hapPulseEnd c) s = .next u ∧ u.chan c = { h with driven := h.driven + 1, sinceListen := 0, listening := true }) ∧
  (∀ (s : State) (c peak : Nat) (crossing : Option Nat) (h : HChan), s.chan c = h → h.listening = true → h.st ≠ 5 → (h.window crossing peak).openBad < 2 → (h.window crossing peak).stallBad < 2 →
    exec (.hapListenClose c crossing peak) s = .next (s.kept ((s.updChan c (fun x => x.window crossing peak)).afterWindow c))) ∧
  (∀ (s : State) (c peak : Nat) (h : HChan), s.chan c = h → h.listening = true → h.st ≠ 5 → 20 ≤ h.amp → 1 ≤ h.openBad →
    exec (.hapListenClose c none peak) s = .next (s.kept ((s.updChan c (fun x => x.window none peak)).hapFault c 1))) ∧
  (∀ (s : State) (c : Nat) (h : HChan), s.chan c = h → h.st = 4 → h.cut = none → h.brakeBegan + 12 * 10 ^ 6 ≤ s.core.now → exec (.hapBrakeTimeout c) s = .next (s.kept (s.endEffect c)))

/-- AudioComplete: AUD_MODE_SET stores the mode and journals it; AUD_SOURCE_OPEN and AUD_SOURCE_CLOSE open and close a port; AUD_BUS_SET and AUD_SINK_SET keep a set that waits for its block, replacing one that waited; AUD_APPLY makes the slice's staged sets due; AUD_TDM_SET, AUD_ASSIGN and AUD_HEADSET_SET store their words; AUD_STATUS answers the unit's status register. A block that is due swaps the due sets, takes every source's samples, mixes every bus, feeds every sink and moves on by 8 samples; with nothing set up it only moves on. A bus's duck hold over, its duck term ramps back. The jack: closing starts the debounce, 50 ms later the measurement, whose result classifies the plug and is journaled; opening mutes the headset and is journaled. A button reading that has held for 20 ms is reported pressed or released. -/
def Obligations.AudioComplete : Prop :=
  (
  cmdAudModeSet.Serves .audModeSet (fun _ _ _ => True)
    (fun _ p z =>
      let a : Aud := { z.aud with mode := pkF p 0 1 0 }
      (({ z with aud := { a with k := if a.rate = z.aud.rate then a.k else a.kAfter z.core.now } } : State).mapCore (fun c => c.event 0xFE81 0 (uid 0x00 0 0) (pkF p 0 1 0) []), Rsp.plain .served)) ∧
  cmdAudSourceOpen.Serves .audSourceOpen (fun _ _ _ => True)
    (fun w p z => ({ z with aud := { z.aud with srcs := Tbl.put z.aud.srcs (uIdx (pkUnit p)) (ASrc.fresh w.inst w.slice (pkW p 0) (pkW p 1) (pkW p 2)) } }, Rsp.plain .served)) ∧
  cmdAudSourceClose.Serves .audSourceClose (fun _ _ _ => True)
    (fun _ p z => (({ z with aud := { z.aud with srcs := Tbl.upd z.aud.srcs (uIdx (pkUnit p)) (fun x => { x with st := 0 }) } } : State).mapCore (fun c => c.bump (uid 0x70 (uIdx (pkUnit p)) 0)), Rsp.plain .served)) ∧
  cmdAudBusSet.Starts .audBusSet (fun _ _ _ => True)
    (fun w p z => (((z.mapCore (fun k => { k with nextWork := k.nextWork + 1 })).replaceSet (z.abus (uIdx (pkUnit p))).next).updBus (uIdx (pkUnit p))
      (fun x => { x with next := some { words := (List.range (pkN p)).map (pkW p), work := z.core.nextWork, key := sliceKey w.inst w.slice, due := !bitOf (pkW p 0) 8 } }), .work z.core.nextWork)) ∧
  cmdAudSinkSet.Starts .audSinkSet (fun _ _ _ => True)
    (fun w p z => (((z.mapCore (fun k => { k with nextWork := k.nextWork + 1 })).replaceSet (z.asink (uIdx (pkUnit p))).next).updSink (uIdx (pkUnit p))
      (fun x => { x with next := some { words := (List.range (pkN p)).map (pkW p), work := z.core.nextWork, key := sliceKey w.inst w.slice, due := !bitOf (pkW p 0) 9 } }), .work z.core.nextWork)) ∧
  cmdAudApply.Starts .audApply (fun _ _ _ => True)
    (fun w _ z =>
      let mark (o : Option ASet) : Option ASet := o.map (fun n => if n.key = sliceKey w.inst w.slice then { n with due := true } else n)
      ({ z with core := { z.core with nextWork := z.core.nextWork + 1 }, aud := { z.aud with buses := Tbl.mapVals z.aud.buses (fun _ x => { x with next := mark x.next }), sinks := Tbl.mapVals z.aud.sinks (fun _ x => { x with next := mark x.next }), applies := z.aud.applies ++ [z.core.nextWork] } }, .work z.core.nextWork)) ∧
  cmdAudTdmSet.Serves .audTdmSet (fun _ _ _ => True) (fun _ p z => ({ z with aud := { z.aud with tdm := Tbl.put z.aud.tdm (uIdx (pkUnit p)) (pkW p 0) } }, Rsp.plain .served)) ∧
  cmdAudAssign.Serves .audAssign (fun _ _ _ => True)
    (fun _ p z =>
      let o := if bitOf (pkW p 0) 6 then none else some (pkF p 0 5 0)
      (if uCls (pkUnit p) = 0x71 then z.updSink (uIdx (pkUnit p)) (fun x => { x with owner := o }) else z.updBus (uIdx (pkUnit p)) (fun x => { x with owner := o }), Rsp.plain .served)) ∧
  cmdAudHeadsetSet.Serves .audHeadsetSet (fun _ w _ => w.secure = false) (fun _ p z => ({ z with aud := { z.aud with hsOwner := pkF p 0 5 0 } }, Rsp.plain .served)) ∧
  cmdAudHeadsetSet.Serves .audHeadsetSet (fun z w p => w.secure = true ∧ (z.asink 10).words = [] ∧ bitOf (pkW p 0) 32 = true)
    (fun _ p z => (({ z with aud := { z.aud with hpLimit := pkF p 0 31 16, hpLock := true } } : State).extend 10 (le 4 5), Rsp.plain .served)) ∧
  cmdAudStatus.Answers .audStatus (fun _ _ p => uCls (pkUnit p) = 0x70 ∨ uCls (pkUnit p) = 0x73)
    (fun _ p z =>
      let f (n : Nat) : Nat := (Config.freeValue (z.core.freeCtr + n)).toNat % 2 ^ 32
      (z.mapCore (fun c => c.useFree 3), Rsp.ok (if uCls (pkUnit p) = 0x70 then z.srcStatus (uIdx (pkUnit p)) else z.aud.hsStatus) (f 1) (f 2)))) ∧
  (
  (∀ (s : State) (tdm0 tdm1 : Option (List Int)) (mic : List Int) (slips : List (Nat × Bool)), s.isActive (uid 0x73 0 0) = true → (∀ t, s.aud.sampleDt s.aud.k = some t → t ≤ s.core.now) →
    exec (.audioBlock tdm0 tdm1 mic slips) s = .next (s.kept (
      let r := s.swapSets.srcBlocks { tdm0 := tdm0, tdm1 := tdm1, mic := mic, slips := slips }
      let s3 := (List.range 32).foldl State.feedSink ((List.range 16).foldl (fun a b => a.mixBus r.2 b) r.1)
      { s3 with aud := { s3.aud with k := s3.aud.k + 8 } }))) ∧
  (∀ (s : State) (blocks : Tbl (List (List Int))) (b : Nat), ((s.abus b).release s.aud).set = true →
    let x := (s.abus b).release s.aud
    ((s.mixBus blocks b).abus b).out = fadeBlock x.dip ((List.range 8).map (fun n => (List.range (fld x.w0 2 0 + 1)).map (fun c =>
      (saturate ((((x.inputs.filter (fun i => inEnable i.word)).filter (fun i => fld i.word 14 12 == c)).map (fun i => s.inputAt blocks x.duck i n)).foldl (· + ·) 0)).1)))) ∧
  (∀ (s : State) (b : Nat) (x : ABus), Tbl.find s.aud.buses b = some x → x.ducking = true → x.lastActive + s.aud.rate / 5 ≤ s.aud.k →
    exec (.duckHoldExpire b) s = .next (s.kept (s.updBus b (fun y => { y with ducking := false, duck := y.duck.to 0 (fld y.w0 41 31 * s.aud.rate / 1000) })))) ∧
  (∀ s : State, s.aud.plugged = false → s.aud.jack = 0 → exec (.hsDetChange true) s = .next (s.kept { s with aud := { s.aud with plugged := true, jack := 1, jackSince := s.core.now } })) ∧
  (∀ s : State, s.aud.plugged = true → exec (.hsDetChange false) s = .next (s.kept (
    ((({ s with aud := { s.aud with plugged := false, jack := 0, pressed := false, button := 0 } } : State).updSink 10 (fun x => { x with muted := true, out := [] })).jackEvent 2).jackJournal))) ∧
  (∀ s : State, s.aud.jack = 1 → s.aud.jackSince + 50 * 10 ^ 6 ≤ s.core.now → exec .hsDebounceDone s = .next (s.kept { s with aud := { s.aud with jack := 2, jackSince := s.core.now } })) ∧
  (∀ (s : State) (load r2 sl : Nat), s.aud.jack = 2 → exec (.hsMeasureDone load r2 sl) s = .next (s.kept (
    ((({ s with aud := { s.aud with jack := (jackOf load r2 sl).1, micMv := min (jackOf load r2 sl).2 4095, load := min load 4095 } } : State).updSink 10 (fun x => { x with muted := true })).jackEvent 1).jackJournal))) ∧
  (∀ (s : State) (mv ms b : Nat), s.aud.jack = 4 → 20 ≤ ms → buttonOf mv = some b → b ≠ 4 → s.aud.pressed = false →
    exec (.hsButtonChange mv ms) s = .next (s.kept (({ s with aud := { s.aud with micMv := min mv 4095, pressed := true, button := b } } : State).jackEvent 3))) ∧
  (∀ (s : State) (mv ms : Nat), s.aud.jack = 5 → 20 ≤ ms → 1150 < mv → s.aud.pressed = true →
    ∃ t, exec (.hsButtonChange mv ms) s = .next t ∧ t.aud = { s.aud with micMv := min mv 4095, pressed := false, button := 0 } ∧ t.core = (({ s with aud := { s.aud with micMv := min mv 4095 } } : State).jackEvent 4).core))

/-- PowerAndIslandsComplete: PWR_DOMAIN_SET on wakes a domain that is OFF and serves one that is ON; off drains one that is ON and holds no lease and serves one that is OFF; PWR_RESET journals the reset, completes, then resets; PWR_AVS_SET and PWR_THERMAL_SET store their fields; PWR_STATUS and PWR_SENSOR_READ answer; PWR_SHUTDOWN without leases stops admission and waits. An AVS tick with pace at target holds the voltage, a pace more than 30 above raises it by 10 mV, more than 50 below lowers it by 5 mV, within its limits. A reading below the warning clears its marks; one at TRIP_C sheds the named domains. The critical stage pulls THERM_TRIP_N and holds the device in reset. A voltage above its upper limit is recorded and journaled. An island in a domain that is ON wakes; the NAND or QSPI island stops after 1 ms without use. -/
def Obligations.PowerAndIslandsComplete : Prop :=
  (
  cmdPwrDomainSet.Serves .pwrDomainSet (fun z _ p => (bitOf (pkW p 0) 0 = true ∧ z.domSt (uIdx (pkUnit p)) = .on) ∨ (bitOf (pkW p 0) 0 = false ∧ (z.domSt (uIdx (pkUnit p)) = .off ∨ z.domSt (uIdx (pkUnit p)) = .shed))) (fun _ _ z => (z, Rsp.plain .served)) ∧
  cmdPwrDomainSet.Starts .pwrDomainSet (fun z _ p => bitOf (pkW p 0) 0 = true ∧ (z.domSt (uIdx (pkUnit p)) = .off ∨ z.domSt (uIdx (pkUnit p)) = .shed))
    (fun _ p z => (z.setDom (uIdx (pkUnit p)) .waking, .unit (uid 0xA0 (uIdx (pkUnit p)) 0))) ∧
  cmdPwrDomainSet.Starts .pwrDomainSet (fun z _ p => bitOf (pkW p 0) 0 = false ∧ z.domSt (uIdx (pkUnit p)) = .on ∧ z.domainLeased (uIdx (pkUnit p)) = false)
    (fun _ p z => ((z.setDom (uIdx (pkUnit p)) .draining).setTr (uid 0xA0 (uIdx (pkUnit p)) 0) { phase := .draining, kind := .powerDown, queued := [], discarded := 0, began := z.core.now }, .unit (uid 0xA0 (uIdx (pkUnit p)) 0))) ∧
  (∀ s port t w p, cmdPwrReset.ready s port = some (t, w, p) → cmdPwrReset.acts t p = true →
    exec (.pwrReset port) s = .next (s.kept (((cmdPwrReset.waits t w p (fun z =>
      let z1 := z.resetEvent (bitOf (pkW p 0) 0) 1
      let z2 := z1.allDurable.mapCore (fun c => c.complete w p (Rsp.plain .served) true true (z1.core.jrn.nextJseq - 1))
      ({ z2 with pwr := { z2.pwr with resetAsked := some (pkW p 0) } }, .unit 0))).ported port).takeReset))) ∧
  cmdPwrAvsSet.Serves .pwrAvsSet (fun _ _ _ => True)
    (fun _ p z => ({ z with pwr := { z.pwr with avsEnable := bitOf (pkW p 0) 31, avsTarget := pkF p 0 30 20, avsMax := pkF p 0 19 10, avsMin := pkF p 0 9 0 } }, Rsp.plain .served)) ∧
  cmdPwrThermalSet.Serves .pwrThermalSet (fun _ w _ => w.secure = false) (fun _ p z => ({ z with pwr := { z.pwr with warnC := pkF p 0 7 0 } }, Rsp.plain .served)) ∧
  cmdPwrThermalSet.Serves .pwrThermalSet (fun _ w _ => w.secure = true)
    (fun _ p z => ({ z with pwr := { z.pwr with shedMask := pkF p 0 27 16, tripC := (if (if z.fix.gradeX then 0x73 else 0x69) < pkF p 0 15 8 then z.pwr.tripC else pkF p 0 15 8) } }, Rsp.plain .served)) ∧
  cmdPwrStatus.Answers .pwrStatus (fun _ _ _ => True) (fun _ _ z => (z, Rsp.ok z.domStatus z.pwr.avsStatus z.lnk.paceStatus)) ∧
  cmdPwrSensorRead.Answers .pwrSensorRead (fun z _ p => uIdx (pkUnit p) < 40 ∧ Tbl.has z.pwr.sensor (uIdx (pkUnit p)) = true) (fun _ p z => (z, Rsp.ok (Tbl.cnt z.pwr.sensor (uIdx (pkUnit p))) 0 0)) ∧
  cmdPwrShutdown.Starts .pwrShutdown (fun z _ _ => ∀ e ∈ z.sec.leases, e.2 = false)
    (fun _ p z => ({ z with pwr := { z.pwr with shutdown := true, standby := bitOf (pkW p 0) 0, shutdownBegan := z.core.now, admitStopped := true } }, .unit 0))) ∧
  (
  (∀ (s : State) (vread p : Nat), s.lnk.average = some p → s.pwr.avsEnable = true → s.pwr.mgmtRestarting = false → s.domSt 8 = .on → s.pwr.vset ≠ 0 →
    let next (v : Nat) : Host.Outcome State Fault Refusal := .next (s.kept { s with pwr := { s.pwr with vread := vread % 1024, vset := v } })
    (s.pwr.avsTarget + 30 < p → s.pwr.vset < s.pwr.avsMax → exec (.avsTick vread) s = next (min s.pwr.avsMax (s.pwr.vset + 10))) ∧
    (p + 50 < s.pwr.avsTarget → s.pwr.avsMin < s.pwr.vset → exec (.avsTick vread) s = next (max s.pwr.avsMin (s.pwr.vset - 5))) ∧
    (p ≤ s.pwr.avsTarget + 30 → s.pwr.avsTarget ≤ p + 50 → exec (.avsTick vread) s = next s.pwr.vset)) ∧
  (∀ (s : State) (n : Nat) (r : Int), n < 16 → s.pwr.held = false → r < (s.pwr.warnC : Int) * 4 → r < (s.pwr.tripC : Int) * 4 →
    exec (.thermalSample n r) s = .next (s.kept { s with pwr := { s.pwr with sensor := Tbl.put s.pwr.sensor n (enc 16 r), warned := s.pwr.warned.filter (· != n), tripped := s.pwr.tripped.filter (· != n), trippedAt := Tbl.del s.pwr.trippedAt n } })) ∧
  (∀ (s : State) (n : Nat) (r : Int), n < 16 → s.pwr.held = false → (s.pwr.warnC : Int) * 4 ≤ r → (s.pwr.tripC : Int) * 4 ≤ r → n ∈ s.pwr.warned → n ∉ s.pwr.tripped →
    exec (.thermalSample n r) s = .next (s.kept (({ s with pwr := { s.pwr with sensor := Tbl.put s.pwr.sensor n (enc 16 r), tripped := s.pwr.tripped ++ [n], trippedAt := Tbl.put s.pwr.trippedAt n s.core.now } } : State).trip n))) ∧
  (∀ (s : State) (n : Nat), s.criticalSensor = some n → s.pwr.held = false → ∃ t, exec .thermalCritical s = .next t ∧ t.pwr.thermTripLow = true ∧ t.pwr.held = true ∧ t.pwr.sensor = s.pwr.sensor ∧ t.mem.dram = [] ∧ t.led = Led.cold) ∧
  (∀ (s : State) (m mv : Nat), m < 24 → fld (Tbl.cnt s.pwr.vmonLim m) 31 16 < mv →
    exec (.vmonExcursion m mv) s = .next (s.kept (({ s with pwr := { s.pwr with sensor := Tbl.put s.pwr.sensor (16 + m) (mv % 65536) } } : State).mapCore (fun c => (c.irq .mgmtVmon).event 0xFEC3 0 0 m (le 2 mv ++ le 1 1))))) ∧
  (∀ (s : State) (i : Nat), i < 29 → s.domSt (islandDomain i) = .on → exec (.islandWake i) s = .next (s.kept { s with pwr := { s.pwr with islands := Tbl.put s.pwr.islands i { running := true, lastUse := s.core.now } } })) ∧
  (∀ (s : State) (i : Nat), (i = 26 ∨ i = 27) → s.islandRuns i = true → (s.island i).lastUse + 10 ^ 6 ≤ s.core.now → s.peat.flushing = false → s.core.jrn.flushing = [] →
    exec (.islandStop i) s = .next (s.kept { s with pwr := { s.pwr with islands := Tbl.put s.pwr.islands i { s.island i with running := false } } })))

/-- ResetsAndBootComplete: A cold reset clears DRAM, surfaces, the ledger and the fronds, and keeps what NAND, fuses and the sentinel hold; a warm reset also keeps the measurements and DRAM but for the first 512 KiB of each group, with the groups in self-refresh or, if lost, OFFLINE; a power-on reset clears device time, the tamper latches and the boot count. A fatal error with its cause stores the dump and resets. MGMT's watchdog restarts MGMT alone, and its restart ends. The boot with a readable fuse image, matching ROMs, a common link version and a signed first stage that is not older than the rollback counter brings the link up, the domains of the first stage on and the memory groups that are not lost to training; without a fuse image it halts with its code. Then the firmware is measured, PF slice 0 exists and PWR_READY is high. PERST_N's rise starts the training once PWR_READY is high. A waking domain whose supplies are on is on. -/
def Obligations.ResetsAndBootComplete : Prop :=
  (
  (∀ s : State, ∃ t, exec .coldReset s = .next t ∧ t.mem.dram = [] ∧ t.srf = Srf.cold ∧ t.frd = Frd.cold ∧ t.led = Led.cold ∧ t.lnk = Lnk.cold ∧ t.core.ready = false ∧ t.core.slices = [] ∧ t.sec.meas = [] ∧ t.sec.run = .booting ∧
    t.sec.tamperLatched = s.sec.tamperLatched ∧ t.sec.bootCount = s.sec.bootCount ∧ t.sec.rollback = s.sec.rollback ∧ t.peat.stored = s.peat.stored ∧ t.peat.dumps = s.peat.dumps ∧ t.core.jrn.part = s.core.jrn.part ∧ t.fix = s.fix ∧ t.core.dt = s.core.dt) ∧
  (∀ s : State, s.pwr.held = false → ∃ t, exec .warmReset s = .next t ∧ t.mem.dram = s.mem.dram.filter (fun c => decide (2 ^ 19 ≤ c.1 % 2 ^ 35)) ∧ t.sec.meas = s.sec.meas ∧ t.sec.measCount = s.sec.measCount ∧ t.mem.a.st = (if s.mem.a.lost then .offline else .sr) ∧ t.mem.b.st = (if s.mem.b.lost then .offline else .sr) ∧
    t.srf = Srf.cold ∧ t.led = Led.cold ∧ t.core.ready = false ∧ t.peat.flushing = false) ∧
  (∀ s : State, ∃ t, exec .powerOnReset s = .next t ∧ t.core.dt = 0 ∧ t.sec.tamperLatched = [] ∧ t.sec.bootCount = 0 ∧ t.mem.dram = [] ∧ t.peat.stored = s.peat.stored) ∧
  (∀ (s : State) (cause : Nat) (dump : List Byte), s.fatalDue cause = true →
    exec (.fatalError cause dump) s = .next (s.kept ((({ s with peat := { s.peat with dumpArea := some { number := s.peat.nextDump, cause := cause, bytes := dump } } } : State).resetEvent false 3).flushed.warmReset))) ∧
  (∀ s : State, s.pwr.mgmtRestarting = false → s.domSt 8 = .on →
    exec .mgmtWatchdogExpire s = .next (s.kept { s with pwr := { s.pwr with mgmtRestarting := true, mgmtRestartBegan := s.core.now, mgmtRestarts := (s.pwr.mgmtRestarts ++ [s.core.now]).filter (fun t => decide (s.core.now ≤ t + 600 * 10 ^ 9)) } })) ∧
  (∀ s : State, exec .mgmtRestartDone s = .next (s.kept { s with pwr := { s.pwr with mgmtRestarting := false } }))) ∧
  (
  (∀ (s : State) (f glyph coef : List Byte) (lo hi v : Nat), s.sec.run = .booting → s.sec.bootHalted = false → s.pwr.held = false → s.domSt 8 ≠ .on → s.sec.tamperHeld = [] → commonVersion 0x10 0x12 lo hi = some v →
    imgWhole (Tbl.at s.peat.images [] (imgKey 0 1)) 1 = true → imgSigned s.fix (Tbl.at s.peat.images [] (imgKey 0 1)) = true → s.sec.rollback ≤ imgField (Tbl.at s.peat.images [] (imgKey 0 1)) 11 1 →
    ∃ t, exec (.fiddleheadBoot (some f) (some (glyph, coef)) lo hi) s = .next t ∧ t.sec.bootHalted = false ∧ t.sec.bootedB = false ∧ t.sec.bootCount = s.sec.bootCount + 1 ∧ t.lnk.up = true ∧ t.lnk.verMajor = v / 16 ∧ t.lnk.verMinor = v % 16 ∧
      t.mem.a.st = (if s.mem.a.lost then s.mem.a.st else .training) ∧ t.mem.b.st = (if s.mem.b.lost then s.mem.b.st else .training) ∧ ∀ d ∈ [0, 2, 3, 5, 6, 7, 8, 9, 11], t.domSt d = .on) ∧
  (∀ (s : State) (lo hi : Nat) (roms : Option (List Byte × List Byte)), s.sec.run = .booting → s.sec.bootHalted = false → s.pwr.held = false → s.domSt 8 ≠ .on →
    ∃ t, exec (.fiddleheadBoot none roms lo hi) s = .next t ∧ t.sec.bootHalted = true ∧ t.sec.bootCode = 0x0B10) ∧
  (∀ s : State, s.core.ready = false → s.sec.run = .booting → s.sec.bootHalted = false → s.domSt 7 = .on → s.peat.dumpArea = none →
    ∃ t, exec .pwrReadyHigh s = .next t ∧ t.core.ready = true ∧ (t.core.slice 0 0).isSome = true ∧ t.sec.run = .running ∧ t.sec.wdog = s.core.now ∧ t.peat.holdup = s.fix.nand.holdup ∧ t.pwr.pcieTraining = s.pwr.perstHigh ∧
      t.sec.fwDigest = imgDigest (s.peat.image 2 (s.peat.slot 2).active)) ∧
  (∀ s : State, exec .pciePerst s = .next (s.kept { s with pwr := { s.pwr with perstHigh := true, pcieTraining := s.core.ready && !s.pwr.pcieUp } })) ∧
  (∀ (s : State) (d : Nat), s.domSt d = .waking → s.depsOn d = true →
    exec (.domainWakeDone d) s = .next (s.kept ((((s.setDom d .on).domainWoken d).domEvent d .on 1).finishWhere (fun o => o.op == 0x0E00 && o.wait == .unit (uid 0xA0 d 0) && o.started) (fun _ => Rsp.plain .served)))))

/-- PeatCommandsComplete: PEAT_FORMAT erases the partitions and starts the journal anew with its count of formats raised; PEAT_CAPTURE requests a capture and waits; PEAT_RETAIN_SET stores MIN; PEAT_UPDATE_WRITE writes the bytes into the inactive slot and undoes its commit; PEAT_UPDATE_COMMIT of an image that verifies records its digest; PEAT_ACTIVATE schedules a component, or confirms it. PEAT_STATUS and the reads of captures, dumps and the log answer. -/
def Obligations.PeatCommandsComplete : Prop :=
  cmdPeatFormat.Serves .peatFormat (fun _ _ _ => True)
    (fun _ p z =>
      let sizes := (List.range 9).map (pkW p)
      let z1 := z.allDurable
      (({ z1 with peat := z1.peat.format sizes (bitOf (pkW p 9) 0) } : State).mapCore (fun c => Core.journalState { c with jrn := c.jrn.formatted z.fix (journalCapacity z.fix sizes) } true), Rsp.plain .served)) ∧
  cmdPeatStatus.Answers .peatStatus (fun _ _ _ => True)
    (fun _ _ z => (z, Rsp.ok z.peatStatus ((z.peat.stored.head?.map (fun c => c.req.id)).getD 0) ((z.peat.stored.getLast?.map (fun c => c.req.id)).getD 0))) ∧
  cmdPeatCapture.Starts .peatCapture (fun z _ p => (z.captureRegion (pkUnit p)).isSome)
    (fun _ p z =>
      let r := (z.captureRegion (pkUnit p)).getD (0, 0, false)
      ((z.mapCore (fun k => { k with nextWork := k.nextWork + 1 })).requestCapture 1 (pkUnit p) r.1 (if pkW p 1 = 0 then z.nextLatch r.1 else pkW p 1) (pkW p 2) r.2.1 z.core.nextWork, .work z.core.nextWork)) ∧
  cmdPeatCaptureRead.Answers .peatCaptureRead (fun z _ p => z.partPermits 5 6 false = true ∧ ∃ c, z.peat.stored.find? (fun c => c.req.id == pkW p 0) = some c)
    (fun w p z =>
      let bs := (z.peat.stored.find? (fun c => c.req.id == pkW p 0)).elim [] Capture.stored
      let part := (bs.drop (pkW p 1)).take (pkW p 3)
      z.answer w (pkW p 2) part (Rsp.ok part.length ((z.peat.stored.find? (fun c => c.req.id == pkW p 0)).elim 0 (fun c => c.bytes.length)) 0)) ∧
  cmdPeatRetainSet.Serves .peatRetainSet (fun _ _ _ => True) (fun _ p z => ({ z with peat := { z.peat with retainMin := pkW p 0 } }, Rsp.plain .served)) ∧
  cmdPeatUpdateWrite.Serves .peatUpdateWrite (fun z w p => (∃ bs, (z.hostRead w (pkW p 2) (pkW p 3)).2 = .ok bs) ∧ (z.hostRead w (pkW p 2) (pkW p 3)).1.partPermits (uIdx (pkUnit p)) 4 true = true)
    (fun w p z =>
      let r := z.hostRead w (pkW p 2) (pkW p 3)
      let bs := match r.2 with | .ok bs => bs | .error _ => []
      let k := imgKey (uIdx (pkUnit p)) (pkW p 0)
      ({ r.1 with peat := { r.1.peat with images := Tbl.put r.1.peat.images k (Memory.wrN (Tbl.at r.1.peat.images [] k) (pkW p 1) bs), committed := Tbl.del r.1.peat.committed k } }, Rsp.plain .served)) ∧
  cmdPeatUpdateCommit.Serves .peatUpdateCommit
    (fun z _ p => z.partPermits (uIdx (pkUnit p)) 4 false = true ∧ let m := Tbl.at z.peat.images [] (imgKey (uIdx (pkUnit p)) (pkW p 0)); imgSigned z.fix m = true ∧ imgBody m = true ∧ imgField m 10 1 = pkW p 0)
    (fun _ p z =>
      let k := imgKey (uIdx (pkUnit p)) (pkW p 0)
      let m := Tbl.at z.peat.images [] k
      ({ z with peat := { z.peat with committed := Tbl.put z.peat.committed k (imgDigest m), images := if k = imgKey 1 1 then Tbl.put z.peat.images (imgKey 0 1) m else z.peat.images } }, Rsp.code .served (ofLe ((imgDigest m).take 4)))) ∧
  cmdPeatActivate.Starts .peatActivate (fun z _ p => pkW p 1 = 0 ∧ pkW p 0 ∉ z.peat.activating) (fun _ p z => ({ z with peat := { z.peat with activating := z.peat.activating ++ [pkW p 0] } }, .unit (uid 0x80 (pkW p 0) 0))) ∧
  cmdPeatActivate.Serves .peatActivate (fun _ _ p => pkW p 1 = 1)
    (fun _ p z => ({ z with peat := { z.peat with slots := Tbl.put z.peat.slots (pkW p 0) { z.peat.slot (pkW p 0) with trial := none, trialBoots := 0 } } }, Rsp.plain .served)) ∧
  cmdPeatDumpRead.Answers .peatDumpRead (fun z _ p => z.partPermits 7 6 false = true ∧ ∃ d, z.peat.dumps.find? (fun d => d.number == pkW p 0) = some d)
    (fun w p z =>
      let bs := (z.peat.dumps.find? (fun d => d.number == pkW p 0)).elim [] (fun d => d.bytes)
      let part := (bs.drop (pkW p 1)).take (pkW p 3)
      z.answer w (pkW p 2) part (Rsp.ok part.length bs.length 0)) ∧
  cmdPeatLogRead.Answers .peatLogRead (fun z _ _ => z.partPermits 8 6 false = true)
    (fun w p z => z.answer w (pkW p 0) (z.peat.log.drop (z.peat.log.length - min z.peat.log.length (pkW p 1))) (Rsp.ok (min z.peat.log.length (pkW p 1)) z.peat.log.length 0))

/-- FirmwareAndCapturesComplete: scheduled dispatch firmware takes over on the standby pair and extends register 13; management firmware activates at MGMT's quiet point and restarts it. Trial firmware that has not reported ready by its third boot falls back. A capture whose frame part is held and that fits is staged; a staged one moves to the partition and is journaled with its digest. -/
def Obligations.FirmwareAndCapturesComplete : Prop :=
  (∀ s : State, 4 ∈ s.peat.activating → s.lnk.failedPairs = [] →
    exec (.firmwareActivation 4) s = .next (s.kept ((({ s with lnk := { s.lnk with activePair := 1 - s.lnk.activePair } } : State).extendDigest 13 ((s.peat.candidate 4).getD [])).activated 4))) ∧
  (∀ s : State, 3 ∈ s.peat.activating → s.mgmtQuiet = true → ∃ t, exec (.firmwareActivation 3) s = .next t ∧ t.pwr.mgmtRestarting = true ∧ t.pwr.mgmtRestartBegan = s.core.now ∧ 3 ∉ t.peat.activating ∧ (t.peat.slot 3).active = 1 - (s.peat.slot 3).active ∧
    (t.peat.slot 3).trial = some (1 - (s.peat.slot 3).active) ∧ t.measOf 13 = sha384 (s.measOf 13 ++ (s.peat.candidate 3).getD [])) ∧
  (∀ (s : State) (c : Nat), (c = 2 ∨ c = 3) → (s.peat.slot c).trial.isSome = true → 3 ≤ (s.peat.slot c).trialBoots → s.core.ready = false →
    exec (.fwTrialFallback c) s = .next (s.kept (({ s with peat := { s.peat with slots := Tbl.put s.peat.slots c { active := 1 - (s.peat.slot c).active, trial := none, trialBoots := 0 } } } : State).fwEvent c true (imgDigest (s.peat.image c (1 - (s.peat.slot c).active)))))) ∧
  (∀ (s : State) (id : Nat) (q : CapReq) (h : CapHeld) (sf : Surf), s.peat.requests.find? (fun r => r.id == id) = some q → q.held = some h → s.surf h.surf = some sf → s.resultDue (uKey q.region) h.frame = false →
    ((s.peat.staged ++ [s.makeCapture q h sf]).map (fun x => x.bytes.length)).sum ≤ s.peat.stageMib * 2 ^ 20 →
    exec (.captureStaged id) s = .next (s.kept (({ s with peat := { s.peat with requests := s.peat.requests.filter (fun r => r.id != id), staged := s.peat.staged ++ [s.makeCapture q h sf] } } : State).finishWhere
      (fun o => o.op == 0x0C02 && o.wait == .work q.work) (fun _ => Rsp.ok id 0 0)))) ∧
  (∀ (s : State) (id : Nat) (c : Capture), s.peat.staged.find? (fun c => c.req.id == id) = some c → s.pwr.mgmtRestarting = false → s.peat.formatted = true → s.peat.flushing = false → s.partPermits 5 3 true = true →
    (s.peat.stored.map (fun x => x.stored.length)).sum + c.stored.length ≤ s.peat.sizes.getD 5 0 * 2 ^ 20 →
    exec (.captureStored id) s = .next (s.kept (({ s with peat := { s.peat with staged := s.peat.staged.filter (fun x => x.req.id != id), stored := s.peat.stored ++ [c] } } : State).mapCore (fun k => k.event 0xFEA2 0 0 id ((sha384 c.bytes).take 16)))))

/-- PowerFailAndFlashComplete: a power failure stops admission and begins the flush of what is not durable; the flush's end makes it durable and, with the supply back, resumes admission, or, without it, leaves the device held with its domains off and no slice; used areas move into the partition and are cleared. A block that fails to program or to read is retired onto a spare; patrol reads are counted and move a block above 48 corrections; a block read too often is moved; wear levelling moves the least-erased block's data. -/
def Obligations.PowerFailAndFlashComplete : Prop :=
  (∀ s : State, s.peat.flushing = false → s.pwr.shutdown = false →
    exec .powerFail s = .next (s.kept { s with pwr := { s.pwr with admitStopped := true }, peat := { s.peat with flushing := true, failTime := s.core.now }, core := { s.core with jrn := { s.core.jrn with buffer := s.core.jrn.flushing ++ s.core.jrn.buffer, flushing := [] } } })) ∧
  (∀ (s : State) (failed : List Nat), s.peat.flushing = true →
    ∃ t, exec (.powerFailFlushDone true failed) s = .next t ∧ t.peat.flushing = false ∧ t.peat.failSaved = recordsIn s.core.jrn.buffer ∧ t.pwr.admitStopped = false ∧ ∀ i ∈ s.core.jrn.buffer, i.jseq ≤ t.core.jrn.durable) ∧
  (∀ (s : State) (failed : List Nat), s.peat.flushing = true → ∃ t, exec (.powerFailFlushDone false failed) s = .next t ∧ t.peat.flushing = false ∧ t.pwr.held = true ∧ t.pwr.dom = [] ∧ t.core.slices = [] ∧ t.core.owed = [] ∧ t.core.ready = false) ∧
  (∀ s : State, s.pwr.mgmtRestarting = false → s.peat.flushing = false → s.core.jrn.st ≠ .recovering →
    ∃ t, exec .reserveClear s = .next t ∧ t.peat.reserve = [] ∧ t.core.jrn.reserves = [true, true] ∧ t.core.jrn.part = mergeItems s.core.jrn.part (restoreItems s.core.jrn.part (Tbl.vals s.peat.reserve).flatten)) ∧
  (∀ (s : State) (b sp : Nat), (s.nblock b).bad = false → (s.nblock sp).bad = false → b ≠ sp → exec (.nandProgramFail b sp) s = .next (s.kept (s.retire b sp)) ∧
    ∀ records, ∃ t, exec (.nandReadUncorrectable b sp records) s = .next t ∧ t.peat.uncorr = satInc s.peat.uncorr ∧ (t.nblock b).bad = true ∧ ∀ r : JRec, JItem.record r ∈ t.core.jrn.part ↔ (JItem.record r ∈ s.core.jrn.part ∧ r.jseq ∉ records)) ∧
  (∀ (s : State) (b n target : Nat), s.nandFree = true → (s.nblock b).bad = false → (s.nblock target).bad = false → b ≠ target → n ≤ 48 →
    exec (.nandPatrol b n target) s = .next (s.kept (s.putBlock b { s.nblock b with reads := (s.nblock b).reads + 1 }))) ∧
  (∀ (s : State) (b n target : Nat), s.nandFree = true → (s.nblock b).bad = false → (s.nblock target).bad = false → b ≠ target → 48 < n →
    exec (.nandPatrol b n target) s = .next (s.kept ((s.putBlock b { s.nblock b with reads := (s.nblock b).reads + 1 }).moveBlock b target))) ∧
  (∀ (s : State) (b target : Nat), s.nandFree = true → (s.nblock b).bad = false → (s.nblock target).bad = false → b ≠ target → s.peat.disturbLimit ≤ (s.nblock b).reads → exec (.nandDisturbMove b target) s = .next (s.kept (s.moveBlock b target))) ∧
  (∀ (s : State) (part a b : Nat), s.nandFree = true → (s.nblock a).bad = false → (s.nblock b).bad = false → a ≠ b → (s.nblock a).part = some part → ((s.nblock b).part = none ∨ (s.nblock b).part = some part) → (s.nblock a).erases < (s.nblock b).erases →
    (s.nblock a).erases + 500 < s.mostErased part → exec (.nandWearLevel part a b) s = .next (s.kept (s.moveBlock a b))) ∧
  (∀ (s : State) (a b : Nat), (∀ n, (s.nblock a).part = some n → s.partPermits n 7 false = true ∧ s.partPermits n 7 true = true) → a ≠ b →
    ((s.moveBlock a b).nblock b).part = (s.nblock a).part ∧ ((s.moveBlock a b).nblock a).part = none ∧ ((s.moveBlock a b).nblock a).erases = (s.nblock a).erases + 1 ∧ ((s.moveBlock a b).nblock a).reads = 0)

/-- RhizomeComplete: WALL_SET names the deputy, or chooses the lowest serial number among the others; RHZ_PORT_SET enables a port, and clearing ENABLE on a port that is up is a link fault; WALL_STATUS answers. A link that goes down loses its lanes and, in a wall, is marked broken; one that comes up runs at the highest version both ends support, and without a common version stays down. A bad flit starts a replay and is counted; a good one in sequence is taken, or passed on at the other port; one out of sequence waits for the replay. The master's beacon goes out on both ports. -/
def Obligations.RhizomeComplete : Prop :=
  cmdWallSet.Serves .wallSet (fun z _ _ => z.rhz.role ≠ 4)
    (fun _ p z =>
      let deputy := if bitOf (pkW p 0) 4 then autoDeputy z.rhz.serials [z.rhz.masterPos] else pkF p 0 3 0
      ({ z with rhz := { z.rhz with auto := bitOf (pkW p 0) 4, deputyWord := pkF p 0 3 0, deputyPos := deputy, role := roleOf z.rhz.members z.core.pos z.rhz.masterPos deputy } }, Rsp.plain .served)) ∧
  cmdRhzPortSet.Serves .rhzPortSet (fun _ _ p => bitOf (pkW p 0) 0 = true)
    (fun _ p z => ({ z with rhz := { z.rhz with ports := Tbl.put z.rhz.ports (uIdx (pkUnit p)) { z.rport (uIdx (pkUnit p)) with enable := true } } }, Rsp.plain .served)) ∧
  cmdRhzPortSet.Serves .rhzPortSet (fun z _ p => bitOf (pkW p 0) 0 = false ∧ (z.rport (uIdx (pkUnit p))).up = false)
    (fun _ p z => ({ z with rhz := { z.rhz with ports := Tbl.put z.rhz.ports (uIdx (pkUnit p)) { z.rport (uIdx (pkUnit p)) with enable := false } } }, Rsp.plain .served)) ∧
  cmdRhzPortSet.Serves .rhzPortSet (fun z _ p => bitOf (pkW p 0) 0 = false ∧ (z.rport (uIdx (pkUnit p))).up = true)
    (fun _ p z => ((z.linkFault (uIdx (pkUnit p))).putRport (uIdx (pkUnit p)) { (z.linkFault (uIdx (pkUnit p))).rport (uIdx (pkUnit p)) with enable := false }, Rsp.plain .served)) ∧
  cmdWallStatus.Answers .wallStatus (fun _ _ _ => True) (fun _ _ z => (z, Rsp.ok z.rhzStatus (bitsNum ((List.range 16).map (fun k => z.core.reachable.contains k))) z.rhz.changes)) ∧
  (∀ (s : State) (n : Nat), n < 2 → (s.rport n).up = true →
    ∃ t : State, exec (.rhzLinkDown n) s = .next t ∧ t.rport n = { s.rport n with up := false, lanes := 0, dir := { freshDir with replay := (s.rport n).dir.replay }, fails := 0 } ∧ (s.core.inWall = true → t.rhz.broken.contains (linkOf s.rhz.members s.core.pos n) = true) ∧ t.mem = s.mem) ∧
  (∀ (s : State) (n neighbour lo hi : Nat), n < 2 → (s.rport n).up = false → (s.rport n).enable = true → s.isActive (portUnit n) = true → max 0x10 lo ≤ min 0x11 hi →
    ∃ t : State, exec (.rhzLinkUp n neighbour lo hi) s = .next t ∧ (t.rport n).up = true ∧ (t.rport n).lanes = 15 ∧ (t.rport n).neighbour = neighbour % 16 ∧ (t.rport n).major = min 0x11 hi / 16 ∧ (t.rport n).minor = min 0x11 hi % 16 ∧ (t.rport n).dir.replay = (s.rport n).dir.replay) ∧
  (∀ (s : State) (n neighbour lo hi : Nat), min 0x11 hi < max 0x10 lo → exec (.rhzLinkUp n neighbour lo hi) s = .next (s.kept s)) ∧
  (∀ (s : State) (n : Nat) (flit : List Byte) (msg : RhzMsg), n < 2 → (s.rport n).up = true → rhzOk flit = false → (s.rport n).dir.dropping = false →
    ∃ t : State, exec (.rhzFlitReceive n flit msg) s = .next t ∧ t.rport n = { s.rport n with fails := 0, dir := { (s.rport n).dir with dropping := true } } ∧ t.rhz.crcErr = Tbl.inc s.rhz.crcErr n) ∧
  (∀ (s : State) (n : Nat) (flit : List Byte) (msg : RhzMsg), n < 2 → (s.rport n).up = true → rhzOk flit = true → fld (rhzHeader flit) 29 28 < 2 → fld (rhzHeader flit) 27 16 ≠ (s.rport n).dir.expect →
    exec (.rhzFlitReceive n flit msg) s = .next (s.kept (s.putRport n { s.rport n with dir := { (s.rport n).dir with dropping := true } }))) ∧
  (∀ (s : State) (n : Nat) (flit : List Byte) (inst slice : Nat) (p : Packet), n < 2 → (s.rport n).up = true → rhzOk flit = true → fld (rhzHeader flit) 29 28 = 1 → fld (rhzHeader flit) 27 16 = (s.rport n).dir.expect → fld (rhzHeader flit) 15 12 = s.core.pos →
    ∃ t : State, exec (.rhzFlitReceive n flit (.command inst slice p)) s = .next t ∧ t.core.fwdIn = s.core.fwdIn ++ [({ secure := false, inst := inst, slice := slice, remote := some (fld (rhzHeader flit) 11 8) }, p)] ∧
      (t.rport n).dir.expect = ((s.rport n).dir.expect + 1) % 4096 ∧ (t.rport n).fails = 0 ∧ t.rhz.passed = s.rhz.passed) ∧
  (∀ (s : State) (n : Nat) (flit : List Byte) (msg : RhzMsg), n < 2 → (s.rport n).up = true → rhzOk flit = true → fld (rhzHeader flit) 29 28 = 1 → fld (rhzHeader flit) 27 16 = (s.rport n).dir.expect → fld (rhzHeader flit) 15 12 ≠ s.core.pos → msgToAll msg = false →
    ∃ t : State, exec (.rhzFlitReceive n flit msg) s = .next t ∧ t.rhz.passed = s.rhz.passed ++ [(1 - n, flit)] ∧ (t.rport n).dir.expect = ((s.rport n).dir.expect + 1) % 4096 ∧ t.core = s.core) ∧
  (∀ s : State, s.core.inWall = true → s.core.wallMaster = true → (∀ n, n < 2 → (s.rport n).up = true) →
    ∃ t : State, exec .masterBeacon s = .next t ∧ ∀ n, n < 2 → (t.rport n).dir.sendSeq = ((s.rport n).dir.sendSeq + 1) % 4096 ∧
      (t.rport n).dir.replay = ((s.rport n).dir.replay ++ [rhzFlit 0 1 (s.rport n).dir.sendSeq 0 s.core.pos (s.core.freeBytes 56)]).drop ((s.rport n).dir.replay.length + 1 - 2048))

/-- WallComplete: WALL_FORM numbers the ring down from its master: the master has the lowest serial number among the devices whose strap is high, or among all where none is; position 0 is the master's. MASTER_LOST makes the deputy master after 1 ms without a beacon. A timing message sets a member's offset and LOCKED within 20 ns a hop; after 10 ms of holdover outputs on device time hold over. A remote tag's update reaches its mirror, or waits for its frame; a shared frame's landing is recorded and releases what waited. -/
def Obligations.WallComplete : Prop :=
  (∀ (s : State) (devices : List (Nat × Bool)) (self version : Nat), s.rhz.role = 4 → devices.length ≤ 16 → self < devices.length → (devices.map Prod.fst)[self]? = some s.fix.serial →
    ∃ t : State, exec (.wallForm devices self version) s = .next t ∧ t.rhz.members = devices.length ∧ t.rhz.masterPos = 0 ∧ t.core.pos = (self + devices.length - masterOf devices) % devices.length ∧ (t.core.wallMaster = true ↔ self = masterOf devices) ∧
      t.core.reachable = List.range devices.length ∧ t.rhz.ver = version ∧ t.rhz.broken = [] ∧ t.rhz.role ≠ 4) ∧
  (∀ devices : List (Nat × Bool), devices ≠ [] → ∃ sn strap, devices[masterOf devices]? = some (sn, strap) ∧ (devices.any Prod.snd = true → strap = true) ∧ ∀ e ∈ devices, (e.2 = true ∨ strap = false) → sn ≤ e.1) ∧
  (∀ s : State, s.core.inWall = true → s.core.wallMaster = false → s.rhz.lastBeacon + 10 ^ 6 ≤ s.core.now →
    ∃ t : State, exec .masterLost s = .next t ∧ t.rhz.masterPos = s.rhz.deputyPos ∧ t.core.wallMaster = decide (s.core.pos = s.rhz.deputyPos) ∧ t.core.reachable = s.core.reachable.filter (· != s.rhz.masterPos) ∧ t.rhz.changes = s.rhz.changes + 1 ∧
      t.core.fwdReplies = s.core.fwdReplies.filter (fun e => e.1 != s.rhz.masterPos) ∧ t.rhz.holdAt = s.core.now) ∧
  (∀ (s : State) (n : Nat) (offset : Int), n < 2 → s.core.inWall = true → s.core.wallMaster = false → (s.rport n).up = true →
    ∃ t : State, exec (.rhzTimingMessage n offset) s = .next t ∧ t.ing.ptp.offset = offset ∧ t.ing.ptp.lastSync = s.core.now ∧
      t.rhz.time = (if offset.natAbs ≤ 20 * max 1 (pathTo s.rhz.members s.core.pos s.rhz.masterPos s.rhz.broken).length then 2 else 1)) ∧
  (∀ (s : State) (o : Nat) (x : Outp), s.rhz.time = 3 → s.rhz.holdAt + 10 ^ 7 ≤ s.core.now → s.frd.outs = [(o, x)] → x.source = 1 → (x.lock = 1 ∨ x.lock = 2) →
    ∃ t : State, exec .rhzTimeHoldover s = .next t ∧ ∃ y, t.out o = some y ∧ y.lock = 3 ∧ y.rateMean = x.pixelHz ∧ y.mode = x.mode ∧ y.link = x.link) ∧
  (∀ (s : State) (tag : BitVec 32) (last maxAge st stamp : Nat), uPos tag.toNat ≠ s.core.pos →
    exec (.remoteTagUpdate tag last maxAge st 0 stamp) s = .next (s.kept (s.updTag (s.tagKey tag.toNat) (fun t => if t.remote then { t with last := last % 2 ^ 48, maxAge := maxAge, st := tagStOf st } else t)))) ∧
  (∀ (s : State) (tag recv : BitVec 32) (last maxAge st stamp : Nat), uPos tag.toNat ≠ s.core.pos → recv ≠ 0 → (∀ n, Tbl.find s.rhz.landed recv.toNat = some n → n < stamp) →
    exec (.remoteTagUpdate tag last maxAge st recv stamp) s = .next (s.kept { s with rhz := { s.rhz with tagWait := s.rhz.tagWait ++ [{ tag := tag.toNat, last := last % 2 ^ 48, maxAge := maxAge, st := st, recv := recv.toNat, stamp := stamp }] } })) ∧
  (∀ (s : State) (recv layer : BitVec 32) (inst stamp u : Nat) (rest : List Nat) (planes : List (List Nat)) (sf : Surf), uPos layer.toNat = s.core.pos → s.surf u = some sf → sf.locked = false → sf.owner = inst →
    let s1 := ((List.range (planesOf sf.format).length).foldl (fun t p => t.putRect (uNum u) 18 (some inst) 0 p 0 0 (sf.shape.pw p) (sf.shape.ph p) (fun x y => (planes.getD p []).getD (y * sf.shape.pw p + x) 0)) s).devicePost (subKey layer.toNat) (surfUnit (uNum u)) inst 0 none
    let due (x : TagUpd) : Bool := x.recv == recv.toNat && decide (x.stamp ≤ stamp)
    exec (.sharedFrameLand recv layer inst (u :: rest) stamp planes) s = .next (s.kept ((s1.rhz.tagWait.filter due).foldl State.mirrorTag
      { s1 with rhz := { s1.rhz with landed := Tbl.put s1.rhz.landed recv.toNat stamp, tagWait := s1.rhz.tagWait.filter (fun x => !due x) } })))

/-- CompatibilityPathComplete: COMPAT_MAP enters, changes or removes the entry of an FDX-4410 unit. The commands of a 1.x session act as the commands of Table 2.14 on the FDX-8840 units that the map gives: COMPAT_SURFACE_REGISTER enters the surface it makes under the lowest free FDX-4410 index and answers that ID; COMPAT_SURFACE_FREE, COMPAT_SURFACE_COPY and COMPAT_SURFACE_PALETTE act on the mapped surface; COMPAT_LAYER_COMMIT commits to the mapped layer with the band of the output's entry, or creates one and enters it; COMPAT_LAYER_POST and COMPAT_LAYER_REMOVE act on the mapped layer; COMPAT_OUTPUT_STATUS answers for the mapped output. In matched mode COMPAT_AUD_SOURCE_OPEN and COMPAT_AUD_SOURCE_CLOSE open and close the mapped port, and COMPAT_AUD_SINK_GAIN sets GAIN and RAMP_MS and keeps the sink's other words; while MODE is 0 their check answers REFUSED_SHARE with code 0x72. COMPAT_JOURNAL_TAIL answers the tail of the own instance; COMPAT_JOURNAL_SYNC is served once its record is durable. -/
def Obligations.CompatibilityPathComplete : Prop :=
  (
  cmdCompatMap.Serves .compatMap (fun _ _ _ => True)
    (fun _ p z => ({ z with core := { z.core with compat :=
      (if pkF p 0 63 32 = 0 then Tbl.del z.core.compat (pkF p 0 31 0) else Tbl.put z.core.compat (pkF p 0 31 0) { unit := uKey (pkF p 0 63 32), bandB := bitOf (pkW p 1) 0, made := false }) } }, Rsp.plain .served)) ∧
  cmdCompatSurfaceRegister.Serves .compatSurfaceRegister
    (fun z _ p => bitOf (pkW p 0) 19 = false ∧ (∃ i, z.core.free44 65536 0 = some i) ∧ ∃ a n, z.srf.firstFit (pkF p 0 5 0) (pkF p 0 18 18) (regShape p).units = some a ∧ Tbl.lowestFree z.srf.surfs (2 ^ 20) 0 = some n)
    (fun _ p z =>
      let a := (z.srf.firstFit (pkF p 0 5 0) (pkF p 0 18 18) (regShape p).units).getD 0
      let n := (Tbl.lowestFree z.srf.surfs (2 ^ 20) 0).getD 0
      let id := u44 3 ((z.core.free44 65536 0).getD 0) 0
      let sh := regShape p
      let sf : Surf := { owner := pkF p 0 5 0, format := sh.format, width := sh.width, height := sh.height, layout := sh.layout, stride := sh.stride, home := pkF p 0 18 18, first := a, size := sh.units, mirror := none, mirrorStale := false, homeStale := false, palette := [], grants := [], refs := [], releasing := false }
      let z1 : State := { z with srf := { z.srf with surfs := Tbl.put z.srf.surfs n sf } }
      let z2 := if bitOf (pkW p 0) 20 then z1.clearSurf n else z1
      (z2.mapCore (fun c => { c with compat := Tbl.put c.compat id { unit := uKey (z.core.here (surfUnit n)), bandB := false, made := true } }), Rsp.ok id (pkF p 0 18 18 * 2 ^ 19 + a) sh.units)) ∧
  cmdCompatSurfaceFree.Serves .compatSurfaceFree
    (fun z _ p => ∃ q, unit44 z p = some q ∧ (∃ sf, Tbl.find z.srf.surfs (uNum (pkUnit q)) = some sf ∧ sf.locked = false) ∧ z.srf.copies.any (fun c => c.surf == uNum (pkUnit q)) = false)
    (fun _ p z => (z.dropSurf (uNum (pkUnit ((unit44 z p).getD p))), Rsp.ok 0 0x200 0)) ∧
  cmdCompatSurfaceCopy.Starts .compatSurfaceCopy (fun z _ p => ∃ q, unitWord44 z p = some q ∧ ∃ sf b, z.target q = some sf ∧ z.readBase sf = some b)
    (fun w p z =>
      let q := (unitWord44 z p).getD p
      let r := rectOf (pkW q 3)
      let c : CopyRun := { work := z.core.nextWork, who := w, surf := uNum (pkUnit q), plane := pkF q 0 33 32, toSurface := !bitOf (pkW q 0) 40, iova := pkW q 1, stride := pkF q 2 31 0, x := r.1, y := r.2.1, w := r.2.2.1, h := r.2.2.2 }
      ({ z with core := { z.core with nextWork := z.core.nextWork + 1 }, srf := { z.srf with copies := z.srf.copies ++ [c] } }, .work z.core.nextWork)) ∧
  cmdCompatSurfacePalette.Serves .compatSurfacePalette (fun z w p => ∃ q, unit44 z p = some q ∧ ∃ bs, (z.hostRead w (pkW q 0) 1024).2 = .ok bs)
    (fun w p z =>
      let q := (unit44 z p).getD p
      let r := z.hostRead w (pkW q 0) 1024
      (r.1.updSurf (uNum (pkUnit q)) (fun x => { x with palette := match r.2 with | .ok bs => elemsOf 4 256 bs | .error _ => [] }), Rsp.plain .served)) ∧
  cmdCompatLayerCommit.Starts .compatLayerCommit (fun z _ p => ∃ q k, commit44 z p = some q ∧ pkSlot q = some k ∧ (uCls (pkDesc q).source = 0x11 → z.lockFull (uNum (pkDesc q).source) = false))
    (fun w p z =>
      let q := (commit44 z p).getD p
      let r := z.commit w (uIdx (pkUnit q)) ((pkSlot q).getD 0) ((z.layer (pkUnit q)).elim w.inst Layer.owner) false (pkDesc q)
      (r.1, .work r.2)) ∧
  cmdCompatLayerCommit.Starts .compatLayerCommit
    (fun z _ p => ∃ q k, commit44 z p = some q ∧ uCls (pkUnit q) = 0x20 ∧ z.pickSlot (uIdx (pkUnit q)) (pkDesc q).scalable = some k ∧ (uCls (pkDesc q).source = 0x11 → z.lockFull (uNum (pkDesc q).source) = false))
    (fun w p z =>
      let q := (commit44 z p).getD p
      let k := (z.pickSlot (uIdx (pkUnit q)) (pkDesc q).scalable).getD 0
      let r := z.commit w (uIdx (pkUnit q)) k ((z.layer (pkUnit q)).elim w.inst Layer.owner) true (pkDesc q)
      ({ r.1 with core := { r.1.core with compat := Tbl.put r.1.core.compat (pkUnit p) { unit := layerUnit (uIdx (pkUnit q)) k, bandB := false, made := true } } }, .work r.2)) ∧
  (∀ (z : State) (p : Packet) (e : CompatEntry), pkQuery p = false → pkF p 0 31 0 = 0 → pkUnit p = u44 2 0 0 → Tbl.find z.core.compat (u44 1 0 0) = some e → ∀ l, Tbl.find z.core.compat (pkUnit p) = some l →
    commit44 z p = some (withWord (withUnit p (z.core.here l.unit)) 0 (setFld (setFld (pkW p 0) 31 0 0) 41 40 (if e.bandB then 1 else 2)))) ∧
  cmdCompatLayerPost.Starts .compatLayerPost (fun z _ p => ∃ q, unitWord44 z p = some q ∧ (∃ l, z.layer (pkUnit q) = some l ∧ l.removing = none ∧ l.posts.length < 4) ∧ z.lockFull (uNum (pkW q 0)) = false)
    (fun w p z =>
      let q := (unitWord44 z p).getD p
      let n := z.core.nextWork
      let z1 := (z.mapCore (fun k => { k with nextWork := k.nextWork + 1 })).takeRef (uNum (pkW q 0)) false (.layer (subKey (pkUnit q) / 256) (subKey (pkUnit q) % 256) n)
      (z1.updLayer (subKey (pkUnit q)) (fun l => { l with posts := l.posts ++ [{ surf := pkW q 0, work := n, ref := n, ready := 0, inst := w.inst, slice := w.slice, recv := none }] }), .work n)) ∧
  cmdCompatLayerRemove.Starts .compatLayerRemove (fun z _ p => ∃ q, unit44 z p = some q ∧ ∃ l, z.layer (pkUnit q) = some l ∧ l.removing = none)
    (fun _ p z =>
      let q := (unit44 z p).getD p
      (((z.mapCore (fun k => { k with nextWork := k.nextWork + 1 })).updLayer (subKey (pkUnit q)) (fun l => { l with removing := some (z.core.nextWork, false) })).abortPosts (subKey (pkUnit q)), .work z.core.nextWork)) ∧
  cmdCompatOutputStatus.Answers .compatOutputStatus (fun z _ p => (unit44 z p).isSome = true) (fun _ p z => (z, outStatus z (pkOut ((unit44 z p).getD p))))) ∧
  (
  cmdCompatAudSourceOpen.Serves .compatAudSourceOpen (fun z _ p => (unit44 z p).isSome = true)
    (fun w p z =>
      let q := (unit44 z p).getD p
      ({ z with aud := { z.aud with srcs := Tbl.put z.aud.srcs (uIdx (pkUnit q)) (ASrc.fresh w.inst w.slice (pkW p 0) (pkW p 1) (pkW p 2)) } }, Rsp.plain .served)) ∧
  cmdCompatAudSourceClose.Serves .compatAudSourceClose (fun z _ p => (unit44 z p).isSome = true)
    (fun _ p z =>
      let q := (unit44 z p).getD p
      (({ z with aud := { z.aud with srcs := Tbl.upd z.aud.srcs (uIdx (pkUnit q)) (fun x => { x with st := 0 }) } } : State).mapCore (fun c => c.bump (uid 0x70 (uIdx (pkUnit q)) 0)), Rsp.plain .served)) ∧
  cmdCompatAudSinkGain.Starts .compatAudSinkGain (fun z _ p => pkQuery p = false ∧ ∃ q, gain44 z p = some q)
    (fun w p z =>
      let q := (gain44 z p).getD p
      (((z.mapCore (fun k => { k with nextWork := k.nextWork + 1 })).replaceSet (z.asink (uIdx (pkUnit q))).next).updSink (uIdx (pkUnit q))
        (fun x => { x with next := some { words := (List.range (pkN q)).map (pkW q), work := z.core.nextWork, key := sliceKey w.inst w.slice, due := !bitOf (pkW q 0) 9 } }), .work z.core.nextWork)) ∧
  (∀ (s : State) (c : Cmd) (w : Who) (p : Packet), c = cmdCompatAudSourceOpen ∨ c = cmdCompatAudSourceClose ∨ c = cmdCompatAudSinkGain → s.aud.mode = 0 → c.check s w p = some (Rsp.code .refusedShare 0x72)) ∧
  cmdCompatJournalTail.Answers .compatJournalTail (fun _ _ p => pkUnit p = 0)
    (fun w p z =>
      let es := (Tbl.keep z.core.slices (fun k _ => bitOf (pkW p 0) 8 || k / 256 == pkF p 0 5 0)).map (fun e => tailEntry z.core e.1 e.2)
      z.answer w (pkW p 1) (es.take (min es.length (pkW p 2 / 32))).flatten (Rsp.ok (min es.length (pkW p 2 / 32)) es.length 0)) ∧
  cmdCompatJournalSync.Serves .compatJournalSync (fun _ _ p => pkUnit p = 0) (fun _ _ z => (z, Rsp.plain .served)) ∧
  (∀ p, cmdCompatJournalSync.syncs p = true))

/-- CommandsThatStoreNothing: whatever port a packet command comes from and whichever check it fails, the named commands of the session, the journal, tags, touch, haptics and sound, and the status queries, leave the memory groups, the surfaces and their references, mappings and pools as they are. -/
def Obligations.CommandsThatStoreNothing : Prop :=
  ∀ port : Port, ∀ c ∈ ([.nop port, .negotiate port, .journalTail port, .journalSync port, .journalExportBegin port, .journalExportRead port, .journalExportAck port, .journalStatus port, .admissionStatus port, .groupCreate port, .tagCreate port, .tagSet port, .tagGroupSet port, .ledgerStatus port, .sigExpect port, .sigStatus port, .streamDeclare port, .streamStatus port, .ptpSet port, .touchRegionSet port, .touchHandover port, .touchSubscribe port, .touchRebase port, .touchStatus port, .hapChannelSet port, .hapEffectSet port, .hapPlay port, .hapStop port, .hapTouchBind port, .hapScan port, .hapClear port, .hapStatus port, .audModeSet port, .audSourceOpen port, .audSourceClose port, .audBusSet port, .audSinkSet port, .audApply port, .audTdmSet port, .audAssign port, .audHeadsetSet port, .audStatus port, .measureRead port, .secStatus port, .debugStatus port, .peatStatus port, .peatCaptureRead port, .peatRetainSet port, .peatDumpRead port, .peatLogRead port, .wallSet port, .wallStatus port, .pwrStatus port, .pwrSensorRead port, .chkStatus port, .rasterStatus port, .outputStatus port, .patrolStatus port] : List Instr), ∀ s t : State, exec c s = .next t → t.mem = s.mem ∧ t.srf = s.srf

/-- NegotiatedVersionIsTheHighestShared: of the versions 1.0 to 1.3 and 2.0 the device chooses the highest within the software's range. A NEGOTIATE whose range holds none, and that passes every earlier check, is rejected with REJECTED_VERSION; its slice keeps its version, and its state but where its completion ring cannot be written and it halts, so one without a session stays without. -/
def Obligations.NegotiatedVersionIsTheHighestShared : Prop :=
  (∀ lo hi v : Nat, chooseVersion lo hi = some v ↔ (v ∈ [0x10, 0x11, 0x12, 0x13, 0x20] ∧ lo ≤ v ∧ v ≤ hi ∧ ∀ u ∈ [0x10, 0x11, 0x12, 0x13, 0x20], lo ≤ u → u ≤ hi → u ≤ v)) ∧
  (∀ lo hi : Nat, chooseVersion lo hi = none ↔ ∀ u ∈ [0x10, 0x11, 0x12, 0x13, 0x20], ¬ (lo ≤ u ∧ u ≤ hi)) ∧
  (∀ (s : State) (port : Port) (t : State) (w : Who) (p : Packet), cmdNegotiate.taken s port = some (t, w, p) → cmdNegotiate.step7 t w p = true → atSliceOrDevice t w p = true → t.wallAllows w false = true → t.core.jrn.st ≠ .full →
    chooseVersion (pkF p 0 7 0) (pkF p 0 15 8) = none →
    exec (.negotiate port) s = .next (s.closed port (cmdNegotiate.turnAway t w p (Rsp.plain .rejectedVersion) true))) ∧
  (∀ (t : State) (w : Who) (p : Packet) (sl : Slice), t.core.slice w.inst w.slice = some sl →
    ∃ u, (cmdNegotiate.turnAway t w p (Rsp.plain .rejectedVersion) true).core.slice w.inst w.slice = some u ∧ u.ver = sl.ver ∧ (u.st = sl.st ∨ u.st = .halted))

/-- InterleaveIsOneToOne: with a grain of 2^g bytes an offset maps to the channel in its bits g+2 to g, and to the address within the channel made of its bits 34 to g+3 and g-1 to 0; two offsets never share both. A write of MEMx_CFG.GRAIN outside 8 to 16 never sets it. -/
def Obligations.InterleaveIsOneToOne : Prop :=
  (∀ g off : Nat, 8 ≤ g → g ≤ 16 → off < 2 ^ 35 → chanOf g off = fld off (g + 2) g ∧ chanAddr g off = fld off 34 (g + 3) * 2 ^ g + fld off (g - 1) 0) ∧
  (∀ g x y : Nat, 8 ≤ g → g ≤ 16 → x < 2 ^ 35 → y < 2 ^ 35 → chanOf g x = chanOf g y → chanAddr g x = chanAddr g y → x = y) ∧
  (∀ (s : State) (req : Requester) (g grain : Nat) (t : State), (grain < 8 ∨ 16 < grain) → exec (.memCfgGrainWrite req g grain) s = .next t → ∀ h, (t.group h).grain = (s.group h).grain) ∧
  (∀ (s : State) (g grain : Nat), g < 2 → 8 ≤ grain → grain ≤ 16 → (s.group g).lock = false → (s.group g).st = .training → ∃ t, exec (.memCfgGrainWrite .dispatch g grain) s = .next t ∧ (t.group g).grain = grain)

/-- LayersComposeInKeyOrder: the layers of a scene are blended from the bottom up in ascending order of band rank (0 for D to 3 for A), then Z, then slot; those of band A come after all others, over the composition of the rest. No field but BAND decides between layers of two bands. -/
def Obligations.LayersComposeInKeyOrder : Prop :=
  (∀ (sc : Scene) (bandA : Bool), (sc.stack bandA).Pairwise (fun a b => a.desc.key a.slot ≤ b.desc.key b.slot) ∧ (sc.stack bandA).Perm (sc.layers.filter (fun l => (l.desc.band == 0) == bandA))) ∧
  (∀ (a b : Desc) (i j : Nat), i < 16 → j < 16 →
    (b.band < a.band → a.key i < b.key j) ∧ (a.band = b.band → a.z < b.z → a.key i < b.key j) ∧ (a.band = b.band → a.z = b.z → i < j → a.key i < b.key j) ∧ (a.band = b.band → a.z = b.z → i = j → a.key i = b.key j)) ∧
  (∀ (s : State) (sc : Scene) (x y : Nat), sc.safetySurf = none → s.composeAt sc x y = (sc.stack true).foldl (s.blendLayer x y) ((sc.stack false).foldl (s.blendLayer x y) (bgPx sc.bg)))

/-- DeviceTimeStepsOnlyAtTheFirstLock: a PTP message, or a timing message of the wall, moves device time in two ways only. It steps to the master's time at the first lock after a cold reset, where the ledger holds no tag and no output is genlocked to device time, and forward. Or it slews, by at most 100 ppm of the time since the last sync, with SLEWING set, where the offset is above 1 us. It never moves it backwards. No other command but a power-on reset moves it (OnlyTimeMessagesMoveDeviceTime). A cold reset forgets the first lock. -/
def Obligations.DeviceTimeStepsOnlyAtTheFirstLock : Prop :=
  (∀ (s : State) (i d : Nat) (a : Bool) (off : Int) (m : Nat) (t : State), exec (.ptpMessage i d a off m) s = .next t →
    s.core.now ≤ t.core.now ∧
    (t.core.now = s.core.now ∨
      (t.core.now = m ∧ s.ing.ptp.everLocked = false ∧ t.ing.ptp.everLocked = true ∧ s.led.tags = [] ∧ ∀ e ∈ s.frd.outs, fld (e.2.genlock.getD 0 0) 1 0 ≠ 1) ∨
      (1000 < Machine.dist s.core.now m ∧ t.ing.ptp.slewing = true ∧ t.core.now ≤ s.core.now + (s.core.now - s.ing.ptp.lastSync) / 10000))) ∧
  (∀ (s : State) (i : Nat) (off : Int) (m : Nat), bitOf s.ing.ptp.ports i = true → (Tbl.find s.ing.ports i).elim false EthPort.link = true → s.ing.ptp.st = 2 → s.ing.ptp.goodSyncs = 16 → s.ing.ptp.everLocked = true → -100 ≤ off → off ≤ 100 →
    1000 < Machine.dist s.core.now m → ∃ t, exec (.ptpMessage i s.ing.ptp.domain false off m) s = .next t ∧ t.ing.ptp.slewing = true) ∧
  (∀ (s : State) (n : Nat) (off : Int) (t : State), exec (.rhzTimingMessage n off) s = .next t →
    s.core.now ≤ t.core.now ∧
    (t.core.now = s.core.now ∨
      (t.core.now = ((s.core.now : Int) - off).toNat ∧ s.ing.ptp.everLocked = false ∧ t.ing.ptp.everLocked = true ∧ s.led.tags = [] ∧ ∀ e ∈ s.frd.outs, fld (e.2.genlock.getD 0 0) 1 0 ≠ 1) ∨
      (1000 < Machine.dist s.core.now ((s.core.now : Int) - off).toNat ∧ t.ing.ptp.slewing = true ∧ t.core.now ≤ s.core.now + (s.core.now - s.ing.ptp.lastSync) / 10000))) ∧
  (∀ s : State, ∃ t, exec .coldReset s = .next t ∧ t.ing.ptp.everLocked = false)

/-- SecureCommandsWaitOutASecRestart: while the SEC restarts, each secure command that passes its checks is journaled as DELAYED_SECURE_RESTART, has a first completion with it, and waits for the SEC. The sequencer goes on: a signed region's result leaves the same ledger whether or not the SEC restarts. -/
def Obligations.SecureCommandsWaitOutASecRestart : Prop :=
  (∀ e ∈ ([(cmdSigExpect, Instr.sigExpect), (cmdSigRegionSet, .sigRegionSet), (cmdSigRegionRemove, .sigRegionRemove), (cmdSigClear, .sigClear), (cmdPeatActivate, .peatActivate), (cmdSecSessionOpen, .secSessionOpen), (cmdSecSessionClose, .secSessionClose),
      (cmdApprovedSet, .approvedSet), (cmdRegulatedSet, .regulatedSet), (cmdKeyLoad, .keyLoad), (cmdLeaseSet, .leaseSet), (cmdTamperSet, .tamperSet), (cmdTamperClear, .tamperClear)] : List (Cmd × (Port → Instr))),
    ∀ (s : State) (port : Port) (t : State) (w : Who) (p : Packet), e.1.ready s port = some (t, w, p) → e.1.asks p = false → t.sec.run = .restarting →
      exec (e.2 port) s = .next (s.closed port (e.1.putOff t w p (Rsp.plain .delayedSecureRestart) false (fun z => (z, .secRestart))))) ∧
  (∀ (s : State) (u : Nat) (t : State), exec (.sigResult u) s = .next t → ∃ t', exec (.sigResult u) { s with sec := { s.sec with run := .restarting } } = .next t' ∧ t'.led = t.led)
end

