-- ==== Sys2Proof/Laws/State.lean ====
section
/-! SUPPORT. One lemma per field for each update that every command makes: a change of the core, what a command ends in, a packet's journaling and waiting. -/

namespace Sys2Proof.Machine

/-! ## A change of the core -/

@[simp] theorem State.mapCore_core (s : State) (f : Core → Core) : (s.mapCore f).core = f s.core := rfl
@[simp] theorem State.mapCore_fix (s : State) (f : Core → Core) : (s.mapCore f).fix = s.fix := rfl
@[simp] theorem State.mapCore_lnk (s : State) (f : Core → Core) : (s.mapCore f).lnk = s.lnk := rfl
@[simp] theorem State.mapCore_sec (s : State) (f : Core → Core) : (s.mapCore f).sec = s.sec := rfl
@[simp] theorem State.mapCore_pwr (s : State) (f : Core → Core) : (s.mapCore f).pwr = s.pwr := rfl
@[simp] theorem State.mapCore_mem (s : State) (f : Core → Core) : (s.mapCore f).mem = s.mem := rfl
@[simp] theorem State.mapCore_srf (s : State) (f : Core → Core) : (s.mapCore f).srf = s.srf := rfl
@[simp] theorem State.mapCore_frd (s : State) (f : Core → Core) : (s.mapCore f).frd = s.frd := rfl
@[simp] theorem State.mapCore_led (s : State) (f : Core → Core) : (s.mapCore f).led = s.led := rfl
@[simp] theorem State.mapCore_chk (s : State) (f : Core → Core) : (s.mapCore f).chk = s.chk := rfl
@[simp] theorem State.mapCore_ras (s : State) (f : Core → Core) : (s.mapCore f).ras = s.ras := rfl
@[simp] theorem State.mapCore_ing (s : State) (f : Core → Core) : (s.mapCore f).ing = s.ing := rfl
@[simp] theorem State.mapCore_rhz (s : State) (f : Core → Core) : (s.mapCore f).rhz = s.rhz := rfl
@[simp] theorem State.mapCore_tch (s : State) (f : Core → Core) : (s.mapCore f).tch = s.tch := rfl
@[simp] theorem State.mapCore_hap (s : State) (f : Core → Core) : (s.mapCore f).hap = s.hap := rfl
@[simp] theorem State.mapCore_aud (s : State) (f : Core → Core) : (s.mapCore f).aud = s.aud := rfl
@[simp] theorem State.mapCore_peat (s : State) (f : Core → Core) : (s.mapCore f).peat = s.peat := rfl
@[simp] theorem State.mapCore_reg (s : State) (f : Core → Core) : (s.mapCore f).reg = s.reg := rfl
@[simp] theorem State.mapCore_pending (s : State) (f : Core → Core) : (s.mapCore f).pending = s.pending := rfl

@[simp] theorem State.mapCore_mapCore (s : State) (f g : Core → Core) : (s.mapCore f).mapCore g = s.mapCore (fun c => g (f c)) := rfl

/-! ## A command that waits -/

@[simp] theorem State.owe_fix (s : State) (w : Who) (p : Packet) (op : Nat) (wt : Wait) (st dl : Bool) (j : Nat) (g : Option Nat) : (s.owe w p op wt st dl j g).fix = s.fix := rfl
@[simp] theorem State.owe_lnk (s : State) (w : Who) (p : Packet) (op : Nat) (wt : Wait) (st dl : Bool) (j : Nat) (g : Option Nat) : (s.owe w p op wt st dl j g).lnk = s.lnk := rfl
@[simp] theorem State.owe_sec (s : State) (w : Who) (p : Packet) (op : Nat) (wt : Wait) (st dl : Bool) (j : Nat) (g : Option Nat) : (s.owe w p op wt st dl j g).sec = s.sec := rfl
@[simp] theorem State.owe_pwr (s : State) (w : Who) (p : Packet) (op : Nat) (wt : Wait) (st dl : Bool) (j : Nat) (g : Option Nat) : (s.owe w p op wt st dl j g).pwr = s.pwr := rfl
@[simp] theorem State.owe_mem (s : State) (w : Who) (p : Packet) (op : Nat) (wt : Wait) (st dl : Bool) (j : Nat) (g : Option Nat) : (s.owe w p op wt st dl j g).mem = s.mem := rfl
@[simp] theorem State.owe_srf (s : State) (w : Who) (p : Packet) (op : Nat) (wt : Wait) (st dl : Bool) (j : Nat) (g : Option Nat) : (s.owe w p op wt st dl j g).srf = s.srf := rfl
@[simp] theorem State.owe_frd (s : State) (w : Who) (p : Packet) (op : Nat) (wt : Wait) (st dl : Bool) (j : Nat) (g : Option Nat) : (s.owe w p op wt st dl j g).frd = s.frd := rfl
@[simp] theorem State.owe_led (s : State) (w : Who) (p : Packet) (op : Nat) (wt : Wait) (st dl : Bool) (j : Nat) (g : Option Nat) : (s.owe w p op wt st dl j g).led = s.led := rfl
@[simp] theorem State.owe_chk (s : State) (w : Who) (p : Packet) (op : Nat) (wt : Wait) (st dl : Bool) (j : Nat) (g : Option Nat) : (s.owe w p op wt st dl j g).chk = s.chk := rfl
@[simp] theorem State.owe_ras (s : State) (w : Who) (p : Packet) (op : Nat) (wt : Wait) (st dl : Bool) (j : Nat) (g : Option Nat) : (s.owe w p op wt st dl j g).ras = s.ras := rfl
@[simp] theorem State.owe_ing (s : State) (w : Who) (p : Packet) (op : Nat) (wt : Wait) (st dl : Bool) (j : Nat) (g : Option Nat) : (s.owe w p op wt st dl j g).ing = s.ing := rfl
@[simp] theorem State.owe_rhz (s : State) (w : Who) (p : Packet) (op : Nat) (wt : Wait) (st dl : Bool) (j : Nat) (g : Option Nat) : (s.owe w p op wt st dl j g).rhz = s.rhz := rfl
@[simp] theorem State.owe_tch (s : State) (w : Who) (p : Packet) (op : Nat) (wt : Wait) (st dl : Bool) (j : Nat) (g : Option Nat) : (s.owe w p op wt st dl j g).tch = s.tch := rfl
@[simp] theorem State.owe_hap (s : State) (w : Who) (p : Packet) (op : Nat) (wt : Wait) (st dl : Bool) (j : Nat) (g : Option Nat) : (s.owe w p op wt st dl j g).hap = s.hap := rfl
@[simp] theorem State.owe_aud (s : State) (w : Who) (p : Packet) (op : Nat) (wt : Wait) (st dl : Bool) (j : Nat) (g : Option Nat) : (s.owe w p op wt st dl j g).aud = s.aud := rfl
@[simp] theorem State.owe_peat (s : State) (w : Who) (p : Packet) (op : Nat) (wt : Wait) (st dl : Bool) (j : Nat) (g : Option Nat) : (s.owe w p op wt st dl j g).peat = s.peat := rfl
@[simp] theorem State.owe_reg (s : State) (w : Who) (p : Packet) (op : Nat) (wt : Wait) (st dl : Bool) (j : Nat) (g : Option Nat) : (s.owe w p op wt st dl j g).reg = s.reg := rfl
@[simp] theorem State.owe_pending (s : State) (w : Who) (p : Packet) (op : Nat) (wt : Wait) (st dl : Bool) (j : Nat) (g : Option Nat) : (s.owe w p op wt st dl j g).pending = s.pending := rfl

/-- A packet is journaled or not: only the core changes. -/
theorem State.journalIf_eq (s : State) (yes : Bool) (w : Who) (p : Packet) (op : Nat) (st : Status) : ∃ c, (s.journalIf yes w p op st).1 = { s with core := c } := by
  unfold State.journalIf
  split
  · exact ⟨_, rfl⟩
  · exact ⟨s.core, rfl⟩

@[simp] theorem State.journalIf_fix (s : State) (yes : Bool) (w : Who) (p : Packet) (op : Nat) (st : Status) : (s.journalIf yes w p op st).1.fix = s.fix := by
  unfold State.journalIf; split <;> rfl
@[simp] theorem State.journalIf_lnk (s : State) (yes : Bool) (w : Who) (p : Packet) (op : Nat) (st : Status) : (s.journalIf yes w p op st).1.lnk = s.lnk := by
  unfold State.journalIf; split <;> rfl
@[simp] theorem State.journalIf_sec (s : State) (yes : Bool) (w : Who) (p : Packet) (op : Nat) (st : Status) : (s.journalIf yes w p op st).1.sec = s.sec := by
  unfold State.journalIf; split <;> rfl
@[simp] theorem State.journalIf_pwr (s : State) (yes : Bool) (w : Who) (p : Packet) (op : Nat) (st : Status) : (s.journalIf yes w p op st).1.pwr = s.pwr := by
  unfold State.journalIf; split <;> rfl
@[simp] theorem State.journalIf_mem (s : State) (yes : Bool) (w : Who) (p : Packet) (op : Nat) (st : Status) : (s.journalIf yes w p op st).1.mem = s.mem := by
  unfold State.journalIf; split <;> rfl
@[simp] theorem State.journalIf_srf (s : State) (yes : Bool) (w : Who) (p : Packet) (op : Nat) (st : Status) : (s.journalIf yes w p op st).1.srf = s.srf := by
  unfold State.journalIf; split <;> rfl
@[simp] theorem State.journalIf_frd (s : State) (yes : Bool) (w : Who) (p : Packet) (op : Nat) (st : Status) : (s.journalIf yes w p op st).1.frd = s.frd := by
  unfold State.journalIf; split <;> rfl
@[simp] theorem State.journalIf_led (s : State) (yes : Bool) (w : Who) (p : Packet) (op : Nat) (st : Status) : (s.journalIf yes w p op st).1.led = s.led := by
  unfold State.journalIf; split <;> rfl
@[simp] theorem State.journalIf_chk (s : State) (yes : Bool) (w : Who) (p : Packet) (op : Nat) (st : Status) : (s.journalIf yes w p op st).1.chk = s.chk := by
  unfold State.journalIf; split <;> rfl
@[simp] theorem State.journalIf_ras (s : State) (yes : Bool) (w : Who) (p : Packet) (op : Nat) (st : Status) : (s.journalIf yes w p op st).1.ras = s.ras := by
  unfold State.journalIf; split <;> rfl
@[simp] theorem State.journalIf_ing (s : State) (yes : Bool) (w : Who) (p : Packet) (op : Nat) (st : Status) : (s.journalIf yes w p op st).1.ing = s.ing := by
  unfold State.journalIf; split <;> rfl
@[simp] theorem State.journalIf_rhz (s : State) (yes : Bool) (w : Who) (p : Packet) (op : Nat) (st : Status) : (s.journalIf yes w p op st).1.rhz = s.rhz := by
  unfold State.journalIf; split <;> rfl
@[simp] theorem State.journalIf_tch (s : State) (yes : Bool) (w : Who) (p : Packet) (op : Nat) (st : Status) : (s.journalIf yes w p op st).1.tch = s.tch := by
  unfold State.journalIf; split <;> rfl
@[simp] theorem State.journalIf_hap (s : State) (yes : Bool) (w : Who) (p : Packet) (op : Nat) (st : Status) : (s.journalIf yes w p op st).1.hap = s.hap := by
  unfold State.journalIf; split <;> rfl
@[simp] theorem State.journalIf_aud (s : State) (yes : Bool) (w : Who) (p : Packet) (op : Nat) (st : Status) : (s.journalIf yes w p op st).1.aud = s.aud := by
  unfold State.journalIf; split <;> rfl
@[simp] theorem State.journalIf_peat (s : State) (yes : Bool) (w : Who) (p : Packet) (op : Nat) (st : Status) : (s.journalIf yes w p op st).1.peat = s.peat := by
  unfold State.journalIf; split <;> rfl
@[simp] theorem State.journalIf_reg (s : State) (yes : Bool) (w : Who) (p : Packet) (op : Nat) (st : Status) : (s.journalIf yes w p op st).1.reg = s.reg := by
  unfold State.journalIf; split <;> rfl
@[simp] theorem State.journalIf_pending (s : State) (yes : Bool) (w : Who) (p : Packet) (op : Nat) (st : Status) : (s.journalIf yes w p op st).1.pending = s.pending := by
  unfold State.journalIf; split <;> rfl

/-! ## What a command ends in -/

/-- Every command ends in the state its effect leaves, but for what none changes. -/
theorem State.ends_eq (s t : State) : s.ends t = .next (s.kept t) := rfl


@[simp] theorem State.closed_fix (s : State) (port : Port) (t : State) : (s.closed port t).fix = s.fix := rfl
@[simp] theorem State.closed_pending (s : State) (port : Port) (t : State) : (s.closed port t).pending = s.pending := rfl
@[simp] theorem State.closed_dt (s : State) (port : Port) (t : State) : (s.closed port t).core.dt = s.core.dt := rfl
@[simp] theorem State.closed_lnk (s : State) (port : Port) (t : State) : (s.closed port t).lnk = t.lnk := by cases port <;> rfl
@[simp] theorem State.closed_sec (s : State) (port : Port) (t : State) : (s.closed port t).sec = t.sec := by cases port <;> rfl
@[simp] theorem State.closed_pwr (s : State) (port : Port) (t : State) : (s.closed port t).pwr = t.pwr := by cases port <;> rfl
@[simp] theorem State.closed_mem (s : State) (port : Port) (t : State) : (s.closed port t).mem = t.mem := by cases port <;> rfl
@[simp] theorem State.closed_srf (s : State) (port : Port) (t : State) : (s.closed port t).srf = t.srf := by cases port <;> rfl
@[simp] theorem State.closed_frd (s : State) (port : Port) (t : State) : (s.closed port t).frd = t.frd := by cases port <;> rfl
@[simp] theorem State.closed_led (s : State) (port : Port) (t : State) : (s.closed port t).led = t.led := by cases port <;> rfl
@[simp] theorem State.closed_chk (s : State) (port : Port) (t : State) : (s.closed port t).chk = t.chk := by cases port <;> rfl
@[simp] theorem State.closed_ras (s : State) (port : Port) (t : State) : (s.closed port t).ras = t.ras := by cases port <;> rfl
@[simp] theorem State.closed_ing (s : State) (port : Port) (t : State) : (s.closed port t).ing = t.ing := by cases port <;> rfl
@[simp] theorem State.closed_rhz (s : State) (port : Port) (t : State) : (s.closed port t).rhz = t.rhz := by cases port <;> rfl
@[simp] theorem State.closed_tch (s : State) (port : Port) (t : State) : (s.closed port t).tch = t.tch := by cases port <;> rfl
@[simp] theorem State.closed_hap (s : State) (port : Port) (t : State) : (s.closed port t).hap = t.hap := by cases port <;> rfl
@[simp] theorem State.closed_aud (s : State) (port : Port) (t : State) : (s.closed port t).aud = t.aud := by cases port <;> rfl
@[simp] theorem State.closed_peat (s : State) (port : Port) (t : State) : (s.closed port t).peat = t.peat := by cases port <;> rfl
@[simp] theorem State.closed_reg (s : State) (port : Port) (t : State) : (s.closed port t).reg = t.reg := by cases port <;> rfl

/-- Whatever a command does, it ends in a next state that keeps what manufacture fixed, the queue and device time. -/
theorem State.ends_keeps (s t : State) : ∃ u, s.ends t = .next u ∧ u.fix = s.fix ∧ u.pending = s.pending ∧ u.core.dt = s.core.dt := ⟨_, rfl, rfl, rfl, rfl⟩

/-- The commands that move device time keep what manufacture fixed and the queue. -/
theorem State.endsTime_keeps (s t : State) : ∃ u, s.endsTime t = .next u ∧ u.fix = s.fix ∧ u.pending = s.pending ∧ u.core.dt = t.core.dt := ⟨_, rfl, rfl, rfl, rfl⟩

end Sys2Proof.Machine
end

