-- ==== Sys2Proof/Laws/Frame.lean ====
section
/-! SUPPORT. What a packet command leaves alone, said once: a part of the state that its own effect and the core leave alone is left alone by everything around it. -/

namespace Sys2Proof.Machine

/-- The state a verdict carries. -/
def Verdict.state : Verdict → State
  | .done s _ => s
  | .delayed s _ _ _ => s
  | .silent s _ => s

section
variable {α : Type} (g : State → α) (hg : ∀ s f, g (State.mapCore s f) = g s)
include hg

theorem State.journalIf_part (s : State) (yes : Bool) (w : Who) (p : Packet) (op : Nat) (st : Status) : g (s.journalIf yes w p op st).1 = g s := by
  unfold State.journalIf
  split
  · exact hg s (fun _ => _)
  · rfl

theorem State.owe_part (s : State) (w : Who) (p : Packet) (op : Nat) (wt : Wait) (st dl : Bool) (j : Nat) (gr : Option Nat) : g (s.owe w p op wt st dl j gr) = g s := hg s _

theorem State.forward_part (s : State) (w : Who) (p : Packet) (gr : Option Nat) : g (s.forward w p gr) = g s := by
  unfold State.forward; rw [State.owe_part g hg, hg]

theorem Cmd.turnAway_part (c : Cmd) (s : State) (w : Who) (p : Packet) (r : Rsp) (b : Bool) : g (c.turnAway s w p r b) = g s := by
  unfold Cmd.turnAway
  simp only [hg]
  split
  · rw [hg, State.journalIf_part g hg]
  · rw [State.journalIf_part g hg]

theorem Cmd.fan_part (c : Cmd) (hr : ∀ s w p, g (c.run s w p).state = g s) (w : Who) (p : Packet) (gid j : Nat) (us : List Nat) (s : State) (a : FanAcc) : g (c.fan w p gid j us s a).1 = g s := by
  induction us generalizing s a with
  | nil => rfl
  | cons u us ih =>
    unfold Cmd.fan
    have h := hr s w (withUnit p u)
    split
    · rw [ih, State.forward_part g hg]
    · simp only
      split
      all_goals (rename_i e; rw [e] at h; rw [ih]; first | exact h | rw [State.owe_part g hg]; exact h)

theorem Cmd.execute_part (c : Cmd) (hr : ∀ s w p, g (c.run s w p).state = g s) (ha : ∀ s w p, g (c.ask s w p).1 = g s) (s : State) (w : Who) (p : Packet) : g (c.execute s w p) = g s := by
  unfold Cmd.execute
  split
  · simp only [hg, ha, State.journalIf_part g hg]
  · split
    · simp only [State.owe_part g hg, hg, State.journalIf_part g hg]
    · simp only
      generalize c.run s w p = v
      have h := hr (s.journalIf (c.journals p) w p c.opcode v.status).1 w p
      rw [State.journalIf_part g hg] at h
      split <;> (rename_i e; rw [e] at h; simp only [State.owe_part g hg, hg]; exact h)

theorem Cmd.executeFan_part (c : Cmd) (hr : ∀ s w p, g (c.run s w p).state = g s) (s : State) (w : Who) (p : Packet) (us : List Nat) : g (c.executeFan s w p us) = g s := by
  unfold Cmd.executeFan
  simp only
  split
  · rw [hg, Cmd.fan_part g hg c hr, State.journalIf_part g hg, hg]
  · split <;> simp only [hg, Cmd.fan_part g hg c hr, State.journalIf_part g hg]

theorem Cmd.accept_part (c : Cmd) (hr : ∀ s w p, g (c.run s w p).state = g s) (ha : ∀ s w p, g (c.ask s w p).1 = g s) (s : State) (w : Who) (p : Packet) : g (c.accept s w p) = g s := by
  unfold Cmd.accept
  split
  · exact Cmd.turnAway_part g hg c s w p _ _
  · split
    · split
      · exact State.forward_part g hg s w p none
      · simp only [hg, State.journalIf_part g hg]
        split <;> simp only [hg]
    · split
      · split
        · exact Cmd.turnAway_part g hg c s w p _ _
        · split
          · unfold Cmd.executeFanQuery; simp only [hg, State.journalIf_part g hg]
          · exact Cmd.executeFan_part g hg c hr s w p _
      · split
        · exact Cmd.turnAway_part g hg c s w p _ _
        · exact Cmd.execute_part g hg c hr ha s w p

/-- A part of the state that the core, the command's effect and its query leave alone stays as it was, whatever the port and whichever check fails. -/
theorem Cmd.exec_part (c : Cmd) (hr : ∀ s w p, g (c.run s w p).state = g s) (ha : ∀ s w p, g (c.ask s w p).1 = g s) (port : Port) (s : State) : g (c.exec port s) = g s := by
  cases port with
  | slice inst idx =>
    simp only [Cmd.exec, Cmd.fromSlice]
    split
    · exact hg s _
    · split
      · rfl
      · split
        · rfl
        · split
          · simp only [hg]
          · split
            · simp only [hg]
            · rw [Cmd.accept_part g hg c hr ha, hg, hg]
    · rfl
  | sec p =>
    simp only [Cmd.exec, Cmd.fromSec]
    split
    · rfl
    · split
      · simp only [hg, Cmd.turnAway_part g hg]
      · split
        · simp only [hg, Cmd.turnAway_part g hg]
        · split
          · simp only [hg, State.owe_part g hg]
          · simp only [hg, Cmd.accept_part g hg c hr ha]
  | forwarded =>
    simp only [Cmd.exec, Cmd.fromWall]
    split
    · rfl
    · split
      · rfl
      · split
        · rfl
        · rw [Cmd.accept_part g hg c hr ha, hg]

end

end Sys2Proof.Machine
end

