-- ==== Sys2Proof/Laws/Packet.lean ====
section
/-! SUPPORT. What a packet command does, said once: where its checks pass it runs; how it ends follows from the verdict of its meaning. -/

namespace Sys2Proof.Machine

/-- What the arm of a packet command answers once its port's part is known. -/
theorem Cmd.ends_exec (c : Cmd) (s : State) (port : Port) (t : State)
    (h : c.exec port s = t.ported port) :
    s.ends (c.exec port s) = .next (s.closed port t) := by
  rw [h]; cases port <;> rfl

/-- A packet that passes steps 7 to 12 is executed. -/
theorem Cmd.accept_passes (c : Cmd) (s : State) (w : Who) (p : Packet) (h : c.passes s w p = true) : c.accept s w p = c.execute s w p := by
  simp only [Cmd.passes, Bool.and_eq_true, Bool.not_eq_true', Option.isNone_iff_eq_none] at h
  obtain ⟨⟨⟨h7, hf⟩, hg⟩, hs⟩ := h
  unfold Cmd.accept
  simp [h7, hf, hg, hs]

/-- A packet that is ready is executed, whatever its port; the secure firmware's sequence moves on. -/
theorem Cmd.exec_of_ready (c : Cmd) (s : State) (port : Port) (t : State) (w : Who) (p : Packet) (h : c.ready s port = some (t, w, p)) :
    c.exec port s = (c.execute t w p).ported port := by
  unfold Cmd.ready at h
  split at h
  case h_2 => cases h
  case h_1 t' w' p' ht =>
    split at h
    case isFalse => cases h
    case isTrue hp =>
      cases h
      rw [← Cmd.accept_passes c t w p hp]
      cases port with
      | slice inst idx =>
        simp only [Cmd.taken] at ht
        split at ht
        case h_2 => cases ht
        case h_1 q op hq =>
          split at ht
          case isTrue => cases ht
          case isFalse hn =>
            simp only [not_or] at hn
            cases ht
            simp only [Cmd.exec, Cmd.fromSlice, hq]
            have hop : op = c.opcode := by simpa using hn.1
            simp only [hop, ne_eq, not_true_eq_false, if_false]
            have hsl : ∃ sl, s.core.slice inst idx = some sl := by
              unfold Core.front at hq
              split at hq
              · cases hq
              · rename_i sl hsl; exact ⟨sl, hsl⟩
            obtain ⟨sl, hsl⟩ := hsl
            simp only [hsl]
            have h2 := hn.2
            simp only [Bool.and_eq_true, Bool.or_eq_true, Bool.not_eq_true', not_and, not_or] at h2
            by_cases hj : c.willJournal (s.mapCore fun k => k.refill inst) (sliceWho inst idx) p = true
            · obtain ⟨ha, hb⟩ := h2 hj
              rw [Bool.not_eq_false] at ha
              rw [Bool.not_eq_true] at hb
              simp only [State.ported, hj, ha, hb, Bool.not_true, Bool.and_false, Bool.false_eq_true, if_false, if_true]
            · simp [State.ported, hj]
      | sec q =>
        simp only [Cmd.taken] at ht
        split at ht
        case isTrue => cases ht
        case isFalse hn =>
          simp only [not_or] at hn
          cases ht
          obtain ⟨h1, h2, h3, h4, h5⟩ := hn
          simp only [Cmd.exec, Cmd.fromSec]
          simp only [Bool.not_eq_true] at h2 h5
          simp only [State.ported, h1, h2, h3, h4, h5, or_self, if_false, Bool.false_eq_true]
      | forwarded =>
        simp only [Cmd.taken] at ht
        split at ht
        case h_1 => cases ht
        case h_2 w1 p1 rest hf =>
          split at ht
          case isTrue => cases ht
          case isFalse hn =>
            simp only [not_or] at hn
            cases ht
            simp only [Cmd.exec, Cmd.fromWall, hf]
            simp only [Bool.not_eq_true] at hn
            simp [State.ported, hn.1, hn.2]

/-- A packet command that is ready answers the state its execution leaves. -/
theorem Cmd.exec_ready (c : Cmd) (s : State) (port : Port) (t : State) (w : Who) (p : Packet) (h : c.ready s port = some (t, w, p)) :
    s.ends (c.exec port s) = .next (s.closed port (c.execute t w p)) := c.ends_exec s port _ (c.exec_of_ready s port t w p h)

/-- A packet that asks: journaled if it must be, answered, completed. -/
theorem Cmd.execute_ask (c : Cmd) (s : State) (w : Who) (p : Packet) (h : c.asks p = true) : c.execute s w p = c.answered s w p .served (fun z => c.ask z w p) := by
  unfold Cmd.execute Cmd.answered
  simp only [h, if_true, Cmd.journaled, Cmd.jseqOf]

/-- A packet whose meaning is done at once as SERVED. -/
theorem Cmd.execute_done (c : Cmd) (s : State) (w : Who) (p : Packet) (f : State → State × Rsp) (ha : c.acts s p = true)
    (h0 : c.run s w p = .done (f s).1 (f s).2) (hs : (f s).2.st = .served)
    (h : c.run (c.journaled s w p .served) w p = .done (f (c.journaled s w p .served)).1 (f (c.journaled s w p .served)).2) :
    c.execute s w p = c.answered s w p .served f := by
  simp only [Cmd.acts, Bool.and_eq_true, Bool.not_eq_true'] at ha
  simp only [Cmd.journaled] at h
  unfold Cmd.execute Cmd.answered
  simp only [ha.1, ha.2, Bool.false_eq_true, if_false, h0, Verdict.status, hs, h, Cmd.journaled, Cmd.jseqOf]

/-- A packet whose meaning waits without a first completion. -/
theorem Cmd.execute_silent (c : Cmd) (s : State) (w : Who) (p : Packet) (f : State → State × Wait) (ha : c.acts s p = true)
    (h0 : c.run s w p = .silent (f s).1 (f s).2) (h : c.run (c.journaled s w p .served) w p = .silent (f (c.journaled s w p .served)).1 (f (c.journaled s w p .served)).2) :
    c.execute s w p = c.waits s w p f := by
  simp only [Cmd.acts, Bool.and_eq_true, Bool.not_eq_true'] at ha
  simp only [Cmd.journaled] at h
  unfold Cmd.execute Cmd.waits
  simp only [ha.1, ha.2, Bool.false_eq_true, if_false, h0, Verdict.status, h, Cmd.journaled, Cmd.jseqOf]

/-- A packet whose meaning is delayed. -/
theorem Cmd.execute_delayed (c : Cmd) (s : State) (w : Who) (p : Packet) (f : State → State × Wait) (r : Rsp) (st : Bool) (ha : c.acts s p = true)
    (h0 : c.run s w p = .delayed (f s).1 r (f s).2 st) (h : c.run (c.journaled s w p r.st) w p = .delayed (f (c.journaled s w p r.st)).1 r (f (c.journaled s w p r.st)).2 st) :
    c.execute s w p = c.putOff s w p r st f := by
  simp only [Cmd.acts, Bool.and_eq_true, Bool.not_eq_true'] at ha
  simp only [Cmd.journaled] at h
  unfold Cmd.execute Cmd.putOff
  simp only [ha.1, ha.2, Bool.false_eq_true, if_false, h0, Verdict.status, h, Cmd.journaled, Cmd.jseqOf]

/-- A command serves where its meaning is done under the guard. -/
theorem Cmd.serves_of (c : Cmd) (i : Port → Instr) (g : State → Who → Packet → Prop) (f : Who → Packet → State → State × Rsp)
    (hx : ∀ port s, Machine.exec (i port) s = s.ends (c.exec port s))
    (hr : ∀ z w p, g z w p → c.asks p = false → c.run z w p = .done (f w p z).1 (f w p z).2 ∧ (f w p z).2.st = .served) : c.Serves i g f := by
  intro s port t w p h ha hg hg'
  have hq : c.asks p = false := by
    simp only [Cmd.acts, Bool.and_eq_true, Bool.not_eq_true'] at ha; exact ha.1
  rw [hx, c.exec_ready s port t w p h, c.execute_done t w p (f w p) ha (hr t w p hg hq).1 (hr t w p hg hq).2 (hr _ w p hg' hq).1]

/-- A query answers as its meaning does. -/
theorem Cmd.answers_of (c : Cmd) (i : Port → Instr) (g : State → Who → Packet → Prop) (f : Who → Packet → State → State × Rsp)
    (hx : ∀ port s, Machine.exec (i port) s = s.ends (c.exec port s)) (hr : ∀ z w p, g z w p → c.asks p = true → c.ask z w p = f w p z) : c.Answers i g f := by
  intro s port t w p h ha hg
  rw [hx, c.exec_ready s port t w p h, c.execute_ask t w p ha]
  unfold Cmd.answered
  simp only [hr _ w p hg ha]

/-- A command starts where its meaning waits under the guard. -/
theorem Cmd.starts_of (c : Cmd) (i : Port → Instr) (g : State → Who → Packet → Prop) (f : Who → Packet → State → State × Wait)
    (hx : ∀ port s, Machine.exec (i port) s = s.ends (c.exec port s)) (hr : ∀ z w p, g z w p → c.asks p = false → c.run z w p = .silent (f w p z).1 (f w p z).2) : c.Starts i g f := by
  intro s port t w p h ha hg hg'
  have hq : c.asks p = false := by
    simp only [Cmd.acts, Bool.and_eq_true, Bool.not_eq_true'] at ha; exact ha.1
  rw [hx, c.exec_ready s port t w p h, c.execute_silent t w p (f w p) ha (hr t w p hg hq) (hr _ w p hg' hq)]

/-- A command is delayed where its meaning is under the guard. -/
theorem Cmd.delays_of (c : Cmd) (i : Port → Instr) (g : State → Who → Packet → Prop) (r : Rsp) (st : Bool) (f : Who → Packet → State → State × Wait)
    (hx : ∀ port s, Machine.exec (i port) s = s.ends (c.exec port s)) (hr : ∀ z w p, g z w p → c.asks p = false → c.run z w p = .delayed (f w p z).1 r (f w p z).2 st) : c.Delays i g r st f := by
  intro s port t w p h ha hg hg'
  have hq : c.asks p = false := by
    simp only [Cmd.acts, Bool.and_eq_true, Bool.not_eq_true'] at ha; exact ha.1
  rw [hx, c.exec_ready s port t w p h, c.execute_delayed t w p (f w p) r st ha (hr t w p hg hq) (hr _ w p hg' hq)]

end Sys2Proof.Machine
end

