-- ==== Sys2Proof/Laws/Tbl.lean ====
section
/-! SUPPORT. Tables and byte memories: what a read answers after a write, and that every operation keeps the canonical form. -/

namespace Sys2Proof.Machine

/-- A written entry reads back. -/
@[simp] theorem Tbl.find_put_same {α : Type} (t : Tbl α) (n : Nat) (v : α) : Tbl.find (Tbl.put t n v) n = some v := by
  induction t with
  | nil => simp [Tbl.put, Tbl.find]
  | cons e t ih =>
    obtain ⟨k, w⟩ := e
    simp only [Tbl.put]
    split
    · simp [Tbl.find]
    · split
      · simp [Tbl.find]
      · rename_i h1 h2
        simp [Tbl.find, Ne.symm h2, ih]

/-- A write leaves every other entry alone. -/
theorem Tbl.find_put_ne {α : Type} (t : Tbl α) {n m : Nat} (v : α) (h : m ≠ n) : Tbl.find (Tbl.put t n v) m = Tbl.find t m := by
  induction t with
  | nil => simp [Tbl.put, Tbl.find, Ne.symm h]
  | cons e t ih =>
    obtain ⟨k, w⟩ := e
    simp only [Tbl.put]
    split
    · simp [Tbl.find, Ne.symm h]
    · split
      · rename_i h1 h2
        subst h2
        simp [Tbl.find, Ne.symm h]
      · simp only [Tbl.find, ih]

/-- A removal leaves every other entry alone. -/
theorem Tbl.find_del_ne {α : Type} (t : Tbl α) {n m : Nat} (h : m ≠ n) : Tbl.find (Tbl.del t n) m = Tbl.find t m := by
  induction t with
  | nil => rfl
  | cons e t ih =>
    obtain ⟨k, w⟩ := e
    simp only [Tbl.del]
    split
    · rename_i h1
      subst h1
      simp [Tbl.find, Ne.symm h]
    · simp only [Tbl.find, ih]

/-- Nothing below its bound is listed. -/
theorem Tbl.find_below {α : Type} (t : Tbl α) {b n : Nat} (h : Tbl.risingFrom b t = true) (hn : n < b) : Tbl.find t n = none := by
  induction t generalizing b with
  | nil => rfl
  | cons e t ih =>
    obtain ⟨k, w⟩ := e
    simp only [Tbl.risingFrom, Bool.and_eq_true, decide_eq_true_eq] at h
    have hk : k ≠ n := by omega
    simp only [Tbl.find, if_neg hk]
    exact ih h.2 (by omega)

/-- A removed entry is gone. -/
theorem Tbl.find_del_same {α : Type} (t : Tbl α) {b n : Nat} (h : Tbl.risingFrom b t = true) : Tbl.find (Tbl.del t n) n = none := by
  induction t generalizing b with
  | nil => rfl
  | cons e t ih =>
    obtain ⟨k, w⟩ := e
    simp only [Tbl.risingFrom, Bool.and_eq_true, decide_eq_true_eq] at h
    simp only [Tbl.del]
    split
    · rename_i hk
      exact Tbl.find_below t h.2 (by omega)
    · rename_i hk
      simp only [Tbl.find, if_neg hk]
      exact ih h.2

/-- A lower bound of the keys may be lowered. -/
theorem Tbl.risingFrom_mono {α : Type} (t : Tbl α) {a b : Nat} (h : Tbl.risingFrom b t = true) (hab : a ≤ b) : Tbl.risingFrom a t = true := by
  cases t with
  | nil => rfl
  | cons e t =>
    obtain ⟨k, w⟩ := e
    simp only [Tbl.risingFrom, Bool.and_eq_true, decide_eq_true_eq] at h ⊢
    exact ⟨by omega, h.2⟩

/-- A write keeps the order. -/
theorem Tbl.risingFrom_put {α : Type} (t : Tbl α) {b n : Nat} (v : α) (h : Tbl.risingFrom b t = true) (hn : b ≤ n) : Tbl.risingFrom b (Tbl.put t n v) = true := by
  induction t generalizing b with
  | nil => simp [Tbl.put, Tbl.risingFrom, hn]
  | cons e t ih =>
    obtain ⟨k, w⟩ := e
    simp only [Tbl.risingFrom, Bool.and_eq_true, decide_eq_true_eq] at h
    simp only [Tbl.put]
    split
    · rename_i h1
      simp only [Tbl.risingFrom, Bool.and_eq_true, decide_eq_true_eq]
      exact ⟨hn, by omega, h.2⟩
    · split
      · rename_i h1 h2
        subst h2
        simp only [Tbl.risingFrom, Bool.and_eq_true, decide_eq_true_eq]
        exact ⟨hn, h.2⟩
      · rename_i h1 h2
        simp only [Tbl.risingFrom, Bool.and_eq_true, decide_eq_true_eq]
        exact ⟨h.1, ih h.2 (by omega)⟩

/-- A removal keeps the order. -/
theorem Tbl.risingFrom_del {α : Type} (t : Tbl α) {b : Nat} (n : Nat) (h : Tbl.risingFrom b t = true) : Tbl.risingFrom b (Tbl.del t n) = true := by
  induction t generalizing b with
  | nil => rfl
  | cons e t ih =>
    obtain ⟨k, w⟩ := e
    simp only [Tbl.risingFrom, Bool.and_eq_true, decide_eq_true_eq] at h
    simp only [Tbl.del]
    split
    · exact Tbl.risingFrom_mono t h.2 (by omega)
    · simp only [Tbl.risingFrom, Bool.and_eq_true, decide_eq_true_eq]
      exact ⟨h.1, ih h.2⟩

/-- A write of another value than the unlisted one lists nothing superfluous. -/
theorem Memory.lean_put (m : Memory) (a : Nat) (b : Byte) (h : Memory.lean m = true) (hb : b ≠ unlisted) : Memory.lean (Tbl.put m a b) = true := by
  induction m with
  | nil => simp [Tbl.put, Memory.lean, hb]
  | cons e t ih =>
    obtain ⟨k, w⟩ := e
    simp only [Memory.lean, Bool.and_eq_true, bne_iff_ne, ne_eq] at h
    simp only [Tbl.put]
    split
    · simp [Memory.lean, hb, h.1, h.2]
    · split
      · simp [Memory.lean, hb, h.2]
      · simp [Memory.lean, h.1, ih h.2]

/-- A removal lists nothing superfluous. -/
theorem Memory.lean_del (m : Memory) (a : Nat) (h : Memory.lean m = true) : Memory.lean (Tbl.del m a) = true := by
  induction m with
  | nil => rfl
  | cons e t ih =>
    obtain ⟨k, w⟩ := e
    simp only [Memory.lean, Bool.and_eq_true, bne_iff_ne, ne_eq] at h
    simp only [Tbl.del]
    split
    · exact h.2
    · simp [Memory.lean, h.1, ih h.2]

/-- Writing a byte keeps the canonical form. -/
theorem Memory.wf_wr (m : Memory) (a : Nat) (b : Byte) (h : Memory.wf m = true) : Memory.wf (Memory.wr m a b) = true := by
  simp only [Memory.wf, Tbl.sorted, Bool.and_eq_true] at h ⊢
  unfold Memory.wr
  split
  · exact ⟨Tbl.risingFrom_del m a h.1, Memory.lean_del m a h.2⟩
  · rename_i hb
    exact ⟨Tbl.risingFrom_put m b h.1 (Nat.zero_le a), Memory.lean_put m a b h.2 hb⟩

/-- Writing bytes keeps the canonical form. -/
theorem Memory.wf_wrN (m : Memory) (a : Nat) (bs : List Byte) (h : Memory.wf m = true) : Memory.wf (Memory.wrN m a bs) = true := by
  induction bs generalizing m a with
  | nil => exact h
  | cons b bs ih => exact ih _ _ (Memory.wf_wr m a b h)

/-- A written byte reads back. -/
theorem Memory.rd_wr_same (m : Memory) (a : Nat) (b : Byte) (h : Memory.wf m = true) : Memory.rd (Memory.wr m a b) a = b := by
  simp only [Memory.wf, Tbl.sorted, Bool.and_eq_true] at h
  unfold Memory.rd Memory.wr Tbl.at
  split
  · rename_i hb
    subst hb
    rw [Tbl.find_del_same m h.1]
    rfl
  · simp

/-- A write leaves every other byte alone. -/
theorem Memory.rd_wr_ne (m : Memory) {a x : Nat} (b : Byte) (h : x ≠ a) : Memory.rd (Memory.wr m a b) x = Memory.rd m x := by
  unfold Memory.rd Memory.wr Tbl.at
  split
  · rw [Tbl.find_del_ne m h]
  · rw [Tbl.find_put_ne m b h]

/-- Bytes written at an address leave every byte outside them alone. -/
theorem Memory.rd_wrN_outside (m : Memory) (a x : Nat) (bs : List Byte) (h : x < a ∨ a + bs.length ≤ x) : Memory.rd (Memory.wrN m a bs) x = Memory.rd m x := by
  induction bs generalizing m a with
  | nil => rfl
  | cons b bs ih =>
    simp only [List.length_cons] at h
    rw [Memory.wrN, ih _ _ (by omega), Memory.rd_wr_ne m b (by omega)]

/-- Written bytes read back. -/
theorem Memory.rdN_wrN (m : Memory) (a : Nat) (bs : List Byte) (h : Memory.wf m = true) : Memory.rdN (Memory.wrN m a bs) a bs.length = bs := by
  induction bs generalizing m a with
  | nil => rfl
  | cons b bs ih =>
    rw [Memory.wrN, List.length_cons, Memory.rdN, ih _ _ (Memory.wf_wr m a b h), Memory.rd_wrN_outside _ _ _ _ (by omega), Memory.rd_wr_same m a b h]

end Sys2Proof.Machine
end

