-- ==== Sys2Proof/Tests/Slice0.lean ====
section
/-! SUPPORT. Tests: ill-formed operands that WellFormed refuses, worked examples of the spec, and for every clause of every obligation a state and operands that meet its premises. -/

open Sys2Proof Sys2Proof.Machine

namespace Sys2Proof.Tests

set_option Elab.async false

/-- The premises of Cmd.Serves, Cmd.Starts and Cmd.Delays are met. -/
def Meets (c : Cmd) (r : Status) (g : State → Who → Packet → Prop) : Prop :=
  ∃ s port t w p, c.ready s port = some (t, w, p) ∧ c.acts t p = true ∧ g t w p ∧ g (c.journaled t w p r) w p

/-- The premises of Cmd.Answers are met. -/
def MeetsAsk (c : Cmd) (g : State → Who → Packet → Prop) : Prop :=
  ∃ s port t w p, c.ready s port = some (t, w, p) ∧ c.asks p = true ∧ g (c.journaled t w p .served) w p

/-- A state with one packet from the wall in front. -/
def withPacket (s : State) (w : Who) (p : Packet) : State := s.mapCore (fun k => { k with fwdIn := [(w, p)] })

/-- The state once that packet is taken. -/
def bare (s : State) : State := s.mapCore (fun k => { k with fwdIn := [] })

/-- True where a packet passes every check. -/
def fits (c : Cmd) (s : State) (w : Who) (p : Packet) : Bool :=
  decide (p.opcode.toNat = c.opcode) && !(c.willJournal (withPacket s w p) w p && !(withPacket s w p).journalAdmits c.opcode) && c.passes (bare s) w p

theorem ready_of (c : Cmd) (s : State) (w : Who) (p : Packet) (h : fits c s w p = true) : c.ready (withPacket s w p) .forwarded = some (bare s, w, p) := by
  simp only [fits, Bool.and_eq_true, decide_eq_true_eq] at h
  obtain ⟨⟨h1, h2⟩, h3⟩ := h
  rw [Bool.not_eq_true'] at h2
  have h1 : c.taken (withPacket s w p) .forwarded = some (bare s, w, p) := by
    simp only [Cmd.taken]
    rw [show (withPacket s w p).core.fwdIn = [(w, p)] from rfl]
    simp only [h1, h2, ne_eq, not_true_eq_false, Bool.false_eq_true, or_self, if_false]
    rfl
  simp only [Cmd.ready, h1, h3, if_true]

theorem meets (c : Cmd) (r : Status) (g : State → Who → Packet → Prop) (s : State) (w : Who) (p : Packet) (h : (fits c s w p && c.acts (bare s) p) = true) (h1 : g (bare s) w p) (h2 : g (c.journaled (bare s) w p r) w p) : Meets c r g := by
  rw [Bool.and_eq_true] at h
  exact ⟨_, _, _, _, _, ready_of c s w p h.1, h.2, h1, h2⟩

theorem meetsAsk (c : Cmd) (g : State → Who → Packet → Prop) (s : State) (w : Who) (p : Packet) (h : (fits c s w p && c.asks p) = true) (h2 : g (c.journaled (bare s) w p .served) w p) : MeetsAsk c g := by
  rw [Bool.and_eq_true] at h
  exact ⟨_, _, _, _, _, ready_of c s w p h.1, h.2, h2⟩

/-- A packet with UNIT and words. -/
def pk (op unit : Nat) (ws : List Nat) : Packet :=
  { opcode := BitVec.ofNat 16 op, flags := 0, ver := 0x20, length := BitVec.ofNat 16 (ws.length + 2), gen := 1, unit := BitVec.ofNat 32 unit, seq := 7, words := ws.map (fun x => BitVec.ofNat 64 x) }

/-- The same with QUERY. -/
def ask (op unit : Nat) (ws : List Nat) : Packet := { pk op unit ws with flags := 8 }

/-- The PF's slice 0, a VF's slice 0. -/
def pf : Who := sliceWho 0 0
def vf : Who := sliceWho 1 0

/-- A group in service. -/
def okGroup : MemGroup := { MemGroup.cold with st := .active, chTrained := 255 }

/-- A slice with a session at 2.0. -/
def okSlice : Slice := { freshSlice 0 true 0x1000 0 with st := .session, ver := 0x20 }

/-- A device in service: domains ON, groups ACTIVE, the journal ACTIVE, the SEC running, one slice of the PF and one of instance 1, which may use every band. -/
def up : State :=
  { State.reset with
    core := { State.reset.core with ready := true, slices := [(0, okSlice), (256, okSlice)], shares := [(0, Share.pf), (1, { Share.pf with bands := 15, maxSlices := 4, pcmUs := 5000, rasterUs := 5000, streamRx := 8, tagQuota := 100 })], dt := 0x10000000000, jrn := { State.reset.core.jrn with st := .active, reserves := [true, true], capacity := 2 ^ 40 } }
    pwr := { State.reset.pwr with dom := (List.range 12).map (fun d => (d, .on)), pcieUp := true }
    mem := { State.reset.mem with a := okGroup, b := okGroup }
    sec := { State.reset.sec with run := .running }
    lnk := { State.reset.lnk with up := true }
    peat := { State.reset.peat with formatted := true, holdup := 2000 } }

theorem gt {α : Type} {o : Option α} (h : o.isSome = true) : o = some (o.get h) := (Option.some_get h).symm

/-- up with a part of it changed. -/
def upC (f : Core → Core) : State := up.mapCore f
def upJ (f : Jrn → Jrn) : State := upC fun c => { c with jrn := f c.jrn }

/-- A unit ID. -/
def dev : Nat := 0
def jrnU : Nat := uid 0x81 0 0

/-- The public key of private key 1, the base point, and signatures by it with nonce 1: of the acknowledgement, the session response, the approved list and the debug certificate below. -/
def keyW : List Nat := [3964728695713335210, 8407412307936129422, 10996567132245532014, 4047140136230713177, 7793854910544609877, 13189484691651974202, 8010820264128288566, 3016447009408720477, 8940940659999503608, 13887114111498705641, 11349491202437242890, 6849669989555585914]
def bytesOf (ws : List Nat) : List Byte := ws.flatMap (le 8)
def key1 : List Byte := bytesOf keyW
def sigR : List Nat := keyW.take 6
def ackSig : List Nat := sigR ++ [17418159247330476201, 17227258206198523328, 16328529789776709226, 3833327339979912007, 12936033438735091641, 8172060710621947735]
def sessionSig : List Nat := sigR ++ [4575904325826797956, 13553149672163021354, 8018260618565789930, 13160335511606728774, 7817216377950038348, 16190051216846272249]
def listSig : List Nat := sigR ++ [2000451507535165125, 11400430310755245428, 1569093004170740909, 209612318920112807, 500974657218767775, 17768320567607313240]
def certSig : List Nat := sigR ++ [122532441539878325, 8689985676752570474, 11613868770533900938, 14072848142457587270, 6737447107279154954, 12688747089835449874]

/-- A partition that holds one sealed record. -/
def aSeal : Seal := { jseq := 1, dt := 0, h := [], keyId := [], sig := [] }
def aRecord : JRec := { jseq := 1, dt := 0, secure := false, event := true, inst := 0, slice := 0, gen := 0, opcode := 0, status := 0, unit := 0, seqArg := 0, digest := [], chain := [] }
def oneSeal : Jrn → Jrn := fun j => { j with part := [.record aRecord, .seal aSeal], nextJseq := 2, durable := 1, sealed := 1 }
def export1 : State := { (upJ fun j => { oneSeal j with openExport := some { id := 1, first := 1, last := 1 }, exports := 1 }) with fix := { Fixed.device with serial := 5 }, sec := { up.sec with operatorKeys := [(0, key1)] } }

/-- The state an outcome answers. -/
def nextOf : Host.Outcome State Fault Refusal → State
  | .next t => t
  | _ => up

/-- A unit that drains for a reset since time 0, a group, a reset since time 0. -/
def draining : UnitTr := { phase := .draining, kind := .reset, queued := [], discarded := 0, began := 0 }
def aGroup : Group := { owner := 0, members := [] }
def aReset : ResetRun := { start := 0, oldGen := 1, completions := 0, dma := 0, tiles := 0, decodes := 0, layers := 0, surfaces := 0, flr := false, queued := false }

/-- up with its link changed. -/
def upL (f : Lnk → Lnk) : State := { up with lnk := f up.lnk }

/-- A data flit of 28 payload bytes with sequence 0. -/
def aFlit : List Byte := let b := List.replicate 30 (0 : Byte); b ++ le 2 (crc16 b)

/-- A device with serial 5 whose debug key is key1. -/
def fix5 : Fixed := { Fixed.device with serial := 5, debugDigest := bytesOf [16970325845796036001, 8710337599831560832, 682200548537182868, 18073674245824407888, 13188229488303272011, 7299069591662168298] }

/-- up with its security changed, on that device. -/
def upS (f : Sec → Sec) : State := { up with fix := fix5, sec := f up.sec }

/-- A session challenge of the PF's slice 0 and its response. -/
def aChallenge : Challenge := { value := [], issued := 0x10000000000, gen := 1 }
def session : State :=
  { (upC fun c => { c with slices := [(0, { okSlice with challenge := some aChallenge }), (256, okSlice)] }) with fix := fix5, sec := { up.sec with sessionKeys := [(0, { key := key1, certified := false })] } }

/-- An approved list of one entry with its key slot and signature, at host address 0x1000. -/
def approvedList : List Byte := List.replicate 48 (0 : Byte) ++ [1] ++ List.replicate 15 (0 : Byte)
def approving : State :=
  { (upC fun c => { c with host := Memory.wrN [] 0x1000 (approvedList ++ le 4 0 ++ bytesOf listSig) }) with fix := fix5, sec := { up.sec with operatorKeys := [(0, key1)] } }

/-- A debug certificate that verifies. -/
def aCert : List Byte := le 16 5 ++ [3] ++ List.replicate 15 (0 : Byte) ++ key1 ++ bytesOf certSig

/-- A 16 by 16 ARGB8888 surface of instance 1 at unit 16 of group 0, and up with surfaces. -/
def aSurf : Surf :=
  { owner := 1, format := 1, width := 16, height := 16, layout := 0, stride := 256, home := 0, first := 16, size := 1, mirror := none, mirrorStale := false, homeStale := false, palette := [], grants := [], refs := [], releasing := false }
def upR (f : Srf → Srf) : State := { up with srf := f up.srf }
def surfs (l : List (Nat × Surf)) : State := upR fun r => { r with surfs := l }
def locked : Surf := { aSurf with refs := [{ write := false, holder := .work 9 }] }
def mirrored : Surf := { aSurf with mirror := some 16 }

/-- up with group 0 changed. -/
def upG (f : MemGroup → MemGroup) : State := up.updGroup 0 f
def aReq : MemReq := { port := 8, inst := some 1, slice := 0, band := 1, write := true, addr := 0x100040, data := [1, 2], surface := none }

/-- The unit of surface n. -/
def surfU (n : Nat) : Nat := uidN 0x11 n

/-- 640 by 480 at 25.2 MHz on a frond, 8 bits, four lanes. -/
def modeW (f : Nat) : List Nat := [640 + 480 * 2 ^ 16 + 800 * 2 ^ 32 + 525 * 2 ^ 48, 16 + 96 * 2 ^ 16 + 10 * 2 ^ 32 + 2 * 2 ^ 48, 25200000 + 8 * 2 ^ 40 + f * 2 ^ 48, 525, 4 + 3 * 16]
def anOut : Outp := { Outp.cold 0 with mode := modeW 0, link := 2, rate := 3, lanes := 4, hpd := true, vt := 525 }

/-- A descriptor of surface 3 in band C. -/
def aDesc : Desc := { w0 := surfU 3 + 2 * 2 ^ 40, w1 := 16 * 2 ^ 32 + 16 * 2 ^ 48, w2 := 16 * 2 ^ 32 + 16 * 2 ^ 48, w3 := 0x3FF, w4 := 0 }
def descW : List Nat := [aDesc.w0, aDesc.w1, aDesc.w2, aDesc.w3, aDesc.w4]
def aLayer : Layer := newLayer 1 0 1 aDesc
def aFrond : Frond := { Frond.cold with enable := true, bands := 15 }
def aGlayer : GLayer := { owner := 1, width := 16, height := 16, inter := [surfU 3, surfU 4], members := [], done := 0, doneSize := 0 }

/-- up with two surfaces, output 0 on frond 0, a layer in slot 0, changed. -/
def upF (f : Frd → Frd) : State :=
  { up with srf := { up.srf with surfs := [(3, aSurf), (4, { aSurf with first := 17 })] }
            frd := f { up.frd with fronds := [(0, aFrond), (1, aFrond), (8, aFrond)], outs := [(0, anOut), (1, Outp.cold 1)], layers := [(0, aLayer)] } }
def outX (x : Outp) : State := upF fun r => { r with outs := [(0, x)] }
def patrolX (f : Patrol → Patrol) : State := upF fun r => { r with patrol := f r.patrol }
def aMap : Mapping := { inst := 1, slice := 0, offset := 0, surf := 3, surfOff := 0, len := 65536 }
def aCopy : CopyRun := { work := 9, who := vf, surf := 3, plane := 0, toSurface := true, iova := 0x1000, stride := 64, x := 0, y := 0, w := 4, h := 4 }
def aScene : Scene := { frame := 1, latchDt := 0, layers := [], bg := 0, tone := [], safetySurf := none, drawn := [] }
def aCommit : Commit := { layer := uid 0x21 0 0, desc := aDesc, work := 5, inst := 1, slice := 0, applied := false, creates := false }
def aPass : Pass := { work := 9, gl := uid 0xF2 0 0, inter := surfU 3, who := vf, skipped := 0, nested := [], outer := 0 }
def adaptiveW : List Nat := [640 + 480 * 2 ^ 16 + 800 * 2 ^ 32 + 525 * 2 ^ 48, 16 + 96 * 2 ^ 16 + 10 * 2 ^ 32 + 2 * 2 ^ 48, 25200000 + 8 * 2 ^ 40 + 2 ^ 44, 600, 4 + 3 * 16]
def aModeset : Modeset := { words := modeW 0, work := 9, stage := 2, began := 0 }

/-- True where an answer is data. -/
def isOk {ε α : Type} : Except ε α → Bool
  | .ok _ => true
  | .error _ => false

theorem okOf {ε α : Type} {x : Except ε α} (h : isOk x = true) : ∃ b, x = .ok b := by
  cases x with
  | ok b => exact ⟨b, rfl⟩
  | error _ => cases h

theorem forSome {α : Type} {o : Option α} {P : α → Prop} [DecidablePred P] (h : o.all (fun x => decide (P x)) = true) : ∀ x, o = some x → P x := by
  intro x e
  rw [e] at h
  exact of_decide_eq_true h

/-- A live tag of instance 1 on the host path, the unit of tag n, up with a layer and tags, changed. -/
def aTag : Tag := { last := 5, maxAge := 10, st := .live, path := 0, source := 0, remote := false, notify := false, owner := 1 }
def tagU (n : Nat) : Nat := uidN 0x50 n
def upE (f : Led → Led) : State := { upF id with led := f { up.led with tags := [(0, aTag)] } }
def tagX (t : Tag) : State := upE fun l => { l with tags := [(0, t)] }

/-- A live region on the layer in slot 0, bound to tag 0. -/
def aRegion : LRegion :=
  { place := uid 0x21 0 0, rect := 16 * 2 ^ 32 + 16 * 2 ^ 48, size := 0, tied := false, slots := [tagU 0, 0, 0, 0, 0, 0, 0, 0], inst := 1, slice := 0, secure := false, bandA := false, er := 0, erNow := false, erAt := 0, erFrame := 0, frozenBadge := false,
    safetyAt := none, newPlace := none, removing := false, orphan := false, drawn := none, repeatedPx := 0, veil := noVeil }
def regionX (r : LRegion) : State := upE fun l => { l with regions := [(0, r)] }

/-- Instance 1's slice authenticated, a band A layer in slot 0, a signed region on it. -/
def sigX (r : SRegion) : State :=
  { upF (fun f => { f with layers := [(0, { aLayer with desc := { aDesc with w0 := surfU 3 } })] }) with
    core := { up.core with slices := [(0, okSlice), (256, { okSlice with auth := some { slot := 0, opened := 0 } })] }
    led := { up.led with sregs := [(0, r)] } }
def sregU : Nat := uid 0x52 0 0
def checking : SRegion := { newSreg vf with place := uid 0x21 0 0, st := .checking, crc := 7, crcFrame := 1, drawn := some (0, 0, 8, 8), waiting := true, recs := [{ frame := 1, expected := 7, alive := 0, sticky := false }] }
def noFrond (s : State) : State := { s with frd := { s.frd with fronds := [] } }

/-- A scan of 64 bytes of surface 3, and an engine. -/
def scanP : Packet := pk 0x0810 (uid 0x53 0 0) [0, surfU 3, 64 + 2 ^ 32, 0, 0, 0]
def aScan : Scan := { work := 9, who := vf, pk := scanP }
def engX (g : Engine) : State := { upF id with chk := { engines := [(0, g)] } }
def periodic : Engine := { idleEngine with mode := 2, scan := some aScan }

/-- A raster job on surface 3 with heap 4 and stream 5, and up with jobs. -/
def jobP : Packet := pk 0x0500 (uid 0x30 0 0) [2 ^ 32 + 2 * 16, surfU 3, surfU 4 + surfU 5 * 2 ^ 32, 8 * 2 ^ 32, 16 * 2 ^ 32 + 16 * 2 ^ 48, 0, 0, 0, 0, 0]
def aJob : RJob := { jobOf 9 vf jobP with bound := true, holds := true, admitted := true }
def rasX (f : Ras → Ras) : State :=
  { upF id with srf := { up.srf with surfs := [(3, aSurf), (4, { aSurf with first := 32, size := 16 }), (5, { aSurf with first := 64 })] }, core := { up.core with host := [(0x1000, 1)] }, ras := f up.ras }
def anItem : RItem := { off := 0, state := [], box := (0, 0, 15, 15), kind := .clear 0 0 }

/-- An open receiver of instance 1, a frame in it, up with receivers; a PTP port that is up. -/
def aRecv : Recv := { Recv.closed with owner := some 1, st := 1, words := [2 ^ 48 + 100 * 2 ^ 32, 96 * 256, 0, 0, 16 + 16 * 2 ^ 16, 60 + 2 ^ 32, 0, 0] }
def aFrame : RxFrame := { ts := 0, began := 0, first := some 0, seqs := [0], badSeqs := [], marker := none, spoilt := false, samples := [], pieces := [], target := none, lost := false }
def recvX (r : Recv) : State := { upF id with ing := { up.ing with recvs := [(0, r)], ports := [(0, { w0 := 0, w1 := 0, link := true })] } }
def ptpX (f : Ptp → Ptp) : State := { up with ing := { up.ing with ports := [(0, { w0 := 0, w1 := 0, link := true })], ptp := f { up.ing.ptp with ports := 1 } }, frd := { up.frd with outs := [] } }
def anRtp : RtpPacket := { seq := 0, ts := 0, marker := false, ok := true, field := false, samples := [], bytes := [] }

/-- A touch surface of 4 by 4 nodes at 60 Hz in RUN, up with surface t. -/
def touchW : List Nat := [4 + 4 * 256 + 60 * 2 ^ 20, 2 ^ 48 + 2 ^ 32 + 2 ^ 16 + 2, 0]
def aTouch : TSurf := { TSurf.off with words := touchW, st := 2, base := List.replicate 16 0, regions := [(0, { owner := 1, rect := 0, critical := false })] }
def touchX (t : Nat) (x : TSurf) : State := { up with tch := { up.tch with surfs := [(t, x)] } }
def touchU : Nat := uid 0x60 0 0
def rawBody : List Byte := [0x7E, 0x5A, 0x10, 0, 0, 0, 4, 4] ++ List.replicate 36 0

/-- A haptic channel of instance 1 that is idle, an effect slot, an effect in progress; up with them. -/
def chanW : List Nat := [2 ^ 56 + 4 * 2 ^ 52 + 200 * 2 ^ 40 + 100 * 2 ^ 28 + 2 ^ 16 + 100 * 256, 150 * 2 ^ 52 + 1]
def aChan : HChan := { HChan.off with w0 := chanW.getD 0 0, w1 := chanW.getD 1 0, st := 1 }
def aSlot : HSlot := { owner := 1, w0 := 3 + 2 * 2 ^ 20, w1 := 1 + 256 }
def aTrig : HTrig := { slot := 0, owner := 1, w0 := aSlot.w0, w1 := aSlot.w1, preempt := false, work := 9 }
def hapX (h : HChan) : State := { touchX 0 aTouch with hap := { up.hap with chans := [(0, h)], slots := [(0, aSlot)] } }
def chanU : Nat := uid 0x61 0 0

/-- up with its audio changed; a source of instance 1. -/
def audX (f : Aud → Aud) : State := { up with aud := f up.aud }
def aSource : ASrc := ASrc.fresh 1 0 (2 + 48000 * 2 ^ 16 + 2 * 2 ^ 40 + 12 * 2 ^ 48) 0x1000 0

/-- A first-stage image with an empty body, signed by private key 1; a device whose firmware key is key1, with that image in every partition of the first stage and of the firmware, before its boot. -/
def imgHead : List Byte := ascii "TAOTHIMG" ++ le 2 1 ++ [1] ++ List.replicate 13 (0 : Byte) ++ sha384 [] ++ List.replicate 88 (0 : Byte)
def image : Memory := Memory.wrN [] 0 (imgHead ++ bytesOf (sigR ++ [5530295708839458577, 5013920376793830273, 8500482286862673333, 15633163626425246907, 2807627439162261792, 4250296812369388757]))
def upP (f : Pwr → Pwr) : State := { up with pwr := f up.pwr }
def upQ (f : Peat → Peat) : State := { up with peat := f up.peat }
def fixK : Fixed := { Fixed.device with firmwareKey := key1 }
def images : Tbl Memory := [(imgKey 0 1, image), (imgKey 1 1, image)]
def unbooted : State := { State.reset with fix := fixK, peat := { State.reset.peat with images := images } }
def sensor (r : Nat) : Pwr → Pwr := fun p => { p with sensor := [(0, r)], warned := [0] }
def paced (ps : Nat) : State := { upP (fun p => { p with vset := 700 }) with lnk := { up.lnk with window := List.replicate 100 ps } }

/-- A capture request, a staged capture. -/
def aHeld : CapHeld := { frame := 5, dt := 77, surf := surfU 3, veiled := false, badge := 0, rect := none, flags := 0, alive := 0, crc := 0, expected := 0 }

def aCapReq : CapReq := { id := 3, cause := 1, region := sregU, frond := 0, frame := 5, outcome := 0, jseq := 0, late := false, creator := 1, held := some aHeld, work := 9 }
def aCapture : Capture := { req := aCapReq, dt := 0, veiled := false, badge := 0, flags := 0, alive := 0, rect := 0, blocks := 0, crc := 0, expected := 0, data := [] }
def aBlock : NBlock := { part := some 5, erases := 600, reads := 0, bad := false }
def blocks (l : Tbl NBlock) : State := upQ fun q => { q with blocks := l }

/-- The master of a wall of two, its second member, and changes of them; a rhizome data flit with sequence number 0 from position 1. -/
def aPort : RPort := { freshPort with up := true, lanes := 15, major := 1 }
def aWall : Rhz := { Rhz.cold with members := 2, masterPos := 0, deputyPos := 1, role := 0, serials := [(0, 5), (1, 6)], ports := [(0, aPort), (1, aPort)] }
def wallX (f : Rhz → Rhz) : State := { (upC fun c => { c with inWall := true, wallMaster := true, reachable := [0, 1] }) with rhz := f aWall }
def memberX (f : Rhz → Rhz) : State := { (upC fun c => { c with inWall := true, pos := 1, reachable := [0, 1] }) with rhz := f { aWall with role := 1 } }
def wallU : Nat := uid 0xF0 0 0
def portX (p : RPort) : State := { up with rhz := { up.rhz with ports := [(0, p)] } }
def aFlitTo (seq dst : Nat) : List Byte := rhzFlit 0 1 seq dst 1 []

/-- The compatibility map: output, layer, surface, source and sink 0 of the FDX-4410; up with it. -/
def aMap44 : Tbl CompatEntry :=
  [(u44 1 0 0, { unit := uid 0x22 0 0, bandB := false, made := false }), (u44 2 0 0, { unit := uid 0x21 0 0, bandB := false, made := true }), (u44 3 0 0, { unit := surfU 3, bandB := false, made := true }),
   (u44 4 0 0, { unit := uid 0x70 0 0, bandB := false, made := false }), (u44 5 0 0, { unit := uid 0x71 8 0, bandB := false, made := false })]
def compatX (f : Srf → Srf) : State :=
  { upF id with core := { up.core with compat := aMap44 }, srf := f { up.srf with surfs := [(3, aSurf)] }, aud := { up.aud with mode := 2, srcs := [], sinks := [(8, { ASink.fresh with owner := some 1 })] } }

/-! ## WellFormed refuses -/

/-- WellFormed refuses terms that fail its checks (part 1): ports, requesters, sizes and indexes beyond their range. -/
theorem test_ill_formed_refused_1 : ([.nop (.slice 64 0), .nop (.slice 0 256), .registerWrite (.vf 0) 0 8 0, .registerWrite (.vf 64) 0 8 0, .registerWrite .pf 0 3 0, .registerWrite .pf (2 ^ 32) 8 0, .registerWrite .pf 0 1 256, .reg64LowRead .pf (2 ^ 32), .heartbeatLoss 9,
   .lichenFlitReceive true [] none, .lichenNakReceive true 4096, .laneFail 5, .paceSample [] (List.replicate 8 0), .paceSample (List.replicate 48 0) [], .dispatchLockstepFail 2, .doorbell 64 0 0 [], .doorbell 0 256 0 [], .doorbell 0 0 (2 ^ 32) [],
   .resetDone 64 none, .resetDone 0 (some 256), .functionLevelReset 64, .mgtSlice0CbWrite (2 ^ 64), .mgtMboxUpHeadWrite (2 ^ 32), .vfMboxSend 0 0, .vfMboxSend 1 (2 ^ 32), .mgtMboxReply 64 0 [], .vfMboxRspRead 1 0 5] : List Instr).all (fun i => !i.wf) = true := by decide +kernel

/-- WellFormed refuses terms that fail its checks (part 2): ports, requesters, sizes and indexes beyond their range. -/
theorem test_ill_formed_refused_2 : ([.memoryRequest 32 none 0 0 false 0 [] none, .memoryRequest 0 (some 64) 0 0 false 0 [] none, .memoryRequest 0 none 0 4 false 0 [] none, .memCfgGrainWrite .mgmt 2 8, .memCfgLock (.vf 0) 0, .memRgnLock .sec 2, .lockBitSet (.vf 64) 0,
   .memCorrectableError 0 8, .memScrub 2 [], .memRefreshPoll 2 0, .slotTableSwap 2, .slotPrioWrite .pf 0 32 0, .memSleepEnter 2, .memSleepExit 2, .memExitComplete 2, .memTrainDone 0 256, .memRetrainDue 2 false, .retrainLate 2,
   .memDemandError 0 0 8 0 0 none 0, .memRecover .dispatch 2, .memRecovered 0 [] 256, .apertureWrite 64 0 [], .apertureRead 0 0 3, .latchPoint 9, .startOfActiveVideo 8, .lineDue 9 0 [] 0 false false, .writebackComplete 9 0] : List Instr).all (fun i => !i.wf) = true := by decide +kernel

/-- WellFormed refuses terms that fail its checks (part 3): ports, requesters, sizes and indexes beyond their range. -/
theorem test_ill_formed_refused_3 : ([.linkTrainingDone 8 [], .hpdLongPulse 8 none, .hpdShortPulse 8 true, .houseSyncEdge 2, .genlockAcquired 8, .genlockHoldover 8, .frondFlag 9 0 0 false, .frondBistDone 9 true, .ledVeilLock (.vf 0), .chkScanDone 40, .chkPeriodicRun 40, .tilePassDone 4 0 0,
   .tilePassSplit 4 0 0 0, .ingestPacket 64 0 anRtp, .ingestPacket 0 2 anRtp, .mergeTimeout 64, .streamFrameComplete 64, .streamFrameAbandon 64, .pathDown 0 2, .streamLost 64, .ethLinkChange 4 true, .ptpMessage 4 0 false 0 0, .ptpMessage 0 256 false 0 0] : List Instr).all (fun i => !i.wf) = true := by decide +kernel

/-- WellFormed refuses terms that fail its checks (part 4): ports, requesters, sizes and indexes beyond their range. -/
theorem test_ill_formed_refused_4 : ([.touchScanFrame 8 [] [], .rawFrameReceive 6 [] 0, .touchSurfaceLost 8, .touchStartupDone 8, .touchRebaseDone 8, .touchReacquireDone 8, .touchLineFault 8, .touchLineRecover 8, .touchContactResting 8, .touchAbsorbDone 8, .touchBaselineStore 8, .hapPulseEnd 8,
   .hapListenClose 8 none 0, .hapBrakeTimeout 8, .duckHoldExpire 16, .secModeKeyLock (.vf 0), .secModeApprovedLock (.vf 0), .secNmboxPush .pf (2 ^ 32), .secMeasExtend .pf 16 [], .secMeasExtend .pf 0 [], .secRestartDone [], .dbgCertWrite (2 ^ 32),
   .debugAccess true 0 (2 ^ 32), .tamperAssert 8 0, .tamperRelease 8 0, .rhzFlitReceive 2 [] .nothing, .rhzFlitReceive 0 [] .nothing, .rhzTimingMessage 2 0, .rhzLinkDown 2, .rhzLinkUp 2 0 0 0, .domainWakeDone 12, .avsTick (2 ^ 16), .thermalSample 16 0,
   .vmonExcursion 24 0] : List Instr).all (fun i => !i.wf) = true := by decide +kernel

/-! ## Worked examples of the spec -/

/-- R73: a range of 1.2 to 2.0 opens at 2.0, one of 1.1 to 1.9 at 1.3, one of 2.1 to 3.0 at none. -/
theorem test_versions : (chooseVersion 0x12 0x20, chooseVersion 0x11 0x19, chooseVersion 0x21 0x30) = (some 0x20, some 0x13, none) := by decide

/-- FIPS 180-4: the first eight bytes of SHA-384 of the message abc. -/
theorem test_sha384_abc : (sha384 [0x61, 0x62, 0x63]).take 8 = [0xCB, 0x00, 0x75, 0x3F, 0x45, 0xA3, 0x5E, 0x8B] := by decide +kernel

/-- R26: the CRC of nine ASCII digits under CRC-32C, the check value of the polynomial. -/
theorem test_crc32c : crc32c [0x31, 0x32, 0x33, 0x34, 0x35, 0x36, 0x37, 0x38, 0x39] = 0xE3069283 := by decide +kernel

/-- R148: PF slice 0 runs a NOP at the front of its ring: a step answers a state in which the slice's head has moved and its command has completed. -/
def oneNop : State := { (upC fun c => { c with slices := [(0, { okSlice with visible := [pk 0 0 []], tail := 16, lastAccepted := 6, rings := { okSlice.rings with subBase := 0x3000, cmpBase := 0x2000, sizes := 12 + 12 * 256 } })] }) with pending := [.nop (.slice 0 0)] }

theorem test_nop_from_a_slice : ((nextOf (step oneNop)).core.slice 0 0).map (fun sl => (sl.visible.length, sl.subHead, sl.lastCompleted, sl.outstanding)) = some (0, 16, 7, 0) := by decide +kernel

/-! ## Witnesses of the obligations -/

/-- The premises of StepRunsTheFrontCommand are met. -/
theorem witness_StepRunsTheFrontCommand :
  (∃ (s : State) (c : Instr) (rest : List Instr), s.pending = c :: rest) :=
⟨{ up with pending := [.journalFlush] }, .journalFlush, [], rfl⟩

/-- The premises of IdleStepIsOneTick are met. -/
theorem witness_IdleStepIsOneTick :
  (∃ (s : State), s.pending = []) ∧
  (∃ (s t : State), s.pending = [] ∧ s.core.now + 1 < 2 ^ 64 ∧ step s = .next t) :=
⟨⟨up, rfl⟩,
  ⟨up, nextOf (step up), rfl, by decide +kernel, rfl⟩⟩

/-- The premises of DeviceTimeNeverRunsBackwards are met. -/
theorem witness_DeviceTimeNeverRunsBackwards :
  (∃ (s t : State), step s = .next t ∧ (∀ rest, s.pending ≠ .powerOnReset :: rest) ∧ s.core.now + 1 < 2 ^ 64) :=
⟨up, nextOf (step up), rfl, fun rest h => (by have e : ([] : List Instr) = .powerOnReset :: rest := h; cases e), by decide +kernel⟩

/-- The premises of OnlyTimeMessagesMoveDeviceTime are met. -/
theorem witness_OnlyTimeMessagesMoveDeviceTime :
  (∃ (c : Instr) (s t : State), exec c s = .next t ∧ movesTime c = false) :=
⟨.journalFlush, up, nextOf (exec .journalFlush up), rfl, rfl⟩

/-- The premises of GenerationIncrementsPastZero are met. -/
theorem witness_GenerationIncrementsPastZero :
  (∃ (u v : Nat), uKey v ≠ uKey u) :=
⟨0, 1, by decide⟩

/-- The premises of MemoryReadsWhatWasWritten are met. -/
theorem witness_MemoryReadsWhatWasWritten :
  (∃ (m : Memory) (_ : Nat) (_ : List Byte), Memory.wf m = true) ∧
  ∃ (a x : Nat) (bs : List Byte), x < a ∨ a + bs.length ≤ x :=
⟨⟨[(1, 5)], 1, [0], by decide⟩,
  ⟨1, 2, [5], by decide⟩⟩

/-- The premises of SessionCommandsComplete are met. -/
theorem witness_SessionCommandsComplete :
  Meets cmdNop .served (fun _ _ _ => True) ∧
  Meets cmdNegotiate .served (fun z w p => ∃ sl v, z.core.slice w.inst w.slice = some sl ∧ sl.outstanding ≤ 1 ∧ chooseVersion (pkF p 0 7 0) (pkF p 0 15 8) = some v ∧ pkW p 1 = 0) :=
⟨meets _ _ _ (up) (pf) (pk 0 0 []) (by decide +kernel) (trivial) (trivial),
  meets _ _ _ (up) (pf) (pk 1 0 [0x2010, 0]) (by decide +kernel) (⟨_, 0x20, gt (by decide +kernel), by decide +kernel⟩) (⟨_, 0x20, gt (by decide +kernel), by decide +kernel⟩)⟩

/-- The premises of SessionCommandsComplete (NegotiateWaitsForUnfinishedPackets) are met. -/
theorem witness_NegotiateWaitsForUnfinishedPackets :
  Meets cmdNegotiate .delayedUnitBusy (fun z w _ => ∃ sl, z.core.slice w.inst w.slice = some sl ∧ sl.ver ≠ 0 ∧ 1 < sl.outstanding) :=
meets _ _ _ (upC fun c => { c with slices := [(0, { okSlice with outstanding := 2 })] }) (pf) (pk 1 0 [0x2010, 0]) (by decide +kernel) (⟨_, gt (by decide +kernel), by decide +kernel⟩) (⟨_, gt (by decide +kernel), by decide +kernel⟩)

/-- The premises of DoorbellMakesPacketsVisible are met. -/
theorem witness_DoorbellMakesPacketsVisible :
  (∃ (s : State) (inst idx : Nat), (s.core.slice inst idx = none ∨ ∃ sl, s.core.slice inst idx = some sl ∧ (sl.st = .draining ∨ sl.st = .halted))) :=
⟨up, 5, 0, .inl (by decide +kernel)⟩

/-- The premises of SessionCommandsComplete (ControlBlockAndDispatchPairs) are met. -/
theorem witness_ControlBlockAndDispatchPairs :
  (∃ (s : State) (pair : Nat), pair < 2 ∧ ¬ pair ∈ s.lnk.failedPairs) :=
⟨up, 1, by decide +kernel⟩

/-- The premises of JournalCommandsComplete (JournalQueriesAnswer) are met. -/
theorem witness_JournalQueriesAnswer :
  MeetsAsk cmdJournalStatus (fun _ _ _ => True) ∧
  MeetsAsk cmdJournalTail (fun _ _ _ => True) ∧
  MeetsAsk cmdJournalExportRead (fun z _ _ => z.core.jrn.openExport.isSome) :=
⟨meetsAsk _ _ (up) (vf) (pk 0x0D06 jrnU []) (by decide +kernel) (trivial),
  meetsAsk _ _ (up) (vf) (pk 0x0D00 jrnU [1, 0x10000, 64]) (by decide +kernel) (trivial),
  meetsAsk _ _ (export1) (pf) (pk 0x0D03 jrnU [1, 0, 0x10000, 64]) (by decide +kernel) (by decide +kernel)⟩

/-- The premises of JournalCommandsComplete are met. -/
theorem witness_JournalCommandsComplete :
  Meets cmdJournalSync .served (fun _ _ _ => True) ∧
  Meets cmdJournalExportBegin .served (fun z _ p => (z.core.jrn.exportRange (pkW p 0) (pkW p 1)).isSome) ∧
  Meets cmdJournalExportAck .served (fun _ _ _ => True) :=
⟨meets _ _ _ (up) (vf) (pk 0x0D01 jrnU []) (by decide +kernel) (trivial) (trivial),
  meets _ _ _ (upJ oneSeal) (pf) (pk 0x0D02 jrnU [0, 0]) (by decide +kernel) (by decide +kernel) (by decide +kernel),
  meets _ _ _ (export1) (pf) (pk 0x0D04 jrnU ([1, 1] ++ ackSig)) (by decide +kernel) (trivial) (trivial)⟩

/-- The premises of JournalEventsComplete are met. -/
theorem witness_JournalEventsComplete :
  (∃ (s : State), s.pwr.mgmtRestarting = false ∧ s.peat.formatted = true ∧ s.peat.flushing = false ∧ s.core.jrn.noSpace = false ∧ s.partPermits 4 2 true = true ∧ itemsBytes s.core.jrn.part + (itemsBytes s.core.jrn.buffer + itemsBytes s.core.jrn.flushing) ≤ s.core.jrn.capacity) ∧
  (∃ (s : State), s.canSeal = true ∧ 1024 ≤ s.core.jrn.sinceSeal ∧ s.core.jrn.resumed = false) ∧
  (∃ (s : State), s.canSeal = true ∧ s.core.jrn.sealTimer + 10 ^ 9 ≤ s.core.now ∧ s.core.jrn.sinceSeal = 0) ∧
  (∃ (s : State), s.canSeal = true ∧ s.core.jrn.sealTimer + 10 ^ 9 ≤ s.core.now ∧ s.core.jrn.sinceSeal ≠ 0) :=
⟨⟨up, by decide +kernel⟩,
  ⟨upJ fun j => { j with sinceSeal := 1024 }, by decide +kernel⟩,
  ⟨up, by decide +kernel⟩,
  ⟨upJ fun j => { j with sinceSeal := 1 }, by decide +kernel⟩⟩

/-- The premises of JournalRecoverRebuildsThePartition are met. -/
theorem witness_JournalRecoverRebuildsThePartition :
  (∃ (s : State), s.core.jrn.st = .recovering ∧ Tbl.at s.pwr.dom .off 11 = .on ∧ s.sec.bootHalted = false) :=
⟨upJ fun j => { j with st := .recovering }, by decide +kernel⟩

/-- The premises of GroupCommandsComplete are met. -/
theorem witness_GroupCommandsComplete :
  Meets cmdGroupCreate .served (fun _ _ _ => True) ∧
  Meets cmdGroupMember .served (fun z _ p => ∃ g, Tbl.find z.core.groups (uKey (pkUnit p)) = some g ∧ bitOf (pkW p 0) 32 = g.members.contains (pkF p 0 31 0)) ∧
  Meets cmdGroupMember .served (fun z _ p => ∃ g, Tbl.find z.core.groups (uKey (pkUnit p)) = some g ∧ bitOf (pkW p 0) 32 ≠ g.members.contains (pkF p 0 31 0)) ∧
  Meets cmdGroupDestroy .served (fun z _ p => ∃ t, ((z.leaveGroups (pkUnit p)).startTr (pkUnit p) .powerDown).trOf (pkUnit p) = some t ∧ ((z.leaveGroups (pkUnit p)).startTr (pkUnit p) .powerDown).groupBusy (pkUnit p) = false) :=
⟨meets _ _ _ (up) (vf) (pk 0x0100 (uid 0xF5 0 0) []) (by decide +kernel) (trivial) (trivial),
  meets _ _ _ (upC fun c => { c with groups := [(uid 0xF5 0 0, { aGroup with members := [uid 0x20 2 0] })] }) (pf) (pk 0x0101 (uid 0xF5 0 0) [2 ^ 32 + uid 0x20 2 0]) (by decide +kernel) (⟨_, gt (by decide +kernel), by decide +kernel⟩) (⟨_, gt (by decide +kernel), by decide +kernel⟩),
  meets _ _ _ (upC fun c => { c with groups := [(uid 0xF5 0 0, { aGroup with members := [uid 0x20 2 0] })] }) (pf) (pk 0x0101 (uid 0xF5 0 0) [uid 0x20 2 0]) (by decide +kernel) (⟨_, gt (by decide +kernel), by decide +kernel⟩) (⟨_, gt (by decide +kernel), by decide +kernel⟩),
  meets _ _ _ (upC fun c => { c with groups := [(uid 0xF5 0 0, aGroup)] }) (pf) (pk 0x0102 (uid 0xF5 0 0) []) (by decide +kernel) (⟨_, gt (by decide +kernel), by decide +kernel⟩) (⟨_, gt (by decide +kernel), by decide +kernel⟩)⟩

/-- The premises of UnitResetsComplete (UnitResetDrainsTheUnit) are met. -/
theorem witness_UnitResetDrainsTheUnit :
  Meets cmdUnitReset .served (fun z _ p => isGroupUnit (pkUnit p) = false ∧ z.trOf (pkUnit p) = none ∧ z.isActive (pkUnit p) = true) :=
meets _ _ _ (up) (pf) (pk 0x0103 (uid 0x30 1 0) []) (by decide +kernel) (by decide +kernel) (by decide +kernel)

/-- The premises of UnitResetsComplete (UnitEventsComplete) are met. -/
theorem witness_UnitEventsComplete :
  (∃ (s : State) (unit : BitVec 32) (_ : Transition), s.foreign unit.toNat = false ∧ unitInRange unit.toNat = true ∧ 0x02 < uCls unit.toNat ∧ uCls unit.toNat ≠ 0xA0 ∧ s.leased unit.toNat = false ∧ s.trOf unit.toNat = none ∧ s.isActive unit.toNat = true) ∧
  (∃ (s : State) (unit : BitVec 32) (t : UnitTr), s.foreign unit.toNat = false ∧ uCls unit.toNat ≠ 0xA0 ∧ s.trOf unit.toNat = some t ∧ t.phase = .draining ∧ s.drained unit.toNat t = true) ∧
  (∃ (s : State) (unit : BitVec 32) (t : UnitTr), s.foreign unit.toNat = false ∧ uCls unit.toNat ≠ 0xA0 ∧ isGroupUnit unit.toNat = false ∧ s.trOf unit.toNat = some t ∧ t.phase = .draining ∧ s.limitPast unit.toNat t = true) :=
⟨⟨up, 0x2000100, .reset, by decide +kernel⟩,
  ⟨upC fun c => { c with trans := [(0x2000100, draining)] }, 0x2000100, draining, by decide +kernel⟩,
  ⟨upC fun c => { c with trans := [(0x3000100, draining)] }, 0x3000100, draining, by decide +kernel⟩⟩

/-- The premises of LichenLinkAndPaceComplete (LichenLinkEventsComplete) are met. -/
theorem witness_LichenLinkEventsComplete :
  (∃ (s : State), s.lnk.up = true ∧ s.lnk.toWarden.sinceAck ≠ 0) ∧
  (∃ (s : State), s.lnk.up = true ∧ s.lnk.toCanvas.sinceAck ≠ 0) ∧
  (∃ (s : State) (seq : Nat), s.lnk.up = true ∧ (seq + 4096 - s.lnk.toWarden.acked) % 4096 ≤ s.lnk.toWarden.replay.length) ∧
  (∃ (s : State) (flit : List Byte) (_ : Option (BitVec 32 × Gen × BitVec 32)), s.lnk.up = true ∧ lichenOk flit = false) ∧
  (∃ (s : State) (flit : List Byte), s.lnk.up = true ∧ lichenOk flit = true ∧ fld (ofLe (flit.take 2)) 13 12 < 2 ∧ fld (ofLe (flit.take 2)) 15 14 ≠ 1 ∧ fld (ofLe (flit.take 2)) 11 0 = s.lnk.toWarden.expect ∧ s.lnk.toWarden.sinceAck < 63) :=
⟨⟨upL fun l => { l with toWarden := { l.toWarden with sinceAck := 1 } }, by decide +kernel⟩,
  ⟨upL fun l => { l with toCanvas := { l.toCanvas with sinceAck := 1 } }, by decide +kernel⟩,
  ⟨up, 0, by decide +kernel⟩,
  ⟨up, [], none, by decide +kernel⟩,
  ⟨up, aFlit, by decide +kernel⟩⟩

/-- The premises of LichenLinkAndPaceComplete (LichenLanesAndHeartbeatsComplete) are met. -/
theorem witness_LichenLanesAndHeartbeatsComplete :
  (∃ (s : State) (lane : Nat), lane < 4 ∧ s.lnk.up = true ∧ s.lnk.laneFail = 0 ∧ s.lnk.spareUsed = false) ∧
  (∃ (s : State) (lane : Nat), lane < 5 ∧ s.lnk.up = true ∧ bitOf s.lnk.laneFail lane = false ∧ s.lnk.spareUsed = true) ∧
  (∃ (s : State) (frond : Nat), frond < 9 ∧ Tbl.at s.lnk.lastBeat 0 frond + 2000000 ≤ s.core.now ∧ Tbl.at s.lnk.osuFault false frond = false) ∧
  (∃ (s : State), s.lnk.up = true ∧ s.lnk.heartbeatsStopped = false ∧ s.sec.run ≠ .gaveUp ∧ s.lnk.lastBeat = [] ∧ s.lnk.osuFault = [] ∧ s.lnk.toCanvas.replay.length + 9 ≤ 1024) :=
⟨⟨up, 3, by decide +kernel⟩,
  ⟨upL fun l => { l with spareUsed := true, laneFail := 1 }, 4, by decide +kernel⟩,
  ⟨up, 8, by decide +kernel⟩,
  ⟨up, by decide +kernel⟩⟩

/-- The premises of LichenLinkAndPaceComplete (PaceAndOverloadComplete) are met. -/
theorem witness_PaceAndOverloadComplete :
  (∃ (s : State) (canvas warden : List Nat), canvas.length = 48 ∧ warden.length = 8 ∧ s.lnk.window.length + 1 < 100) ∧
  (∃ (s : State), s.lnk.overload = true ∧ 1000 ≤ s.lnk.calmUs) :=
⟨⟨up, List.replicate 48 0, List.replicate 8 0, by decide +kernel⟩,
  ⟨upL fun l => { l with overload := true, calmUs := 1000 }, by decide +kernel⟩⟩

/-- The premises of SlicesAndInstancesComplete (SliceCommandsComplete) are met. -/
theorem witness_SliceCommandsComplete :
  Meets cmdSliceCreate .served (fun _ _ _ => True) ∧
  (∃ (_ : Core) (i k : Nat) (_ : Slice), (i ≠ 0 ∨ k ≠ 0)) ∧
  Meets cmdSliceDestroy .served (fun _ _ _ => True) ∧
  Meets cmdSliceReset .served (fun z _ p => z.resetting (uIdx (pkUnit p)) (uSub (pkUnit p)) = false) :=
⟨meets _ _ _ (up) (pf) (pk 0x0140 (uid 0x02 1 3) [9, 0x1000, 0x2000]) (by decide +kernel) (trivial) (trivial),
  ⟨up.core, 0, 1, okSlice, by decide +kernel⟩,
  meets _ _ _ (up) (pf) (pk 0x0141 (uid 0x02 1 0) []) (by decide +kernel) (trivial) (trivial),
  meets _ _ _ (up) (pf) (pk 0x0142 (uid 0x02 1 0) []) (by decide +kernel) (by decide +kernel) (by decide +kernel)⟩

/-- The premises of SlicesAndInstancesComplete (InstanceResetsComplete) are met. -/
theorem witness_InstanceResetsComplete :
  Meets cmdInstanceReset .served (fun z _ _ => z.core.resets = []) ∧
  (∃ (s : State), s.core.ready = true ∧ s.core.resets = []) ∧
  (∃ (s : State) (inst : Nat), s.core.ready = true ∧ 0 < inst ∧ inst < 64) ∧
  (∃ (s : State), s.core.ready = true) ∧
  (∃ (s : State) (inst : Nat) (slice : Option Nat) (r : _), Tbl.find s.core.resets (resetUnit inst slice) = some r ∧ r.queued = false ∧ s.stopped inst slice = true) ∧
  (∃ (s : State) (inst : Nat) (slice : Option Nat) (r : _), Tbl.find s.core.resets (resetUnit inst slice) = some r ∧ r.queued = false ∧ s.stopped inst slice = false ∧ r.start + 2 * 10 ^ 6 ≤ s.core.now) :=
⟨meets _ _ _ (up) (pf) (pk 0x0143 (uid 0x01 1 0) []) (by decide +kernel) (by decide +kernel) (by decide +kernel),
  ⟨up, by decide +kernel⟩,
  ⟨up, 63, by decide +kernel⟩,
  ⟨up, by decide +kernel⟩,
  ⟨upC fun c => { c with resets := [(resetUnit 1 none, aReset)] }, 1, none, aReset, by decide +kernel⟩,
  ⟨{ (upC fun c => { c with resets := [(resetUnit 1 none, aReset)] }) with ing := { up.ing with recvs := [(0, { Recv.closed with owner := some 1, closing := some (1, true) })] } }, 1, none, aReset, by decide +kernel⟩⟩

/-- The premises of ShareMailboxAndTranslationComplete (ShareAndTranslationCommandsComplete) are met. -/
theorem witness_ShareAndTranslationCommandsComplete :
  Meets cmdShareSet .served (fun _ _ _ => True) ∧
  Meets cmdDtuInvalidate .served (fun _ _ _ => True) ∧
  Meets cmdStage2Set .served (fun _ _ _ => True) ∧
  MeetsAsk cmdAdmissionStatus (fun _ _ p => pkW p 0 = 0) ∧
  MeetsAsk cmdStage2Set (fun _ _ _ => True) :=
⟨meets _ _ _ (up) (pf) (pk 0x0144 (uid 0x01 1 0) [2 ^ 32 + 1, 0, 0, 0, 0, 2 ^ 48 + 1, 2 ^ 16 + 1]) (by decide +kernel) (trivial) (trivial),
  meets _ _ _ (up) (pf) (pk 0x0146 (uid 0x01 1 0) [0, 0]) (by decide +kernel) (trivial) (trivial),
  meets _ _ _ (up) (pf) (pk 0x0147 (uid 0x01 1 0) [0x5001]) (by decide +kernel) (trivial) (trivial),
  meetsAsk _ _ (up) (vf) (pk 0x0145 (uid 0x01 1 0) [0]) (by decide +kernel) (by decide +kernel),
  meetsAsk _ _ (up) (pf) (ask 0x0147 (uid 0x01 1 0) [0x1000, 8]) (by decide +kernel) (trivial)⟩

/-- The premises of ShareMailboxAndTranslationComplete (MailboxEventsComplete) are met. -/
theorem witness_MailboxEventsComplete :
  (∃ (s : State) (_ : Nat), s.core.waitingN = [] ∧ s.core.keptN = []) ∧
  (∃ (s : State) (inst count : Nat), 0 < inst ∧ inst < 64 ∧ count ≤ 512 ∧ Tbl.at s.core.vfAsked false inst = true) ∧
  (∃ (s : State) (inst count : Nat), 0 < inst ∧ inst < 64 ∧ count ≤ 512 ∧ Tbl.at s.core.vfAsked false inst = false ∧ s.core.mboxUp ≠ 0) ∧
  (∃ (s : State) (inst count : Nat), 0 < inst ∧ inst < 64 ∧ count ≤ 1024 ∧ s.core.mboxDown ≠ 0) ∧
  (∃ (_ : State) (inst off size : Nat), 0 < inst ∧ inst < 64 ∧ off + size ≤ 1024) :=
⟨⟨up, 0, by decide +kernel⟩,
  ⟨upC fun c => { c with vfAsked := [(63, true)] }, 63, 512, by decide +kernel⟩,
  ⟨upC fun c => { c with mboxUp := 0x1000 }, 1, 0, by decide +kernel⟩,
  ⟨upC fun c => { c with mboxDown := 0x1000 }, 63, 1024, by decide +kernel⟩,
  ⟨up, 1, 1020, 4, by decide +kernel⟩⟩

/-- The premises of SlicesAndInstancesComplete (AdmissionDecisionCompletes) are met. -/
theorem witness_AdmissionDecisionCompletes :
  (∃ (s : State) (inst : Nat) (sh : Share), s.core.sharesPending = [(inst, sh)] ∧ s.isActive (uid 0x01 inst 0) = true ∧ Tbl.has s.core.resets (uid 0x01 inst 0) = false ∧ s.core.owed = [] ∧ s.ras.jobs = [] ∧ s.core.slices = []) ∧
  (∃ (s : State), s.core.sharesPending = [] ∧ s.core.shares = [] ∧ s.core.owed = [] ∧ s.ras.jobs = [] ∧ s.core.slices = []) :=
⟨⟨upC fun c => { c with sharesPending := [(1, Share.pf)], slices := [] }, 1, Share.pf, by decide +kernel⟩,
  ⟨upC fun c => { c with shares := [], slices := [] }, by decide +kernel⟩⟩

/-- The premises of SecureCommandsComplete are met. -/
theorem witness_SecureCommandsComplete :
  Meets cmdKeyLoad .served (fun _ _ p => pkF p 0 3 0 < 4) ∧
  Meets cmdKeyLoad .served (fun _ _ p => 4 ≤ pkF p 0 3 0) ∧
  Meets cmdLeaseSet .served (fun _ _ _ => True) ∧
  Meets cmdTamperSet .served (fun _ _ p => bitOf (pkW p 0) 31 = false) ∧
  Meets cmdTamperClear .served (fun _ _ _ => True) ∧
  Meets cmdRegulatedSet .served (fun z _ _ => z.regulated = true) ∧
  Meets cmdRegulatedSet .served (fun z _ _ => z.regulated = false) ∧
  Meets cmdDebugClose .served (fun _ _ _ => True) ∧
  Meets cmdSecSessionClose .served (fun _ _ _ => True) :=
⟨meets _ _ _ (upS id) (secWho) (pk 0x0F06 dev ([3] ++ keyW)) (by decide +kernel) (by decide +kernel) (by decide +kernel),
  meets _ _ _ (upS id) (secWho) (pk 0x0F06 dev ([4 + 256] ++ keyW)) (by decide +kernel) (by decide +kernel) (by decide +kernel),
  meets _ _ _ (upS id) (secWho) (pk 0x0F07 dev [uid 0x22 1 0]) (by decide +kernel) (trivial) (trivial),
  meets _ _ _ (upS id) (secWho) (pk 0x0F08 dev [2 ^ 32 * 7 + 2 ^ 16]) (by decide +kernel) (by decide +kernel) (by decide +kernel),
  meets _ _ _ (upS id) (secWho) (pk 0x0F09 dev []) (by decide +kernel) (trivial) (trivial),
  meets _ _ _ (upJ fun j => { j with regulated := true }) (secWho) (pk 0x0F05 dev []) (by decide +kernel) (by decide +kernel) (by decide +kernel),
  meets _ _ _ (up) (secWho) (pk 0x0F05 dev []) (by decide +kernel) (by decide +kernel) (by decide +kernel),
  meets _ _ _ (up) (pf) (pk 0x1101 dev []) (by decide +kernel) (trivial) (trivial),
  meets _ _ _ (up) (vf) (pk 0x0F01 (sliceUnit 1 0) []) (by decide +kernel) (trivial) (trivial)⟩

/-- The premises of SecureCommandsComplete (SessionOpenAndApprovedListComplete) are met. -/
theorem witness_SessionOpenAndApprovedListComplete :
  Meets cmdSecSessionOpen .served (fun z w p => sessionVerifies z w p = true) ∧
  Meets cmdApprovedSet .served (fun z w p => ∃ bs key, (z.hostRead w (pkW p 0) (64 * pkW p 1 + 100)).2 = .ok bs ∧ approvedOk (pkW p 1) (bs.take (64 * pkW p 1)) = true ∧ Tbl.find (z.hostRead w (pkW p 0) (64 * pkW p 1 + 100)).1.sec.operatorKeys (ofLe ((bs.drop (64 * pkW p 1)).take 4)) = some key ∧ ecdsaVerify key (sha384 (bs.take (64 * pkW p 1))) (bs.drop (64 * pkW p 1 + 4)) = true) :=
⟨meets _ _ _ (session) (pf) (pk 0x0F00 (sliceUnit 0 0) ([0] ++ sessionSig)) (by decide +kernel) (by decide +kernel) (by decide +kernel),
  meets _ _ _ (approving) (secWho) (pk 0x0F04 dev [0x1000, 1]) (by decide +kernel) (⟨approvedList ++ le 4 0 ++ bytesOf listSig, key1, by decide +kernel⟩) (⟨approvedList ++ le 4 0 ++ bytesOf listSig, key1, by decide +kernel⟩)⟩

/-- The premises of SecureQueriesAnswer are met. -/
theorem witness_SecureQueriesAnswer :
  MeetsAsk cmdSecStatus (fun _ _ _ => True) ∧
  MeetsAsk cmdDebugStatus (fun _ _ _ => True) ∧
  MeetsAsk cmdMeasureRead (fun _ _ _ => True) ∧
  MeetsAsk cmdAttest (fun z _ _ => z.sec.run ≠ .gaveUp) ∧
  (∃ (s : State), (∀ n, (s.measOf n).length = 48)) :=
⟨meetsAsk _ _ (up) (vf) (pk 0x0F0A dev []) (by decide +kernel) (trivial),
  meetsAsk _ _ (up) (vf) (pk 0x1100 dev []) (by decide +kernel) (trivial),
  meetsAsk _ _ (up) (vf) (pk 0x0F03 dev [0x10000]) (by decide +kernel) (trivial),
  meetsAsk _ _ (up) (vf) (pk 0x0F02 dev [1, 2, 3, 4, 0x10000]) (by decide +kernel) (by decide +kernel),
  ⟨up, fun _ => rfl⟩⟩

/-- The premises of ExtensionReplacesTheMeasurementRegister are met. -/
theorem witness_ExtensionReplacesTheMeasurementRegister :
  ∃ (n m : Nat), m ≠ n :=
⟨7, 10, by decide⟩

/-- The premises of SecureRegistersAndEventsComplete (SecureRegisterCommandsComplete) are met. -/
theorem witness_SecureRegisterCommandsComplete :
  (∃ (s : State), s.sec.keyLock = false) ∧
  (∃ (s : State), s.sec.approvedLock = false) ∧
  (∃ (s : State), s.led.veilLock = false) ∧
  (∃ (s : State), s.aud.hpLock = false) ∧
  (∃ (s : State), s.peat.retainLock = false) ∧
  (∃ (s : State) (n : Nat), n < 8 ∧ bitOf (Tbl.cnt s.sec.tamperCfg n) 31 = false) ∧
  (∃ (_ : State) (n : Nat) (d : List Byte), n < 16 ∧ ¬ n ∈ [0, 6, 7, 8, 10, 12, 15] ∧ d.length = 48) ∧
  (∃ (s : State) (_ : Nat), s.sec.nmbox.length < 256) :=
⟨⟨up, by decide +kernel⟩,
  ⟨up, by decide +kernel⟩,
  ⟨up, by decide +kernel⟩,
  ⟨up, by decide +kernel⟩,
  ⟨up, by decide +kernel⟩,
  ⟨up, 7, by decide +kernel⟩,
  ⟨up, 14, List.replicate 48 0, by decide +kernel⟩,
  ⟨up, 5, by decide +kernel⟩⟩

/-- The premises of NormalWorldCannotWriteSecureRegisters are met. -/
theorem witness_NormalWorldCannotWriteSecureRegisters :
  (∃ (_ : State) (req : Requester) (n : Nat) (d : List Byte) (c : _), req ≠ .sec ∧ c ∈ [Instr.secModeKeyLock req, .secModeApprovedLock req, .ledVeilLock req, .secMeasExtend req n d, .lockBitSet req 5, .lockBitSet req 9]) :=
⟨up, .pf, 7, [], .lockBitSet .pf 9, by decide +kernel⟩

/-- The premises of SecureRegistersAndEventsComplete (SecRestartEventsComplete) are met. -/
theorem witness_SecRestartEventsComplete :
  (∃ (s : State), s.sec.run = .running ∧ s.sec.wdog + 50 * 10 ^ 6 ≤ s.core.now) ∧
  (∃ (s : State), s.sec.run = .running) ∧
  (∃ (s : State) (d : List Byte), s.sec.run = .restarting ∧ d = s.sec.fwDigest ∧ s.sec.restartTimes = []) ∧
  (∃ (s : State) (d : List Byte), s.sec.run = .restarting ∧ d ≠ s.sec.fwDigest) :=
⟨⟨up, by decide +kernel⟩,
  ⟨up, by decide +kernel⟩,
  ⟨upS fun x => { x with run := .restarting }, [], by decide +kernel⟩,
  ⟨upS fun x => { x with run := .restarting }, [1], by decide +kernel⟩⟩

/-- The premises of SecureRegistersAndEventsComplete (DebugAndTamperEventsComplete) are met. -/
theorem witness_DebugAndTamperEventsComplete :
  (∃ (s : State) (word : Nat), s.sec.dbgLocked = false ∧ certOk { s with sec := { s.sec with dbgCert := Memory.wrN s.sec.dbgCert 252 (le 4 word) } } (Memory.rdN (Memory.wrN s.sec.dbgCert 252 (le 4 word)) 0 256) = true) ∧
  (∃ (s : State) (word : Nat), s.sec.dbgLocked = false ∧ certOk { s with sec := { s.sec with dbgCert := Memory.wrN s.sec.dbgCert 252 (le 4 word) } } (Memory.rdN (Memory.wrN s.sec.dbgCert 252 (le 4 word)) 0 256) = false) ∧
  (∃ (s : State) (input ms : Nat), input < 8 ∧ bitOf (Tbl.cnt s.sec.tamperCfg input) 1 = true ∧ fld (Tbl.cnt s.sec.tamperCfg input) 23 16 ≤ ms ∧ ¬ input ∈ s.sec.tamperOn ∧ bitOf (Tbl.cnt s.sec.tamperCfg input) 8 = false ∧ s.onlyAon = false) ∧
  (∃ (s : State) (input ms : Nat), input ∈ s.sec.tamperOn ∧ fld (Tbl.cnt s.sec.tamperCfg input) 23 16 ≤ ms ∧ s.onlyAon = false) :=
⟨⟨upS fun x => { x with dbgCert := Memory.wrN [] 0 aCert }, 0, by decide +kernel⟩,
  ⟨upS fun x => { x with dbgCert := Memory.wrN [] 0 aCert }, 1, by decide +kernel⟩,
  ⟨upS fun x => { x with tamperCfg := [(7, 0x140002)] }, 7, 20, by decide +kernel⟩,
  ⟨upS fun x => { x with tamperCfg := [(7, 0x140002)], tamperOn := [7] }, 7, 20, by decide +kernel⟩⟩

/-- The premises of MemoryRequestsComplete are met. -/
theorem witness_MemoryRequestsComplete :
  (∃ (s : State) (_ : Nat) (_ : Option Nat) (_ _ : Nat) (addr : Nat) (_ : List Byte) (surface : Option Nat) (n off : Nat) (sf : Surf), s.surfAt (addr % 2 ^ 36) = some (n, sf, off) ∧ sf.locked = true ∧ (surface ≠ some n ∨ sf.written = false)) ∧
  (∃ (s : State) (port : Nat) (_ : Option Nat) (_ _ : Nat) (write : Bool) (addr : Nat) (_ : List Byte) (_ : Option Nat), (write = true → ∀ e, s.surfAt (addr % 2 ^ 36) = some e → e.2.1.locked = false) ∧ s.permits port write (addr % 2 ^ 36) = false) ∧
  (∃ (s : State) (port : Nat) (_ : Option Nat) (_ _ : Nat) (write : Bool) (addr : Nat) (_ : List Byte) (_ : Option Nat), (write = true → ∀ e, s.surfAt (addr % 2 ^ 36) = some e → e.2.1.locked = false ∧ e.2.1.mirror = none) ∧ s.permits port write (addr % 2 ^ 36) = true) ∧
  (∃ (s : State) (port : Nat) (_ : Option Nat) (_ _ : Nat) (addr : Nat) (_ : List Byte) (_ : Option Nat) (n off m : Nat) (sf : Surf), s.surfAt (addr % 2 ^ 36) = some (n, sf, off) ∧ sf.locked = false ∧ sf.mirror = some m ∧ s.permits port true (addr % 2 ^ 36) = true ∧ (s.group sf.home).st.serves = true ∧ (s.group (1 - sf.home)).st.serves = true) :=
⟨⟨surfs [(3, locked)], 8, some 1, 0, 1, 0x100040, [1], none, 3, 64, locked, by decide +kernel⟩,
  ⟨up, 8, some 1, 0, 1, false, 2 ^ 36 - 64, [], none, fun h => (by cases h), by decide +kernel⟩,
  ⟨up, 8, some 1, 0, 1, true, 0x100040, [1], none, fun _ e h => (by have n : up.surfAt (0x100040 % 2 ^ 36) = none := (by decide +kernel); rw [n] at h; cases h), by decide +kernel⟩,
  ⟨surfs [(3, mirrored)], 8, some 1, 0, 1, 0x100040, [1], none, 3, 64, 16, mirrored, by decide +kernel⟩⟩

/-- The premises of IssuedRequestStoresOrReads are met. -/
theorem witness_IssuedRequestStoresOrReads :
  (∃ (s : State) (r : MemReq), Memory.wf s.mem.dram = true ∧ r.write = true) ∧
  (∃ (s : State) (g : Nat) (r : MemReq), Memory.wf s.mem.dram = true ∧ r.write = false ∧ (s.group g).poison.contains (r.addr / 64 * 64) = false) ∧
  (∃ (s : State) (g : Nat) (r : MemReq), Memory.wf s.mem.dram = true ∧ (r.write = true ∨ (s.group g).poison.contains (r.addr / 64 * 64) = false)) :=
⟨⟨up, aReq, by decide +kernel⟩,
  ⟨up, 1, { aReq with write := false }, by decide +kernel⟩,
  ⟨up, 1, aReq, by decide +kernel⟩⟩

/-- The premises of MemoryGroupsComplete (MemoryConfigurationComplete) are met. -/
theorem witness_MemoryConfigurationComplete :
  (∃ (s : State) (g grain : Nat), g < 2 ∧ 8 ≤ grain ∧ grain ≤ 16 ∧ (s.group g).lock = false ∧ (s.group g).st = .training) ∧
  (∃ (s : State) (g grain : Nat), g < 2 ∧ (grain < 8 ∨ 16 < grain ∨ (s.group g).lock = true)) ∧
  (∃ (s : State) (g : Nat), g < 2 ∧ (s.group g).lock = false) ∧
  (∃ (s : State) (g : Nat), g < 2 ∧ (s.group g).rgnLock = false) ∧
  (∃ (_ : State) (g port prio : Nat), g < 2 ∧ port < 32 ∧ prio < 4) ∧
  (∃ (s : State) (g : Nat), g < 2 ∧ (s.group g).st = .frozen) ∧
  (∃ (_ : State) (g : Nat) (_ : MemGroup → MemGroup), g < 2) :=
⟨⟨upG fun m => { m with st := .training }, 0, 16, by decide +kernel⟩,
  ⟨up, 1, 17, by decide +kernel⟩,
  ⟨up, 1, by decide +kernel⟩,
  ⟨up, 1, by decide +kernel⟩,
  ⟨up, 1, 31, 3, by decide +kernel⟩,
  ⟨upG fun m => { m with st := .frozen }, 0, by decide +kernel⟩,
  ⟨up, 1, id, by decide +kernel⟩⟩

/-- The premises of MemoryGroupsComplete (MemoryTimersComplete) are met. -/
theorem witness_MemoryTimersComplete :
  (∃ (s : State) (g : Nat) (t : Tbl Nat), g < 2 ∧ (s.group g).st = .active ∧ (s.group g).pendingSlots = some t) ∧
  (∃ (s : State) (g : Nat) (st : GroupSt), g < 2 ∧ (s.group g).st = .active ∧ (s.group g).queue = [] ∧ (s.group g).lastReq + (s.group g).idleNs ≤ s.core.now ∧ (s.group g).lowState = some st) ∧
  (∃ (s : State) (g : Nat), g < 2 ∧ (s.group g).st.low = true ∧ Tbl.at s.pwr.dom .off (5 + g) = .on ∧ (s.group g).queue ≠ []) ∧
  (∃ (s : State) (g : Nat), g < 2 ∧ (s.group g).st.low = true ∧ (s.group g).exiting = true) ∧
  (∃ (_ : State) (g _ : Nat), g < 2) ∧
  (∃ (s : State) (g : Nat) (moved : Bool), g < 2 ∧ (s.group g).st.serves = true ∧ (s.group g).retrainDue = none ∧ (moved = true ∨ (s.group g).lastRetrain + (s.group g).retrainMs * 10 ^ 6 ≤ s.core.now)) ∧
  (∃ (s : State) (g t : Nat), g < 2 ∧ (s.group g).retrainDue = some t ∧ t + 50 * 10 ^ 6 ≤ s.core.now) :=
⟨⟨upG fun m => { m with pendingSlots := some [] }, 0, [], by decide +kernel⟩,
  ⟨up, 0, .srDeep, by decide +kernel⟩,
  ⟨upG fun m => { m with st := .sr, queue := [aReq] }, 0, by decide +kernel⟩,
  ⟨upG fun m => { m with st := .sr, exiting := true }, 0, by decide +kernel⟩,
  ⟨up, 1, 3, by decide +kernel⟩,
  ⟨up, 1, false, by decide +kernel⟩,
  ⟨upG fun m => { m with retrainDue := some 0 }, 0, 0, by decide +kernel⟩⟩

/-- The premises of MemoryGroupsComplete (MemoryErrorsComplete) are met. -/
theorem witness_MemoryErrorsComplete :
  (∃ (s : State) (g c : Nat), g < 2 ∧ c < 8 ∧ (s.group g).st.serves = true ∧ (s.group g).ceTimes = [] ∧ 1 ≤ (s.group g).ceLimit) ∧
  (∃ (s : State) (g : Nat) (_ : List Nat), g < 2 ∧ (s.group g).st.serves = true) ∧
  (∃ (_ : State) (g _ : Nat), g < 2) ∧
  (∃ (_ : State) (g _ _ _ _ : Nat) (_ : Option Nat) (_ : Nat), g < 2) ∧
  (∃ (s : State) (g : Nat), g < 2 ∧ (s.group g).st = .training ∧ Tbl.at s.pwr.dom .off (5 + g) = .on) ∧
  (∃ (s : State) (g passed : Nat), g < 2 ∧ (s.group g).st = .training ∧ Tbl.at s.pwr.dom .off (5 + g) = .on ∧ passed < 255) ∧
  (∃ (s : State) (g : Nat) (bad : List Nat), g < 2 ∧ (s.group g).st = .recovering ∧ (retirePages (s.group g).badPages bad).length ≤ 256) :=
⟨⟨up, 1, 7, by decide +kernel⟩,
  ⟨up, 1, [64], by decide +kernel⟩,
  ⟨up, 1, 64, by decide +kernel⟩,
  ⟨up, 1, 2, 3, 8, 64, some 1, 1, by decide +kernel⟩,
  ⟨upG fun m => { m with st := .training }, 0, by decide +kernel⟩,
  ⟨upG fun m => { m with st := .training }, 0, 254, by decide +kernel⟩,
  ⟨upG fun m => { m with st := .recovering }, 0, [64], by decide +kernel⟩⟩

/-- The premises of SurfaceCommandsComplete are met. -/
theorem witness_SurfaceCommandsComplete :
  Meets cmdSurfaceRegister .served (fun z _ p => ∃ a n, z.srf.firstFit (pkF p 0 5 0) (pkF p 0 18 18) (regShape p).units = some a ∧ Tbl.lowestFree z.srf.surfs (2 ^ 20) 0 = some n) ∧
  Meets cmdPoolSet .served (fun _ _ _ => True) ∧
  Meets cmdSurfaceMap .served (fun _ _ _ => True) ∧
  Meets cmdSurfaceUnmap .served (fun _ _ _ => True) ∧
  Meets cmdSurfaceMirror .served (fun z _ p => (z.target p).isSome ∧ pkW p 0 = 0) ∧
  Meets cmdSurfaceMirror .served (fun z _ p => pkW p 0 ≠ 0 ∧ ∃ sf, z.target p = some sf ∧ sf.mirror = none) ∧
  Meets cmdSurfacePalette .served (fun z w p => ∃ bs, (z.hostRead w (pkW p 0) 1024).2 = .ok bs) ∧
  Meets cmdSurfaceGrant .served (fun _ _ p => pkF p 0 5 0 ≠ 0) :=
⟨meets _ _ _ (upR fun r => { r with pools := [(2, { first := 0, size := 64 })] }) (vf) (pk 0x0200 dev [1 + 256 + 16 * 2 ^ 32 + 16 * 2 ^ 48, 0]) (by decide +kernel) (⟨_, _, gt (by decide +kernel), gt (by decide +kernel)⟩) (⟨_, _, gt (by decide +kernel), gt (by decide +kernel)⟩),
  meets _ _ _ (up) (pf) (pk 0x0207 dev [1, 0, 64]) (by decide +kernel) (trivial) (trivial),
  meets _ _ _ (surfs [(3, aSurf)]) (vf) (pk 0x0203 (surfU 3) [surfU 3, 0, 65536]) (by decide +kernel) (trivial) (trivial),
  meets _ _ _ (upR fun r => { r with maps := [aMap] }) (vf) (pk 0x0204 dev [0]) (by decide +kernel) (trivial) (trivial),
  meets _ _ _ (surfs [(3, mirrored)]) (vf) (pk 0x0205 (surfU 3) [0]) (by decide +kernel) (by decide +kernel) (by decide +kernel),
  meets _ _ _ (upR fun r => { r with surfs := [(3, aSurf)], pools := [(3, { first := 0, size := 64 })] }) (vf) (pk 0x0205 (surfU 3) [1]) (by decide +kernel) (⟨by decide, _, gt (by decide +kernel), by decide +kernel⟩) (⟨by decide, _, gt (by decide +kernel), by decide +kernel⟩),
  meets _ _ _ (surfs [(3, { aSurf with format := 9 })]) (vf) (pk 0x0206 (surfU 3) [0x1000]) (by decide +kernel) (okOf (by decide +kernel)) (okOf (by decide +kernel)),
  meets _ _ _ (surfs [(3, aSurf)]) (vf) (pk 0x0208 (surfU 3) [63 + 256]) (by decide +kernel) (by decide +kernel) (by decide +kernel)⟩

/-- The premises of SurfaceCopiesAndEventsComplete (SurfaceFreeAndCopyComplete) are met. -/
theorem witness_SurfaceFreeAndCopyComplete :
  Meets cmdSurfaceFree .served (fun z _ p => (∃ sf, Tbl.find z.srf.surfs (uNum (pkUnit p)) = some sf ∧ sf.locked = false) ∧ z.srf.copies.any (fun c => c.surf == uNum (pkUnit p)) = false) ∧
  Meets cmdSurfaceCopy .served (fun z _ p => ∃ sf b, z.target p = some sf ∧ z.readBase sf = some b) ∧
  (∃ (s : State) (work _ : Nat) (c : CopyRun), s.srf.copies.find? (fun x => x.work == work) = some c) ∧
  (∃ (s : State) (work n : Nat) (sf : Surf), s.srf.mirrorCopies.find? (fun e => e.1 == work) = some (work, n) ∧ Tbl.find s.srf.surfs n = some sf) ∧
  (∃ (s : State) (n : Nat) (sf : Surf), Tbl.find s.srf.surfs n = some sf ∧ (s.group 0).st.serves = true ∧ (s.group 1).st.serves = true ∧ (sf.homeStale = true ∨ sf.mirrorStale = true)) :=
⟨meets _ _ _ (surfs [(3, aSurf)]) (vf) (pk 0x0201 (surfU 3) []) (by decide +kernel) (⟨⟨_, gt (by decide +kernel), by decide +kernel⟩, by decide +kernel⟩) (⟨⟨_, gt (by decide +kernel), by decide +kernel⟩, by decide +kernel⟩),
  meets _ _ _ (surfs [(3, aSurf)]) (vf) (pk 0x0202 (surfU 3) [surfU 3, 0x1000, 64, 4 * 2 ^ 32 + 4 * 2 ^ 48]) (by decide +kernel) (⟨_, _, gt (by decide +kernel), gt (by decide +kernel)⟩) (⟨_, _, gt (by decide +kernel), gt (by decide +kernel)⟩),
  ⟨upR fun r => { r with copies := [aCopy] }, 9, 0, aCopy, by decide +kernel⟩,
  ⟨upR fun r => { r with mirrorCopies := [(9, 3)], surfs := [(3, mirrored)] }, 9, 3, mirrored, by decide +kernel⟩,
  ⟨surfs [(3, { mirrored with mirrorStale := true })], 3, { mirrored with mirrorStale := true }, by decide +kernel⟩⟩

/-- The premises of SurfaceCopiesAndEventsComplete (ApertureAndReferenceEventsComplete) are met. -/
theorem witness_ApertureAndReferenceEventsComplete :
  (∃ (s : State) (inst off size : Nat) (m : Mapping) (sf : Surf), s.mapOf inst off size = some m ∧ Tbl.find s.srf.surfs m.surf = some sf ∧ s.permits 15 false (sf.homeBase + (m.surfOff + (off - m.offset))) = true) ∧
  (∃ (s : State) (inst off size : Nat), s.mapOf inst off size = none) ∧
  (∃ (s : State) (inst off : Nat) (bytes : List Byte) (m : Mapping) (sf : Surf), s.mapOf inst off bytes.length = some m ∧ Tbl.find s.srf.surfs m.surf = some sf ∧ sf.locked = false) ∧
  (∃ (s : State) (inst off : Nat) (bytes : List Byte) (m : Mapping) (sf : Surf), s.mapOf inst off bytes.length = some m ∧ Tbl.find s.srf.surfs m.surf = some sf ∧ sf.locked = true) ∧
  (∃ (s : State) (f : Nat) (fr : Frond) (o : Nat) (out : Outp), s.frond f = some fr ∧ s.outOf f = some (o, out) ∧ (out.latches = false ∨ fr.next.isSome = true)) :=
⟨⟨upR fun r => { r with surfs := [(3, aSurf)], maps := [aMap] }, 1, 65532, 4, aMap, aSurf, by decide +kernel⟩,
  ⟨up, 1, 0, 4, by decide +kernel⟩,
  ⟨upR fun r => { r with surfs := [(3, aSurf)], maps := [aMap] }, 1, 65535, [1], aMap, aSurf, by decide +kernel⟩,
  ⟨upR fun r => { r with surfs := [(3, locked)], maps := [aMap] }, 1, 0, [1], aMap, locked, by decide +kernel⟩,
  ⟨upF fun r => { r with fronds := [(0, { aFrond with next := some aScene })] }, 0, { aFrond with next := some aScene }, 0, anOut, by decide +kernel⟩⟩

/-- The premises of LayerCommandsComplete are met. -/
theorem witness_LayerCommandsComplete :
  Meets cmdLayerCommit .served (fun z _ p => ∃ k, pkSlot p = some k ∧ (uCls (pkDesc p).source = 0x11 → z.lockFull (uNum (pkDesc p).source) = false)) ∧
  Meets cmdLayerCommit .served (fun z _ p => pkSlot p = none ∧ (∃ k, z.pickSlot (uIdx (pkUnit p)) (pkDesc p).scalable = some k) ∧ (uCls (pkDesc p).source = 0x11 → z.lockFull (uNum (pkDesc p).source) = false)) ∧
  Meets cmdLayerPost .served (fun z _ p => (∃ l, z.layer (pkUnit p) = some l ∧ l.removing = none ∧ l.posts.length < 4) ∧ z.lockFull (uNum (pkW p 0)) = false) ∧
  Meets cmdLayerRemove .served (fun z _ p => ∃ l, z.layer (pkUnit p) = some l ∧ l.removing = none) ∧
  Meets cmdFrondApply .served (fun z w p => ∃ fr, z.frond (uIdx (pkUnit p)) = some fr ∧ fr.stagedBy w = []) ∧
  Meets cmdFrondApply .served (fun z w p => ∃ fr, z.frond (uIdx (pkUnit p)) = some fr ∧ fr.stagedBy w ≠ [] ∧ z.stagedRefusal w (fr.stagedBy w) = none) :=
⟨meets _ _ _ (upF id) (vf) (pk 0x0300 (uid 0x21 0 0) descW) (by decide +kernel) (⟨0, by decide +kernel⟩) (⟨0, by decide +kernel⟩),
  meets _ _ _ (upF id) (vf) (pk 0x0300 (uid 0x20 0 0) descW) (by decide +kernel) (⟨by decide +kernel, ⟨_, gt (by decide +kernel)⟩, by decide +kernel⟩) (⟨by decide +kernel, ⟨_, gt (by decide +kernel)⟩, by decide +kernel⟩),
  meets _ _ _ (upF id) (vf) (pk 0x0301 (uid 0x21 0 0) [surfU 3]) (by decide +kernel) (⟨⟨_, gt (by decide +kernel), by decide +kernel⟩, by decide +kernel⟩) (⟨⟨_, gt (by decide +kernel), by decide +kernel⟩, by decide +kernel⟩),
  meets _ _ _ (upF id) (vf) (pk 0x0302 (uid 0x21 0 0) []) (by decide +kernel) (⟨_, gt (by decide +kernel), by decide +kernel⟩) (⟨_, gt (by decide +kernel), by decide +kernel⟩),
  meets _ _ _ (upF id) (vf) (pk 0x0303 (uid 0x20 0 0) []) (by decide +kernel) (⟨_, gt (by decide +kernel), by decide +kernel⟩) (⟨_, gt (by decide +kernel), by decide +kernel⟩),
  meets _ _ _ (upF fun r => { r with fronds := [(0, { aFrond with staged := [aCommit] })] }) (vf) (pk 0x0303 (uid 0x20 0 0) []) (by decide +kernel) (⟨_, gt (by decide +kernel), by decide +kernel⟩) (⟨_, gt (by decide +kernel), by decide +kernel⟩)⟩

/-- The premises of FrondCommandsComplete (FrondSettingsComplete) are met. -/
theorem witness_FrondSettingsComplete :
  Meets cmdFrondSet .served (fun _ _ _ => True) ∧
  Meets cmdScalerCoefLoad .served (fun z _ p => bitOf (pkW p 1) 0 = true ∧ (Tbl.find z.frd.layers (subKey (pkUnit p))).bind (fun l => l.coef.pending) = none) ∧
  Meets cmdToneLoad .served (fun z w p => z.leased (pkUnit p) = false ∧ (∃ bs, (z.hostRead w (pkW p 0) (toneLen p)).2 = .ok bs) ∧ ((z.hostRead w (pkW p 0) (toneLen p)).1.toneBank (pkUnit p)).bind Bank.pending = none) ∧
  Meets cmdGroupLayerSet .served (fun z _ p => Tbl.find z.frd.glayers (uIdx (pkUnit p)) = none) ∧
  Meets cmdGroupLayerMember .served (fun _ _ _ => True) :=
⟨meets _ _ _ (upF id) (pf) (pk 0x0306 (uid 0x20 0 0) [200 + 200 * 2 ^ 16, 8000]) (by decide +kernel) (trivial) (trivial),
  meets _ _ _ (upF id) (vf) (pk 0x0304 (uid 0x21 0 0) [0, 1]) (by decide +kernel) (by decide +kernel) (by decide +kernel),
  meets _ _ _ (upF id) (pf) (pk 0x0305 (uid 0x22 0 0) [0x1000, 1]) (by decide +kernel) (⟨by decide +kernel, okOf (by decide +kernel), by decide +kernel⟩) (⟨by decide +kernel, okOf (by decide +kernel), by decide +kernel⟩),
  meets _ _ _ (upF id) (vf) (pk 0x0307 (uid 0xF2 0 0) [16 + 16 * 2 ^ 16, surfU 3, surfU 4, 0]) (by decide +kernel) (by decide +kernel) (by decide +kernel),
  meets _ _ _ (upF fun r => { r with glayers := [(0, { aGlayer with inter := [] })] }) (vf) (pk 0x0308 (uid 0xF2 0 0) [surfU 3, 4 * 2 ^ 32 + 4 * 2 ^ 48, 0, 0]) (by decide +kernel) (trivial) (trivial)⟩

/-- The premises of FrondCommandsComplete (GroupLayerPassesComplete) are met. -/
theorem witness_GroupLayerPassesComplete :
  Meets cmdGroupLayerCompose .served (fun z _ p => bitOf (pkW p 0) 0 = false ∧ ∃ g inter, z.glayer (uKey (pkUnit p)) = some g ∧ z.memberBusy g = false ∧ z.freeInter g = some inter ∧ z.lockFull (uNum inter) = false ∧ z.engineFits 1 g.owner (z.glBand (uKey (pkUnit p))) g.cost = true) ∧
  (∃ (s : State) (work : Nat) (ps : Pass) (_ : GLayer), s.frd.passes.find? (fun p => p.work == work) = some ps ∧ ps.nested = []) :=
⟨meets _ _ _ (upF fun r => { r with glayers := [(0, aGlayer)] }) (vf) (pk 0x0309 (uid 0xF2 0 0) [0]) (by decide +kernel) (⟨by decide +kernel, _, surfU 3, gt (by decide +kernel), by decide +kernel⟩) (⟨by decide +kernel, _, surfU 3, gt (by decide +kernel), by decide +kernel⟩),
  ⟨upF fun r => { r with glayers := [(0, aGlayer)], passes := [aPass] }, 9, aPass, aGlayer, by decide +kernel⟩⟩

/-- The premises of OutputCommandsComplete are met. -/
theorem witness_OutputCommandsComplete :
  Meets cmdOutputPrepare .served (fun z _ p => (z.out (pkOut p)).isSome) ∧
  Meets cmdOutputCommit .served (fun z _ p => z.leased (pkUnit p) = false ∧ ∃ x t ws, z.out (pkOut p) = some x ∧ x.modeset = none ∧ x.token = some (t, ws) ∧ x.mode ≠ []) ∧
  Meets cmdOutputCancel .served (fun _ _ _ => True) ∧
  Meets cmdOutputRefresh .served (fun z _ p => ∃ x, z.out (pkOut p) = some x ∧ x.vtNew = none) ∧
  Meets cmdOutputGenlock .served (fun _ _ _ => True) ∧
  Meets cmdWritebackSet .served (fun z _ p => pkF p 0 39 32 = 0 ∧ (z.frond (uIdx (pkUnit p))).isSome) ∧
  MeetsAsk cmdOutputStatus (fun _ _ _ => True) ∧
  MeetsAsk cmdPatrolStatus (fun _ _ _ => True) :=
⟨meets _ _ _ (upF id) (pf) (pk 0x0400 (uid 0x22 1 0) (modeW 1)) (by decide +kernel) (by decide +kernel) (by decide +kernel),
  meets _ _ _ (outX { anOut with token := some (7, modeW 0) }) (pf) (pk 0x0401 (uid 0x22 0 0) [7]) (by decide +kernel) (⟨by decide +kernel, _, 7, modeW 0, gt (by decide +kernel), by decide +kernel⟩) (⟨by decide +kernel, _, 7, modeW 0, gt (by decide +kernel), by decide +kernel⟩),
  meets _ _ _ (upF id) (pf) (pk 0x0402 (uid 0x22 0 0) []) (by decide +kernel) (trivial) (trivial),
  meets _ _ _ (outX { anOut with mode := adaptiveW }) (pf) (pk 0x0403 (uid 0x22 0 0) [600]) (by decide +kernel) (⟨_, gt (by decide +kernel), by decide +kernel⟩) (⟨_, gt (by decide +kernel), by decide +kernel⟩),
  meets _ _ _ (upF id) (pf) (pk 0x0404 (uid 0x22 0 0) [8 * 16 + 256, 0, 0]) (by decide +kernel) (trivial) (trivial),
  meets _ _ _ (upF id) (pf) (pk 0x0406 (uid 0x20 0 0) [2 + 2 ^ 16, 0, 0]) (by decide +kernel) (by decide +kernel) (by decide +kernel),
  meetsAsk _ _ (upF id) (pf) (pk 0x0405 (uid 0x22 0 0) []) (by decide +kernel) (trivial),
  meetsAsk _ _ (upF id) (pf) (pk 0x0407 (uid 0x20 8 0) []) (by decide +kernel) (trivial)⟩

/-- The premises of PatrolFlagAndGenlockEventsComplete (PatrolAndFlagEventsComplete) are met. -/
theorem witness_PatrolAndFlagEventsComplete :
  Meets cmdFrondStandin .served (fun z _ p => pkW p 0 ≠ 0 ∧ z.frd.patrol.st = 1 ∧ z.frd.patrol.pending = []) ∧
  (∃ (s : State), s.frd.patrol.st = 1 ∧ 600 ≤ s.frd.patrol.frames ∧ s.frd.patrol.streak = 0 ∧ s.frd.patrol.pending = []) ∧
  (∃ (s : State), s.frd.patrol.st = 0 ∧ s.frd.patrol.partly = false ∧ s.driving ≠ []) ∧
  (∃ (s : State) (f : Nat), s.frd.patrol.st = 2 ∧ s.frd.patrol.target = f ∧ 1 ≤ s.frd.patrol.cause ∧ s.frd.patrol.cause ≤ 3) ∧
  (∃ (s : State) (f : Nat), s.frd.patrol.st = 2 ∧ s.frd.patrol.target = f ∧ 1 ≤ s.frd.patrol.cause ∧ s.frd.patrol.cause ≤ 3 ∧ s.frd.patrol.pending = []) ∧
  (∃ (s : State) (f _ _ : Nat) (_ : Bool), f < 8 ∧ s.outOf f = none) :=
⟨meets _ _ _ (patrolX fun q => { q with st := 1 }) (pf) (pk 0x0408 (uid 0x20 0 0) [1]) (by decide +kernel) (by decide +kernel) (by decide +kernel),
  ⟨patrolX fun q => { q with st := 1, frames := 600 }, by decide +kernel⟩,
  ⟨upF id, by decide +kernel⟩,
  ⟨patrolX fun q => { q with st := 2, cause := 3 }, 0, by decide +kernel⟩,
  ⟨patrolX fun q => { q with st := 2, cause := 1 }, 0, by decide +kernel⟩,
  ⟨upF id, 7, 0, 0, false, by decide +kernel⟩⟩

/-- The premises of ScanoutEventsComplete are met. -/
theorem witness_ScanoutEventsComplete :
  (∃ (s : State) (o : Nat) (x : Outp), s.out o = some x ∧ x.mode ≠ [] ∧ x.link ≠ 1 ∧ x.modeset.map Modeset.stage = some 2) ∧
  (∃ (s : State) (f line : Nat) (_ : List Nat) (_ : Nat) (_ _ : Bool) (fr : Frond) (o : Nat) (out : Outp), s.frond f = some fr ∧ s.outOf f = some (o, out) ∧ out.black = true ∧ line + 1 < out.vActive) ∧
  (∃ (s : State) (o : Nat) (x : Outp), s.out o = some x) ∧
  (∃ (s : State) (o : Nat) (x : Outp), s.out o = some x ∧ x.link = 2) ∧
  (∃ (s : State) (o : Nat) (x : Outp), s.out o = some x ∧ x.link = 1 ∧ x.modeset = none) ∧
  (∃ (s : State) (o r l : Nat) (x : Outp) (ts : List (Nat × Nat)), s.out o = some x ∧ x.link = 1 ∧ x.modeset = none ∧ (trainOrder (x.rateFor x.mode) (modeLanes x.mode) (x.sink.elim 6 Sink.rate)).find? (fun c => ts.contains c && x.carries c.1 c.2 && decide (c.2 ≤ x.sink.elim 4 Sink.lanes)) = some (r, l)) :=
⟨⟨outX { anOut with modeset := some aModeset }, 0, { anOut with modeset := some aModeset }, by decide +kernel⟩,
  ⟨outX { anOut with black := true }, 0, 478, [], 0, false, false, aFrond, 0, { anOut with black := true }, by decide +kernel⟩,
  ⟨upF id, 0, anOut, by decide +kernel⟩,
  ⟨upF id, 0, anOut, by decide +kernel⟩,
  ⟨outX { anOut with link := 1 }, 0, { anOut with link := 1 }, by decide +kernel⟩,
  ⟨outX { anOut with link := 1 }, 0, 3, 4, { anOut with link := 1 }, [(3, 4)], by decide +kernel⟩⟩

/-- The premises of PatrolFlagAndGenlockEventsComplete (GenlockEventsComplete) are met. -/
theorem witness_GenlockEventsComplete :
  (∃ (s : State) (o : Nat) (x : Outp), s.out o = some x ∧ x.lock = 1 ∧ 16 ≤ x.goodFrames) ∧
  (∃ (s : State) (o : Nat) (x : Outp), s.out o = some x ∧ (x.lock = 1 ∨ x.lock = 2) ∧ s.refMissing x = true) ∧
  (∃ (s : State) (input o : Nat) (x : Outp), s.frd.outs = [(o, x)] ∧ x.source = 2 + input ∧ x.edgeCount + 1 < fld (x.genlock.getD 0 0) 7 4) ∧
  (∃ (s : State) (o lock : Nat) (x : Outp), s.out o = some x ∧ x.lock ≠ lock) :=
⟨⟨outX { anOut with lock := 1, goodFrames := 16 }, 0, { anOut with lock := 1, goodFrames := 16 }, by decide +kernel⟩,
  ⟨{ outX { anOut with lock := 1, genlock := [1, 0, 0] } with ing := { up.ing with ptp := { up.ing.ptp with st := 3 } } }, 0, { anOut with lock := 1, genlock := [1, 0, 0] }, by decide +kernel⟩,
  ⟨outX { anOut with genlock := [2 + 8 * 16, 0, 0] }, 0, 0, { anOut with genlock := [2 + 8 * 16, 0, 0] }, by decide +kernel⟩,
  ⟨upF id, 0, 1, anOut, by decide +kernel⟩⟩

/-- The premises of TagCommandsComplete are met. -/
theorem witness_TagCommandsComplete :
  Meets cmdTagCreate .served (fun z _ p => (pkF p 0 33 32 = 2 → z.sec.run ≠ .restarting) ∧ (freeTagRun z.led.tags (pkF p 0 16 0)).isSome) ∧
  Meets cmdTagSet .served (fun _ _ _ => True) ∧
  MeetsAsk cmdTagSet (fun _ _ _ => True) ∧
  Meets cmdTagRetire .served (fun _ _ _ => True) ∧
  Meets cmdTagGroupSet .served (fun z w p => ∃ bs, (z.hostRead w (pkW p 1) (4 * pkF p 0 10 0)).2 = .ok bs) ∧
  MeetsAsk cmdTagGroupSet (fun _ _ _ => True) ∧
  MeetsAsk cmdLedgerStatus (fun _ w _ => w.inst = 0) ∧
  MeetsAsk cmdLedgerStatus (fun _ w _ => w.inst ≠ 0) :=
⟨meets _ _ _ (up) (vf) (pk 0x0700 dev [1, 1000, 0]) (by decide +kernel) (by decide +kernel) (by decide +kernel),
  meets _ _ _ (upE id) (vf) (pk 0x0701 (tagU 0) [0, 1000]) (by decide +kernel) (trivial) (trivial),
  meetsAsk _ _ (upE id) (vf) (ask 0x0701 (tagU 0) [0x1000, 1]) (by decide +kernel) (trivial),
  meets _ _ _ (upE id) (vf) (pk 0x0702 (tagU 0) []) (by decide +kernel) (trivial) (trivial),
  meets _ _ _ ({ upE id with core := { up.core with host := Memory.wrN [] 0x1000 (le 4 (tagU 0)) } }) (vf) (pk 0x0704 (uid 0xF5 0 0) [1, 0x1000]) (by decide +kernel) (okOf (by decide +kernel)) (okOf (by decide +kernel)),
  meetsAsk _ _ (upC fun c => { c with groups := [(uid 0xF5 0 0, { aGroup with owner := 1 })] }) (vf) (ask 0x0704 (uid 0xF5 0 0) [0x1000, 64]) (by decide +kernel) (trivial),
  meetsAsk _ _ (upE id) (pf) (pk 0x0720 dev []) (by decide +kernel) (by decide +kernel),
  meetsAsk _ _ (upE id) (vf) (pk 0x0720 dev []) (by decide +kernel) (by decide +kernel)⟩

/-- The premises of RefreshesComplete are met. -/
theorem witness_RefreshesComplete :
  Meets cmdRefresh .served (fun z w p => (z.refreshEntries w p).2.1 = pkF p 0 63 56) ∧
  (∃ (s : State) (tag r stamp : Nat) (_ : Bool) (t : Tag), Tbl.find s.led.tags tag = some t ∧ t.path = 1 ∧ t.source = r ∧ t.st = .live ∧ atOrAfter t.last (stamp % 2 ^ 48) = false ∧ atOrAfter s.ledgerNow ((stamp % 2 ^ 48 + 1000 * t.maxAge) % 2 ^ 48 + 1) = false) ∧
  (∃ (s : State) (tag r _ : Nat) (_ : Bool) (t : Tag), Tbl.find s.led.tags tag = some t ∧ (t.path ≠ 1 ∨ uKey t.source ≠ uKey r)) ∧
  (∃ (s : State) (tag r stamp : Nat) (t : Tag), Tbl.find s.led.tags tag = some t ∧ t.path = 1 ∧ t.source = r ∧ t.st = .frozen ∧ atOrAfter s.ledgerNow ((stamp % 2 ^ 48 + 1000 * t.maxAge) % 2 ^ 48 + 1) = false) ∧
  (∃ (s : State) (tag region stamp : Nat) (t : Tag), Tbl.find s.led.tags tag = some t ∧ t.path = 2 ∧ t.source = region ∧ t.st = .unbound ∧ atOrAfter s.ledgerNow ((stamp % 2 ^ 48 + 1000 * t.maxAge) % 2 ^ 48 + 1) = false) ∧
  (∃ (s : State) (n : Nat) (r : Recv), Tbl.find s.ing.recvs n = some r ∧ r.st = 3) ∧
  (∃ (s : State) (n _ tag : Nat) (t : Tag), s.tagsFrom 1 n = [tag] ∧ Tbl.find s.led.tags tag = some t ∧ t.st = .live) ∧
  (∃ (s : State) (n : Nat) (t : Tag), Tbl.find s.led.tags n = some t ∧ t.notify = false) :=
⟨meets _ _ _ (upE id) (vf) (pk 0x0703 dev [2 ^ 56, 0]) (by decide +kernel) (by decide +kernel) (by decide +kernel),
  ⟨tagX { aTag with path := 1 }, 0, 0, 1099511627, false, { aTag with path := 1 }, by decide +kernel⟩,
  ⟨tagX aTag, 0, 0, 1099511627, false, aTag, by decide +kernel⟩,
  ⟨tagX { aTag with path := 1, st := .frozen }, 0, 0, 1099511627, { aTag with path := 1, st := .frozen }, by decide +kernel⟩,
  ⟨tagX { aTag with path := 2, st := .unbound }, 0, 0, 1099511627, { aTag with path := 2, st := .unbound }, by decide +kernel⟩,
  ⟨{ up with ing := { up.ing with recvs := [(63, { Recv.closed with st := 3 })] } }, 63, { Recv.closed with st := 3 }, by decide +kernel⟩,
  ⟨tagX { aTag with path := 1 }, 0, 2, 0, { aTag with path := 1 }, by decide +kernel⟩,
  ⟨tagX aTag, 0, aTag, by decide +kernel⟩⟩

/-- The premises of LiveRegionsComplete are met. -/
theorem witness_LiveRegionsComplete :
  Meets cmdRegionCreate .served (fun z _ _ => z.sec.run ≠ .restarting ∧ (Tbl.lowestFree z.led.regions 65536 0).isSome) ∧
  Meets cmdRegionBind .served (fun z _ _ => z.sec.run ≠ .restarting) ∧
  MeetsAsk cmdRegionBind (fun z _ p => ∃ r, z.region p = some r) ∧
  Meets cmdRegionRemove .served (fun _ _ _ => True) ∧
  (∃ (s : State) (n : Nat) (r : LRegion), Tbl.find s.led.regions n = some r ∧ r.tied = false ∧ s.calcEr r ≠ (r.er, r.erNow, r.frozenBadge)) ∧
  (∃ (s : State) (region f o : Nat) (r : LRegion) (fr : Frond) (sc : Scene) (out : Outp) (rc : Rect), uCls region = 0x51 ∧ Tbl.find s.led.regions (uNum region) = some r ∧ s.frondOfPlace r.place = f ∧ s.frond f = some fr ∧ fr.sceneFor r.veil.decided = some (sc, true) ∧ s.outOf f = some (o, out) ∧ sc.rectOf (uKey region) = some rc ∧ r.veil.veiled = false) ∧
  (∃ (s : State) (up : Bool), s.led.hostLink ≠ up) :=
⟨meets _ _ _ (upE id) (vf) (pk 0x0710 (uid 0x21 0 0) [0, 16 * 2 ^ 32 + 16 * 2 ^ 48, tagU 0, 0, 0, 0]) (by decide +kernel) (by decide +kernel) (by decide +kernel),
  meets _ _ _ (regionX aRegion) (vf) (pk 0x0711 (uidN 0x51 0) [0, 0, tagU 0, 0, 0, 0]) (by decide +kernel) (by decide +kernel) (by decide +kernel),
  meetsAsk _ _ (regionX aRegion) (vf) (ask 0x0711 (uidN 0x51 0) []) (by decide +kernel) (⟨_, gt (by decide +kernel)⟩),
  meets _ _ _ (regionX aRegion) (vf) (pk 0x0712 (uidN 0x51 0) []) (by decide +kernel) (trivial) (trivial),
  ⟨regionX aRegion, 0, aRegion, by decide +kernel⟩,
  ⟨{ regionX aRegion with frd := { (regionX aRegion).frd with fronds := [(0, { aFrond with scan := some { aScene with drawn := [(uidN 0x51 0, 0, 0, 16, 16)] } })] } }, uidN 0x51 0, 0, 0, aRegion, { aFrond with scan := some { aScene with drawn := [(uidN 0x51 0, 0, 0, 16, 16)] } }, { aScene with drawn := [(uidN 0x51 0, 0, 0, 16, 16)] }, anOut, (0, 0, 16, 16), by decide +kernel⟩,
  ⟨up, true, by decide +kernel⟩⟩

/-- The premises of RegistersComplete are met. -/
theorem witness_RegistersComplete :
  (∃ (s : State) (n v : Nat), n < 16 ∧ v < 2 ^ 32 ∧ s.led.veilLock = false) ∧
  (∃ (_ : State) (v : Nat), v < 2 ^ 32) ∧
  (∃ (_ : State) (k v : Nat), k < 7 ∧ v < 2 ^ 32) ∧
  (∃ (_ : State) (off lo hi : Nat), off % 4 = 0 ∧ off < 0x800000 ∧ lo < 2 ^ 32 ∧ hi < 2 ^ 32) ∧
  (∃ (_ : State) (off _ : Nat), off % 4 ≠ 0) ∧
  (∃ (s : State) (off v : Nat), off < 0x800000 ∧ off / 0x10000 ≠ 12 ∧ s.canvasSecure off = false ∧ s.canvas64 off = some v) ∧
  (∃ (s : State) (off _ : Nat), 0x10000000 ≤ off ∧ off < 0x10800000 ∧ bitOf s.sec.dbgEnables 0 = false) ∧
  (∃ (s : State) (off _ : Nat), 0x10000000 ≤ off ∧ off < 0x10800000 ∧ bitOf s.sec.dbgEnables 1 = true) :=
⟨⟨up, 15, 2 ^ 32 - 1, by decide +kernel⟩,
  ⟨up, 2 ^ 32 - 1, by decide +kernel⟩,
  ⟨up, 6, 1, by decide +kernel⟩,
  ⟨up, 0x7FFFFC, 1, 2 ^ 32 - 1, by decide +kernel⟩,
  ⟨up, 3, 1, by decide +kernel⟩,
  ⟨up, 0x30000, 0, by decide +kernel⟩,
  ⟨up, 0x107FFFFF, 0, by decide +kernel⟩,
  ⟨upS fun x => { x with dbgEnables := 2 }, 0x10000000, 5, by decide +kernel⟩⟩

/-- The premises of SignedRegionsComplete are met. -/
theorem witness_SignedRegionsComplete :
  Meets cmdSigRegionSet .served (fun z _ p => uCls (pkUnit p) = 0x52 ∨ (Tbl.lowestFree z.led.sregs 64 (uIdx (pkUnit p) * 256)).isSome) ∧
  Meets cmdSigRegionRemove .served (fun _ _ _ => True) ∧
  Meets cmdSigExpect .served (fun z w p => (z.expectAll w p (pkF p 0 7 0)).2 = (pkF p 0 7 0, none) ∧ (z.expectAll w p (pkF p 0 7 0)).1.expectFull = none) ∧
  Meets cmdSigClear .served (fun z _ p => ∃ r, z.sreg (pkUnit p) = some r ∧ r.st = .latched) ∧
  Meets cmdSigClear .served (fun z _ p => ∃ r, z.sreg (pkUnit p) = some r ∧ r.st ≠ .latched) ∧
  MeetsAsk cmdSigStatus (fun z w p => ∃ r, z.sreg (pkUnit p) = some r ∧ r.mine w = true) ∧
  (∃ (s : State) (u : Nat) (r : SRegion) (x : SigRec), s.sreg (uKey u) = some r ∧ r.waiting = true ∧ (r.consume (r.crcFrame % 2 ^ 32)).used = some x ∧ r.drawn.isSome = true ∧ r.st = .checking ∧ r.moving = false ∧ r.layerRepeat = false ∧ s.frond (uIdx (uKey u)) = none ∧ s.tagsFrom 2 (uKey u) = [] ∧ x.expected = r.crc) ∧
  (∃ (s : State) (u : Nat) (r : SRegion) (x : SigRec), s.sreg (uKey u) = some r ∧ r.waiting = true ∧ (r.consume (r.crcFrame % 2 ^ 32)).used = some x ∧ r.drawn.isSome = true ∧ r.st = .checking ∧ r.moving = false ∧ r.layerRepeat = false ∧ s.frond (uIdx (uKey u)) = none ∧ x.expected ≠ r.crc) ∧
  (∃ (s : State) (u : Nat), (∀ r, s.sreg (uKey u) = some r → r.waiting = false)) :=
⟨meets _ _ _ (sigX checking) (vf) (pk 0x0800 (uid 0x20 0 0) [uid 0x21 0 0, 8 * 2 ^ 32 + 8 * 2 ^ 48]) (by decide +kernel) (by decide +kernel) (by decide +kernel),
  meets _ _ _ (sigX checking) (vf) (pk 0x0801 sregU []) (by decide +kernel) (trivial) (trivial),
  meets _ _ _ (sigX checking) (vf) (pk 0x0802 dev [1, sregU + 2 ^ 32, 7]) (by decide +kernel) (by decide +kernel) (by decide +kernel),
  meets _ _ _ (sigX { checking with st := .latched }) (secWho) (pk 0x0803 sregU []) (by decide +kernel) (⟨_, gt (by decide +kernel), by decide +kernel⟩) (⟨_, gt (by decide +kernel), by decide +kernel⟩),
  meets _ _ _ (sigX checking) (secWho) (pk 0x0803 sregU []) (by decide +kernel) (⟨_, gt (by decide +kernel), by decide +kernel⟩) (⟨_, gt (by decide +kernel), by decide +kernel⟩),
  meetsAsk _ _ (sigX checking) (vf) (pk 0x0804 sregU []) (by decide +kernel) (⟨_, gt (by decide +kernel), by decide +kernel⟩),
  ⟨noFrond (sigX checking), sregU, checking, { frame := 1, expected := 7, alive := 0, sticky := false }, by decide +kernel⟩,
  ⟨noFrond (sigX { checking with crc := 8 }), sregU, { checking with crc := 8 }, { frame := 1, expected := 7, alive := 0, sticky := false }, by decide +kernel⟩,
  ⟨sigX { checking with waiting := false }, sregU, forSome (by decide +kernel)⟩⟩

/-- The premises of CheckEnginesComplete are met. -/
theorem witness_CheckEnginesComplete :
  Meets cmdChkScan .served (fun z _ p => (z.engine (uIdx (pkUnit p))).mode = 0 ∧ (scanSpace p = 0 → ∀ sf, z.surf (pkF p 1 31 0) = some sf → sf.written = false ∧ z.lockFull (uNum (pkF p 1 31 0)) = false)) ∧
  Meets cmdChkCancel .served (fun z _ p => (z.engine (uIdx (pkUnit p))).mode = 2 ∧ (z.engine (uIdx (pkUnit p))).running = true) ∧
  Meets cmdChkCancel .served (fun z _ p => (z.engine (uIdx (pkUnit p))).mode = 2 ∧ (z.engine (uIdx (pkUnit p))).running = false) ∧
  Meets cmdChkCancel .served (fun z _ p => (z.engine (uIdx (pkUnit p))).mode ≠ 2) ∧
  MeetsAsk cmdChkStatus (fun _ _ _ => True) ∧
  (∃ (s : State) (e : Nat) (c : Scan) (bs : List Byte), (s.engine e).scan = some c ∧ (s.engine e).running = true ∧ (s.scanBytes c).2 = .ok bs) ∧
  (∃ (s : State) (e : Nat) (c : Scan) (r : Rsp), (s.engine e).scan = some c ∧ (s.engine e).running = true ∧ (s.scanBytes c).2 = .error r) ∧
  (∃ p : Packet, pkF p 0 1 0 ≠ 3 ∧ bitOf (pkW p 0) 3 = false) ∧
  (∃ (s : State) (e : Nat) (c q : Scan), (s.engine e).scan = some c ∧ (s.engine e).mode = 2 ∧ (s.engine e).running = false ∧ (s.engine e).began + pkF c.pk 3 47 32 * 10 ^ 6 ≤ s.core.now ∧ (s.engine e).queued = some q) ∧
  (∃ (s : State) (e : Nat) (c : Scan), (s.engine e).scan = some c ∧ (s.engine e).mode = 2 ∧ (s.engine e).running = false ∧ (s.engine e).began + pkF c.pk 3 47 32 * 10 ^ 6 ≤ s.core.now ∧ (s.engine e).queued = none) :=
⟨meets _ _ _ (engX idleEngine) (vf) (scanP) (by decide +kernel) (⟨by decide +kernel, fun _ => forSome (by decide +kernel)⟩) (⟨by decide +kernel, fun _ => forSome (by decide +kernel)⟩),
  meets _ _ _ (engX { periodic with running := true }) (vf) (pk 0x0811 (uid 0x53 0 0) []) (by decide +kernel) (by decide +kernel) (by decide +kernel),
  meets _ _ _ (engX periodic) (vf) (pk 0x0811 (uid 0x53 0 0) []) (by decide +kernel) (by decide +kernel) (by decide +kernel),
  meets _ _ _ (engX { periodic with mode := 1, running := true }) (vf) (pk 0x0811 (uid 0x53 0 0) []) (by decide +kernel) (by decide +kernel) (by decide +kernel),
  meetsAsk _ _ (engX periodic) (vf) (pk 0x0812 (uid 0x53 0 0) []) (by decide +kernel) (trivial),
  ⟨engX { periodic with running := true }, 0, aScan, List.replicate 64 0, by decide +kernel⟩,
  ⟨{ engX { periodic with running := true } with mem := { up.mem with a := { okGroup with st := .frozen } } }, 0, aScan, Rsp.code .failedMemory 0, by decide +kernel⟩,
  ⟨scanP, by decide +kernel⟩,
  ⟨engX { periodic with queued := some aScan }, 0, aScan, aScan, by decide +kernel⟩,
  ⟨engX periodic, 0, aScan, by decide +kernel⟩⟩

/-- The premises of RasterComplete are met. -/
theorem witness_RasterComplete :
  Meets cmdRasterJob .served (fun z w p =>
      let j := z.bindJob (jobOf z.core.nextWork w p)
      let z1 : State := { z with core := { z.core with nextWork := z.core.nextWork + 1 }, ras := { z.ras with jobs := z.ras.jobs ++ [j] } }
      z.rjob z.core.nextWork = none ∧ z1.canHold j = true ∧ (z1.takeJob z.core.nextWork).engineFits 0 w.inst j.band j.cost = true) ∧
  Meets cmdRasterCancel .served (fun _ _ _ => True) ∧
  Meets cmdRasterCombinerLoad .served (fun z w p => (∃ bs, (z.hostRead w (pkW p 1) 72).2 = .ok bs) ∧ ((z.hostRead w (pkW p 1) 72).1.ras.jobs.any (fun j => j.who.inst == w.inst && j.bound)) = false) ∧
  Meets cmdRasterCombinerLoad .delayedUnitBusy (fun z w p => (∃ bs, (z.hostRead w (pkW p 1) 72).2 = .ok bs) ∧ ((z.hostRead w (pkW p 1) 72).1.ras.jobs.any (fun j => j.who.inst == w.inst && j.bound)) = true) ∧
  MeetsAsk cmdRasterStatus (fun _ _ _ => True) ∧
  (∃ (s : State) (j : RJob), s.ras.jobs = [j] ∧ j.holds = true ∧ j.admitted = true ∧ j.started = false ∧ j.stopped = false) ∧
  (∃ (s : State) (core _ _ : Nat) (c : RCore) (j : RJob) (sf : Surf), Tbl.find s.ras.cores core = some c ∧ s.rjob c.work = some j ∧ s.surf j.target = some sf) ∧
  (∃ (s : State) (work _ : Nat) (j : RJob), s.rjob work = some j ∧ j.started = true ∧ j.stopped = false ∧ (∀ t n, j.todo t n = [])) ∧
  (∃ (s : State) (work _ : Nat) (j : RJob), s.rjob work = some j ∧ j.started = true ∧ j.stopped = false ∧ (boxTiles (s.perRow j) j.scissor).any (fun t => (j.todo t j.items.length).any (fun it => boxHas (s.perRow j) it.box t)) = true) :=
⟨meets _ _ _ (rasX id) (vf) (jobP) (by decide +kernel) (by dsimp only; decide +kernel) (by dsimp only; decide +kernel),
  meets _ _ _ (rasX fun r => { r with jobs := [aJob] }) (vf) (pk 0x0501 (uid 0x30 0 0) [7, 0]) (by decide +kernel) (trivial) (trivial),
  meets _ _ _ (rasX id) (vf) (pk 0x0502 (uid 0x30 0 0) [14, 0x1000]) (by decide +kernel) (⟨okOf (by decide +kernel), by decide +kernel⟩) (⟨okOf (by decide +kernel), by decide +kernel⟩),
  meets _ _ _ (rasX fun r => { r with jobs := [aJob] }) (vf) (pk 0x0502 (uid 0x30 0 0) [0, 0x1000]) (by decide +kernel) (⟨okOf (by decide +kernel), by decide +kernel⟩) (⟨okOf (by decide +kernel), by decide +kernel⟩),
  meetsAsk _ _ (rasX id) (vf) (pk 0x0503 (uid 0x30 0 0) []) (by decide +kernel) (trivial),
  ⟨rasX fun r => { r with jobs := [aJob] }, aJob, by decide +kernel⟩,
  ⟨rasX fun r => { r with jobs := [aJob], cores := [(0, { work := 9, tile := 0, flush := false })] }, 0, 1, 0, { work := 9, tile := 0, flush := false }, aJob, aSurf, by decide +kernel⟩,
  ⟨rasX fun r => { r with jobs := [{ aJob with started := true }] }, 9, 1, { aJob with started := true }, by decide +kernel, rfl, rfl, fun t n => by simp [RJob.todo, aJob, jobOf]⟩,
  ⟨rasX fun r => { r with jobs := [{ aJob with started := true, items := [anItem] }] }, 9, 1, { aJob with started := true, items := [anItem] }, by decide +kernel⟩⟩

/-- The premises of IngestCommandsComplete are met. -/
theorem witness_IngestCommandsComplete :
  Meets cmdIngestPortSet .served (fun z _ p => z.portOpen (uIdx (pkUnit p)) = false ∧ bitOf (pkW p 0) 16 = true) ∧
  Meets cmdIngestAssign .served (fun z _ p => pkF p 0 6 6 = 0 ∧ ∃ x, z.recv (uIdx (pkUnit p)) = some x ∧ x.st = 0 ∧ x.closing = none ∧ x.owner ≠ some (pkF p 0 5 0)) ∧
  Meets cmdIngestAssign .served (fun z _ p => pkF p 0 6 6 = 1 ∧ ∃ x, z.recv (uIdx (pkUnit p)) = some x ∧ x.st = 0 ∧ x.closing = none) ∧
  Meets cmdStreamOpen .served (fun _ _ _ => True) ∧
  Meets cmdStreamClose .served (fun z _ p => ∃ x, z.recv (uIdx (pkUnit p)) = some x ∧ x.st = 0 ∧ x.closing = none) ∧
  Meets cmdStreamClose .served (fun z _ p => (∃ x, z.recv (uIdx (pkUnit p)) = some x ∧ x.st ≠ 0 ∧ x.frames = []) ∧ ((z.closeRecv (uIdx (pkUnit p)) false).recv (uIdx (pkUnit p))).elim false (fun x => x.closing.isSome) = false) ∧
  Meets cmdStreamClose .served (fun z _ p => ∃ x, z.recv (uIdx (pkUnit p)) = some x ∧ x.st ≠ 0 ∧ x.frames ≠ [] ∧ x.closing = none) ∧
  Meets cmdStreamDeclare .served (fun _ _ _ => True) ∧
  Meets cmdStreamRoute .served (fun z _ p => pkF p 0 32 32 = 0 ∧ (∀ o ∈ (pkRecv z p).routes, o.layer ≠ pkF p 0 31 0) ∧ (∀ e ∈ z.ing.recvs, ∀ o ∈ e.2.routes, o.layer ≠ pkF p 0 31 0)) ∧
  MeetsAsk cmdStreamStatus (fun _ _ _ => True) ∧
  Meets cmdPtpSet .served (fun _ _ _ => True) :=
⟨meets _ _ _ (up) (pf) (pk 0x0600 (uid 0x40 3 0) [2 ^ 16, 0, 0]) (by decide +kernel) (by decide +kernel) (by decide +kernel),
  meets _ _ _ (recvX Recv.closed) (pf) (pk 0x0601 (uid 0x41 0 0) [1]) (by decide +kernel) (⟨by decide +kernel, _, gt (by decide +kernel), by decide +kernel⟩) (⟨by decide +kernel, _, gt (by decide +kernel), by decide +kernel⟩),
  meets _ _ _ (recvX Recv.closed) (pf) (pk 0x0601 (uid 0x41 0 0) [64]) (by decide +kernel) (⟨by decide +kernel, _, gt (by decide +kernel), by decide +kernel⟩) (⟨by decide +kernel, _, gt (by decide +kernel), by decide +kernel⟩),
  meets _ _ _ (recvX { Recv.closed with owner := some 1 }) (vf) (pk 0x0602 (uid 0x41 0 0) [2 ^ 48 + 100 * 2 ^ 32 + 18, 96 * 256, 0, 0, 2 + 24 * 2 ^ 16, 0, 0, 0]) (by decide +kernel) (trivial) (trivial),
  meets _ _ _ (recvX { Recv.closed with owner := some 1 }) (vf) (pk 0x0603 (uid 0x41 0 0) []) (by decide +kernel) (⟨_, gt (by decide +kernel), by decide +kernel⟩) (⟨_, gt (by decide +kernel), by decide +kernel⟩),
  meets _ _ _ (recvX aRecv) (vf) (pk 0x0603 (uid 0x41 0 0) []) (by decide +kernel) (⟨⟨_, gt (by decide +kernel), by decide +kernel⟩, by decide +kernel⟩) (⟨⟨_, gt (by decide +kernel), by decide +kernel⟩, by decide +kernel⟩),
  meets _ _ _ (recvX { aRecv with frames := [aFrame] }) (vf) (pk 0x0603 (uid 0x41 0 0) []) (by decide +kernel) (⟨_, gt (by decide +kernel), by decide +kernel⟩) (⟨_, gt (by decide +kernel), by decide +kernel⟩),
  meets _ _ _ (recvX aRecv) (vf) (pk 0x0604 (uid 0x41 0 0) [0]) (by decide +kernel) (trivial) (trivial),
  meets _ _ _ (recvX aRecv) (vf) (pk 0x0605 (uid 0x41 0 0) [uid 0x21 0 0]) (by decide +kernel) (by decide +kernel) (by decide +kernel),
  meetsAsk _ _ (recvX aRecv) (vf) (pk 0x0606 (uid 0x41 0 0) []) (by decide +kernel) (trivial),
  meets _ _ _ (up) (pf) (pk 0x0607 dev [127 + 15 * 256]) (by decide +kernel) (trivial) (trivial)⟩

/-- The premises of IngestAndPtpEventsComplete (IngestEventsComplete) are met. -/
theorem witness_IngestEventsComplete :
  (∃ (s : State) (r path : Nat) (p : RtpPacket) (x : Recv), s.recv r = some x ∧ x.st ≠ 0 ∧ path ∈ x.paths ∧ (Tbl.find s.ing.ports (x.portOf path)).elim false EthPort.link = true ∧ x.frames = [] ∧ x.closing = none ∧ (∀ e ∈ x.seen, e.1 ≠ p.seq)) ∧
  (∃ (s : State) (r at0 : Nat) (x : Recv), s.recv r = some x ∧ x.waitSince = some at0 ∧ at0 + x.f 0 47 32 * 1000 ≤ s.core.now) ∧
  (∃ (s : State) (r : Nat) (x : Recv) (f : RxFrame) (fs : List RxFrame), s.recv r = some x ∧ x.frames = f :: fs ∧ x.essence < 2 ∧ f.marker.isSome = true ∧ x.waitSince = none) ∧
  (∃ (s : State) (r : Nat) (x : Recv) (f : RxFrame) (fs : List RxFrame), s.recv r = some x ∧ x.frames = f :: fs ∧ f.marker = none ∧ x.essence < 2 ∧ 2 * fpsDen x.words * 10 ^ 9 ≤ (s.core.now - f.began) * x.f 5 31 0) ∧
  (∃ (s : State) (r path : Nat) (x : Recv), s.recv r = some x ∧ x.st ≠ 0 ∧ path ∈ x.paths ∧ x.pathAt.getD path 0 + 10 ^ 7 ≤ s.core.now ∧ x.pathUp.getD path false = true) ∧
  (∃ (s : State) (r : Nat) (x : Recv), s.recv r = some x ∧ (x.st = 2 ∨ x.st = 3) ∧ x.lastGood + x.f 0 63 48 * 10 ^ 6 ≤ s.core.now) ∧
  (∃ (s : State) (i : Nat) (q : EthPort), Tbl.find s.ing.ports i = some q) :=
⟨⟨recvX aRecv, 0, 0, anRtp, aRecv, by decide +kernel⟩,
  ⟨recvX { aRecv with waitSince := some 0 }, 0, 0, { aRecv with waitSince := some 0 }, by decide +kernel⟩,
  ⟨recvX { aRecv with frames := [{ aFrame with marker := some 0 }] }, 0, { aRecv with frames := [{ aFrame with marker := some 0 }] }, { aFrame with marker := some 0 }, [], by decide +kernel⟩,
  ⟨recvX { aRecv with frames := [aFrame] }, 0, { aRecv with frames := [aFrame] }, aFrame, [], by decide +kernel⟩,
  ⟨recvX { aRecv with pathUp := [true, false] }, 0, 0, { aRecv with pathUp := [true, false] }, by decide +kernel⟩,
  ⟨recvX { aRecv with st := 3 }, 0, { aRecv with st := 3 }, by decide +kernel⟩,
  ⟨recvX aRecv, 0, { w0 := 0, w1 := 0, link := true }, by decide +kernel⟩⟩

/-- The premises of IngestAndPtpEventsComplete (PtpEventsComplete) are met. -/
theorem witness_PtpEventsComplete :
  (∃ (s : State) (_ d : Nat) (_ : Bool) (_ : Int) (_ : Nat), d ≠ s.ing.ptp.domain) ∧
  (∃ (s : State) (i : Nat) (_ : Int) (_ : Nat), bitOf s.ing.ptp.ports i = true ∧ (Tbl.find s.ing.ports i).elim false EthPort.link = true ∧ (s.ing.ptp.st = 0 ∨ s.ing.ptp.st = 3)) ∧
  (∃ (s : State) (i : Nat) (off : Int) (m : Nat), bitOf s.ing.ptp.ports i = true ∧ (Tbl.find s.ing.ports i).elim false EthPort.link = true ∧ s.ing.ptp.st = 1 ∧ s.ing.ptp.goodSyncs = 15 ∧ s.ing.ptp.everLocked = false ∧ -100 ≤ off ∧ off ≤ 100 ∧ s.led.tags = [] ∧ s.frd.outs = [] ∧ s.core.now ≤ m ∧ m < 2 ^ 64) ∧
  (∃ (s : State) (i : Nat) (off : Int) (m : Nat), bitOf s.ing.ptp.ports i = true ∧ (Tbl.find s.ing.ports i).elim false EthPort.link = true ∧ s.ing.ptp.st = 2 ∧ s.ing.ptp.goodSyncs = 16 ∧ s.ing.ptp.everLocked = true ∧ -100 ≤ off ∧ off ≤ 100 ∧ s.core.now + 1000 < m ∧ m < 2 ^ 64) ∧
  (∃ (s : State), s.ing.ptp.st = 2) :=
⟨⟨ptpX id, 0, 5, true, 0, 0, by decide +kernel⟩,
  ⟨ptpX id, 0, 0, 0, by decide +kernel⟩,
  ⟨ptpX fun p => { p with st := 1, goodSyncs := 15 }, 0, 100, 2 ^ 64 - 1, by decide +kernel⟩,
  ⟨ptpX fun p => { p with st := 2, goodSyncs := 16, everLocked := true }, 0, -100, 2 ^ 64 - 1, by decide +kernel⟩,
  ⟨ptpX fun p => { p with st := 2 }, by decide +kernel⟩⟩

/-- The premises of TouchCommandsComplete are met. -/
theorem witness_TouchCommandsComplete :
  Meets cmdTouchSurfaceSet .served (fun _ _ _ => True) ∧
  Meets cmdTouchRegionSet .served (fun _ _ _ => True) ∧
  Meets cmdTouchHandover .served (fun z _ p => (z.tsurf (uIdx (pkUnit p))).st ≠ 0 ∧ bitOf (pkW p 0) 16 = true) ∧
  Meets cmdTouchHandover .delayedUnitBusy (fun z _ p => (z.tsurf (uIdx (pkUnit p))).st ≠ 0 ∧ bitOf (pkW p 0) 16 = false) ∧
  Meets cmdTouchHandover .served (fun z _ p => (z.tsurf (uIdx (pkUnit p))).st = 0) ∧
  Meets cmdTouchSubscribe .served (fun _ _ _ => True) ∧
  Meets cmdTouchRebase .served (fun z _ p => (z.tsurf (uIdx (pkUnit p))).rebase = none ∧ (bitOf (pkW p 0) 0 = true ∨ ((z.tsurf (uIdx (pkUnit p))).contacts = [] ∧ (z.tsurf (uIdx (pkUnit p))).st = 2))) ∧
  MeetsAsk cmdTouchStatus (fun _ _ _ => True) :=
⟨meets _ _ _ (up) (pf) (pk 0x0900 touchU touchW) (by decide +kernel) (trivial) (trivial),
  meets _ _ _ (touchX 0 aTouch) (pf) (pk 0x0901 touchU [63 + 256, 2 ^ 32 + 2 ^ 48]) (by decide +kernel) (trivial) (trivial),
  meets _ _ _ (touchX 0 aTouch) (pf) (pk 0x0902 touchU [256 + 2 ^ 16]) (by decide +kernel) (by decide +kernel) (by decide +kernel),
  meets _ _ _ (touchX 0 aTouch) (pf) (pk 0x0902 touchU [256]) (by decide +kernel) (by decide +kernel) (by decide +kernel),
  meets _ _ _ (touchX 0 { aTouch with st := 0 }) (pf) (pk 0x0902 touchU [256]) (by decide +kernel) (by decide +kernel) (by decide +kernel),
  meets _ _ _ (touchX 0 aTouch) (vf) (pk 0x0903 touchU [0x1000, 12, 0x2000]) (by decide +kernel) (trivial) (trivial),
  meets _ _ _ (touchX 0 aTouch) (pf) (pk 0x0904 touchU [1]) (by decide +kernel) (by decide +kernel) (by decide +kernel),
  meetsAsk _ _ (touchX 0 aTouch) (pf) (pk 0x0905 touchU []) (by decide +kernel) (trivial)⟩

/-- The premises of TouchEventsComplete are met. -/
theorem witness_TouchEventsComplete :
  (∃ (s : State) (t : Nat) (_ _ : List Nat) (x : TSurf), t < 2 ∧ s.tsurf t = x ∧ x.st = 1 ∧ x.taken < 8 ∧ x.lines = [] ∧ x.lineBad = [] ∧ x.reported = [] ∧ x.handover = []) ∧
  (∃ (s : State) (t : Nat) (_ _ : List Nat) (x : TSurf), t < 2 ∧ s.tsurf t = x ∧ x.st = 2 ∧ x.lines = [] ∧ x.lineBad = [] ∧ x.reported = [] ∧ x.learn = [] ∧ x.nextRegions = [] ∧ x.handover = [] ∧ x.rebase = none) ∧
  (∃ (s : State) (t : Nat) (x : TSurf), s.tsurf t = x ∧ x.st = 1 ∧ 8 ≤ x.taken ∧ Tbl.find s.peat.baselines t = none) ∧
  (∃ (s : State) (t : Nat) (x : TSurf), s.tsurf t = x ∧ x.st = 3 ∧ 4 ≤ x.taken) ∧
  (∃ (x : TSurf) (i : Nat) (l : TLearn), i < x.base.length ∧ x.learn = [(i, l)] ∧ l.need = 2 ∧ 2 ≤ l.seen) ∧
  (∃ (s : State) (t l : Nat) (x : TSurf), s.tsurf t = x ∧ x.newFaults = [l]) ∧
  (∃ (s : State) (t l : Nat) (x : TSurf), s.tsurf t = x ∧ x.lines.filter (fun l => decide (16 ≤ Tbl.cnt x.lineFit l)) = [l]) ∧
  (∃ (s : State) (t : Nat) (x : TSurf), s.tsurf t = x ∧ x.absorb = false) ∧
  (∃ (s : State) (t : Nat) (x : TSurf), s.tsurf t = x ∧ x.st = 2 ∧ x.contacts = [] ∧ x.suspect = [] ∧ x.cleanSince + 600 * 10 ^ 9 ≤ s.core.now) ∧
  (∃ (s : State) (t : Nat) (x : TSurf), 2 ≤ t ∧ t < 8 ∧ s.tsurf t = x ∧ x.st ≠ 0 ∧ x.st ≠ 4 ∧ x.rate ≠ 0 ∧ x.lastRf + max (3 * 10 ^ 9 / x.rate) (10 ^ 8) ≤ s.core.now) ∧
  (∃ (_ : State) (i _ : Nat) (fr : List Byte), i < 6 ∧ ofBe (fr.take 2) ≠ 0x7E5A) ∧
  (∃ (s : State) (i : Nat) (fr : List Byte) (x : TSurf), i < 6 ∧ s.tsurf (i + 2) = x ∧ x.st = 2 ∧ x.drive = (fr.getD 6 0).toNat ∧ x.sense = (fr.getD 7 0).toNat ∧ fr.length = 14 + 2 * x.nodes ∧ ofBe (fr.take 2) = 0x7E5A ∧ (fr.getD 2 0).toNat = 0x10 ∧ (fr.getD 3 0).toNat = 0 ∧ ofBe ((fr.drop (fr.length - 2)).take 2) = crc16 (fr.take (fr.length - 2)) ∧ x.lastCount = none) :=
⟨⟨touchX 0 { aTouch with st := 1, taken := 7 }, 0, [], [], { aTouch with st := 1, taken := 7 }, by decide +kernel⟩,
  ⟨touchX 1 aTouch, 1, [], [], aTouch, by decide +kernel⟩,
  ⟨touchX 0 { aTouch with st := 1, taken := 8 }, 0, { aTouch with st := 1, taken := 8 }, by decide +kernel⟩,
  ⟨touchX 0 { aTouch with st := 3, taken := 4 }, 0, { aTouch with st := 3, taken := 4 }, by decide +kernel⟩,
  ⟨{ aTouch with learn := [(15, { sum := 6, seen := 2, need := 2 })] }, 15, { sum := 6, seen := 2, need := 2 }, by decide +kernel⟩,
  ⟨touchX 0 { aTouch with reported := [0] }, 0, 0, { aTouch with reported := [0] }, by decide +kernel⟩,
  ⟨touchX 0 { aTouch with lines := [0], lineFit := [(0, 16)] }, 0, 0, { aTouch with lines := [0], lineFit := [(0, 16)] }, by decide +kernel⟩,
  ⟨touchX 0 aTouch, 0, aTouch, by decide +kernel⟩,
  ⟨touchX 0 aTouch, 0, aTouch, by decide +kernel⟩,
  ⟨touchX 7 aTouch, 7, aTouch, by decide +kernel⟩,
  ⟨up, 5, 0, [], by decide +kernel⟩,
  ⟨touchX 2 aTouch, 0, rawBody ++ be 2 (crc16 rawBody), aTouch, by decide +kernel⟩⟩

/-- The premises of HapticsComplete are met. -/
theorem witness_HapticsComplete :
  Meets cmdHapChannelSet .served (fun _ _ _ => True) ∧
  Meets cmdHapEffectSet .served (fun _ _ _ => True) ∧
  Meets cmdHapPlay .served (fun z _ p => (z.chan (uIdx (pkUnit p))).st ≠ 0 ∧ (z.chan (uIdx (pkUnit p))).st ≠ 6 ∧ ∃ h, Tbl.find z.hap.slots (pkF p 0 7 0) = some h ∧ (fld h.w0 3 0 ≠ 0 ∨ fld h.w0 15 8 ≠ 0 ∨ fld h.w0 19 16 ≠ 0)) ∧
  Meets cmdHapStop .served (fun _ _ _ => True) ∧
  Meets cmdHapTouchBind .served (fun _ _ _ => True) ∧
  Meets cmdHapScan .served (fun z _ p => (z.chan (uIdx (pkUnit p))).st = 1) ∧
  Meets cmdHapClear .served (fun _ _ _ => True) ∧
  MeetsAsk cmdHapStatus (fun _ _ _ => True) ∧
  (∃ (s : State) (c : Nat) (h : HChan) (t : HTrig), s.chan c = h ∧ h.listening = false ∧ (h.st = 2 ∨ h.st = 3) ∧ h.cur = some t ∧ h.cut = none ∧ h.stop = false ∧ h.idx ≠ t.count h.st ∧ h.sinceListen + 1 < h.every) ∧
  (∃ (s : State) (c : Nat) (h : HChan) (t : HTrig), s.chan c = h ∧ h.listening = false ∧ (h.st = 2 ∨ h.st = 3 ∨ h.st = 4) ∧ h.cur = some t ∧ h.cut = none ∧ (h.idx = t.count h.st ∨ h.every ≤ h.sinceListen + 1)) ∧
  (∃ (s : State) (c peak : Nat) (crossing : Option Nat) (h : HChan), s.chan c = h ∧ h.listening = true ∧ h.st ≠ 5 ∧ (h.window crossing peak).openBad < 2 ∧ (h.window crossing peak).stallBad < 2) ∧
  (∃ (s : State) (c _ : Nat) (h : HChan), s.chan c = h ∧ h.listening = true ∧ h.st ≠ 5 ∧ 20 ≤ h.amp ∧ 1 ≤ h.openBad) ∧
  (∃ (s : State) (c : Nat) (h : HChan), s.chan c = h ∧ h.st = 4 ∧ h.cut = none ∧ h.brakeBegan + 12 * 10 ^ 6 ≤ s.core.now) :=
⟨meets _ _ _ (up) (pf) (pk 0x0A00 chanU chanW) (by decide +kernel) (trivial) (trivial),
  meets _ _ _ (up) (vf) (pk 0x0A01 (uid 0x62 0 0) [aSlot.w0, aSlot.w1]) (by decide +kernel) (trivial) (trivial),
  meets _ _ _ (hapX aChan) (vf) (pk 0x0A02 chanU [0]) (by decide +kernel) (⟨by decide +kernel, by decide +kernel, _, gt (by decide +kernel), by decide +kernel⟩) (⟨by decide +kernel, by decide +kernel, _, gt (by decide +kernel), by decide +kernel⟩),
  meets _ _ _ (hapX aChan) (vf) (pk 0x0A03 chanU []) (by decide +kernel) (trivial) (trivial),
  meets _ _ _ (hapX aChan) (vf) (pk 0x0A04 chanU [0]) (by decide +kernel) (trivial) (trivial),
  meets _ _ _ (hapX aChan) (pf) (pk 0x0A05 chanU []) (by decide +kernel) (by decide +kernel) (by decide +kernel),
  meets _ _ _ (hapX aChan) (pf) (pk 0x0A06 chanU []) (by decide +kernel) (trivial) (trivial),
  meetsAsk _ _ (hapX aChan) (vf) (pk 0x0A07 chanU []) (by decide +kernel) (trivial),
  ⟨hapX { aChan with st := 2, cur := some aTrig }, 0, { aChan with st := 2, cur := some aTrig }, aTrig, by decide +kernel⟩,
  ⟨hapX { aChan with st := 2, cur := some aTrig, idx := 3 }, 0, { aChan with st := 2, cur := some aTrig, idx := 3 }, aTrig, by decide +kernel⟩,
  ⟨hapX { aChan with listening := true }, 0, 0, none, { aChan with listening := true }, by decide +kernel⟩,
  ⟨hapX { aChan with listening := true, amp := 20, openBad := 1 }, 0, 0, { aChan with listening := true, amp := 20, openBad := 1 }, by decide +kernel⟩,
  ⟨hapX { aChan with st := 4 }, 0, { aChan with st := 4 }, by decide +kernel⟩⟩

/-- The premises of AudioComplete (AudioCommandsComplete) are met. -/
theorem witness_AudioCommandsComplete :
  Meets cmdAudModeSet .served (fun _ _ _ => True) ∧
  Meets cmdAudSourceOpen .served (fun _ _ _ => True) ∧
  Meets cmdAudSourceClose .served (fun _ _ _ => True) ∧
  Meets cmdAudBusSet .served (fun _ _ _ => True) ∧
  Meets cmdAudSinkSet .served (fun _ _ _ => True) ∧
  Meets cmdAudApply .served (fun _ _ _ => True) ∧
  Meets cmdAudTdmSet .served (fun _ _ _ => True) ∧
  Meets cmdAudAssign .served (fun _ _ _ => True) ∧
  Meets cmdAudHeadsetSet .served (fun _ w _ => w.secure = false) ∧
  Meets cmdAudHeadsetSet .served (fun z w p => w.secure = true ∧ (z.asink 10).words = [] ∧ bitOf (pkW p 0) 32 = true) ∧
  MeetsAsk cmdAudStatus (fun _ _ p => uCls (pkUnit p) = 0x70 ∨ uCls (pkUnit p) = 0x73) :=
⟨meets _ _ _ (up) (pf) (pk 0x0B00 dev [3]) (by decide +kernel) (trivial) (trivial),
  meets _ _ _ (up) (vf) (pk 0x0B01 (uid 0x70 0 0) [aSource.w0, aSource.w1, 0]) (by decide +kernel) (trivial) (trivial),
  meets _ _ _ (audX fun a => { a with srcs := [(0, aSource)] }) (vf) (pk 0x0B02 (uid 0x70 0 0) []) (by decide +kernel) (trivial) (trivial),
  meets _ _ _ (up) (pf) (pk 0x0B03 (uid 0x72 5 0) [2 ^ 31 + 2 ^ 20]) (by decide +kernel) (trivial) (trivial),
  meets _ _ _ (audX fun a => { a with sinks := [(8, { ASink.fresh with owner := some 1 })] }) (vf) (pk 0x0B04 (uid 0x71 8 0) [0, 0]) (by decide +kernel) (trivial) (trivial),
  meets _ _ _ (up) (vf) (pk 0x0B05 dev []) (by decide +kernel) (trivial) (trivial),
  meets _ _ _ (up) (pf) (pk 0x0B06 (uid 0x74 1 0) [1]) (by decide +kernel) (trivial) (trivial),
  meets _ _ _ (up) (pf) (pk 0x0B07 (uid 0x72 5 0) [1]) (by decide +kernel) (trivial) (trivial),
  meets _ _ _ (up) (pf) (pk 0x0B08 (uid 0x73 0 0) [1]) (by decide +kernel) (by decide +kernel) (by decide +kernel),
  meets _ _ _ (up) (secWho) (pk 0x0B08 (uid 0x73 0 0) [2 ^ 32 + 90 * 2 ^ 16]) (by decide +kernel) (by decide +kernel) (by decide +kernel),
  meetsAsk _ _ (up) (pf) (pk 0x0B09 (uid 0x73 0 0) []) (by decide +kernel) (by decide +kernel)⟩

/-- The premises of AudioComplete (AudioEventsComplete) are met. -/
theorem witness_AudioEventsComplete :
  (∃ (s : State) (_ _ : Option (List Int)) (_ : List Int) (_ : List (Nat × Bool)), s.isActive (uid 0x73 0 0) = true ∧ (∀ t, s.aud.sampleDt s.aud.k = some t → t ≤ s.core.now)) ∧
  (∃ (s : State) (_ : Tbl (List (List Int))) (b : Nat), ((s.abus b).release s.aud).set = true) ∧
  (∃ (s : State) (b : Nat) (x : ABus), Tbl.find s.aud.buses b = some x ∧ x.ducking = true ∧ x.lastActive + s.aud.rate / 5 ≤ s.aud.k) ∧
  (∃ (s : State), s.aud.plugged = false ∧ s.aud.jack = 0) ∧
  (∃ (s : State), s.aud.plugged = true) ∧
  (∃ (s : State), s.aud.jack = 1 ∧ s.aud.jackSince + 50 * 10 ^ 6 ≤ s.core.now) ∧
  (∃ (s : State) (_ _ _ : Nat), s.aud.jack = 2) ∧
  (∃ (s : State) (mv ms b : Nat), s.aud.jack = 4 ∧ 20 ≤ ms ∧ buttonOf mv = some b ∧ b ≠ 4 ∧ s.aud.pressed = false) ∧
  (∃ (s : State) (mv ms : Nat), s.aud.jack = 5 ∧ 20 ≤ ms ∧ 1150 < mv ∧ s.aud.pressed = true) :=
⟨⟨up, none, none, [], [], by decide +kernel, forSome (by decide +kernel)⟩,
  ⟨audX fun a => { a with buses := [(5, { ABus.fresh with set := true })] }, [], 5, by decide +kernel⟩,
  ⟨audX fun a => { a with k := 9600, buses := [(5, { ABus.fresh with ducking := true })] }, 5, { ABus.fresh with ducking := true }, by decide +kernel⟩,
  ⟨up, by decide +kernel⟩,
  ⟨audX fun a => { a with plugged := true }, by decide +kernel⟩,
  ⟨audX fun a => { a with jack := 1 }, by decide +kernel⟩,
  ⟨audX fun a => { a with jack := 2 }, 32, 0, 0, by decide +kernel⟩,
  ⟨audX fun a => { a with jack := 4 }, 1050, 20, 3, by decide +kernel⟩,
  ⟨audX fun a => { a with jack := 5, pressed := true }, 1151, 20, by decide +kernel⟩⟩

/-- The premises of PowerAndIslandsComplete (PowerCommandsComplete) are met. -/
theorem witness_PowerCommandsComplete :
  Meets cmdPwrDomainSet .served (fun z _ p => (bitOf (pkW p 0) 0 = true ∧ z.domSt (uIdx (pkUnit p)) = .on) ∨ (bitOf (pkW p 0) 0 = false ∧ (z.domSt (uIdx (pkUnit p)) = .off ∨ z.domSt (uIdx (pkUnit p)) = .shed))) ∧
  Meets cmdPwrDomainSet .served (fun z _ p => bitOf (pkW p 0) 0 = true ∧ (z.domSt (uIdx (pkUnit p)) = .off ∨ z.domSt (uIdx (pkUnit p)) = .shed)) ∧
  Meets cmdPwrDomainSet .served (fun z _ p => bitOf (pkW p 0) 0 = false ∧ z.domSt (uIdx (pkUnit p)) = .on ∧ z.domainLeased (uIdx (pkUnit p)) = false) ∧
  (∃ (s : _) (port : _) (t : _) (w : _) (p : _), cmdPwrReset.ready s port = some (t, w, p) ∧ cmdPwrReset.acts t p = true) ∧
  Meets cmdPwrAvsSet .served (fun _ _ _ => True) ∧
  Meets cmdPwrThermalSet .served (fun _ w _ => w.secure = false) ∧
  Meets cmdPwrThermalSet .served (fun _ w _ => w.secure = true) ∧
  MeetsAsk cmdPwrStatus (fun _ _ _ => True) ∧
  MeetsAsk cmdPwrSensorRead (fun z _ p => uIdx (pkUnit p) < 40 ∧ Tbl.has z.pwr.sensor (uIdx (pkUnit p)) = true) ∧
  Meets cmdPwrShutdown .served (fun z _ _ => ∀ e ∈ z.sec.leases, e.2 = false) :=
⟨meets _ _ _ (up) (pf) (pk 0x0E00 (uid 0xA0 4 0) [1]) (by decide +kernel) (Or.inl (by decide +kernel)) (Or.inl (by decide +kernel)),
  meets _ _ _ (upP fun p => { p with dom := Tbl.put p.dom 4 .off }) (pf) (pk 0x0E00 (uid 0xA0 4 0) [1]) (by decide +kernel) (by decide +kernel) (by decide +kernel),
  meets _ _ _ (up) (pf) (pk 0x0E00 (uid 0xA0 4 0) [0]) (by decide +kernel) (by decide +kernel) (by decide +kernel),
  ⟨withPacket up pf (pk 0x0E02 dev [1]), .forwarded, _, _, _, ready_of _ _ _ _ (by decide +kernel), by decide +kernel⟩,
  meets _ _ _ (up) (pf) (pk 0x0E03 dev [2 ^ 31 + 1150 * 2 ^ 20 + 900 * 1024 + 600]) (by decide +kernel) (trivial) (trivial),
  meets _ _ _ (up) (pf) (pk 0x0E04 dev [80]) (by decide +kernel) (by decide +kernel) (by decide +kernel),
  meets _ _ _ (up) (secWho) (pk 0x0E04 dev [100 * 256]) (by decide +kernel) (by decide +kernel) (by decide +kernel),
  meetsAsk _ _ (up) (pf) (ask 0x0E01 dev []) (by decide +kernel) (trivial),
  meetsAsk _ _ (upP (sensor 160)) (pf) (ask 0x0E05 (uid 0xA1 0 0) []) (by decide +kernel) (by decide +kernel),
  meets _ _ _ (up) (pf) (pk 0x0E06 dev [0]) (by decide +kernel) (by decide +kernel) (by decide +kernel)⟩

/-- The premises of ResetsAndBootComplete (ResetsComplete) are met. -/
theorem witness_ResetsComplete :
  (∃ (s : State), s.pwr.held = false) ∧
  (∃ (s : State) (cause : Nat) (_ : List Byte), s.fatalDue cause = true) ∧
  (∃ (s : State), s.pwr.mgmtRestarting = false ∧ s.domSt 8 = .on) :=
⟨⟨up, by decide +kernel⟩,
  ⟨upL fun l => { l with failedPairs := [0, 1] }, 1, [7], by decide +kernel⟩,
  ⟨up, by decide +kernel⟩⟩

/-- The premises of ResetsAndBootComplete (BootComplete) are met. -/
theorem witness_BootComplete :
  (∃ (s : State) (_ _ _ : List Byte) (lo hi v : Nat), s.sec.run = .booting ∧ s.sec.bootHalted = false ∧ s.pwr.held = false ∧ s.domSt 8 ≠ .on ∧ s.sec.tamperHeld = [] ∧ commonVersion 0x10 0x12 lo hi = some v ∧ imgWhole (Tbl.at s.peat.images [] (imgKey 0 1)) 1 = true ∧ imgSigned s.fix (Tbl.at s.peat.images [] (imgKey 0 1)) = true ∧ s.sec.rollback ≤ imgField (Tbl.at s.peat.images [] (imgKey 0 1)) 11 1) ∧
  (∃ (s : State) (_ _ : Nat) (_ : Option (List Byte × List Byte)), s.sec.run = .booting ∧ s.sec.bootHalted = false ∧ s.pwr.held = false ∧ s.domSt 8 ≠ .on) ∧
  (∃ (s : State), s.core.ready = false ∧ s.sec.run = .booting ∧ s.sec.bootHalted = false ∧ s.domSt 7 = .on ∧ s.peat.dumpArea = none) ∧
  (∃ (s : State) (d : Nat), s.domSt d = .waking ∧ s.depsOn d = true) :=
⟨⟨unbooted, [1], [2], [3], 0x11, 0x12, 0x12, by decide +kernel, by decide +kernel, by decide +kernel, by decide +kernel, by decide +kernel, by decide +kernel, by decide +kernel, by decide +kernel, by decide +kernel⟩,
  ⟨unbooted, 0x10, 0x12, none, by decide +kernel⟩,
  ⟨{ unbooted with pwr := up.pwr }, by decide +kernel⟩,
  ⟨upP fun p => { p with dom := Tbl.put p.dom 4 .waking }, 4, by decide +kernel⟩⟩

/-- The premises of PowerAndIslandsComplete (PowerEventsComplete) are met. -/
theorem witness_PowerEventsComplete :
  ((∃ (s : State) (p : Nat), s.lnk.average = some p ∧ s.pwr.avsEnable = true ∧ s.pwr.mgmtRestarting = false ∧ s.domSt 8 = .on ∧ s.pwr.vset ≠ 0 ∧ s.pwr.avsTarget + 30 < p ∧ s.pwr.vset < s.pwr.avsMax) ∧ (∃ (s : State) (p : Nat), s.lnk.average = some p ∧ s.pwr.avsEnable = true ∧ s.pwr.mgmtRestarting = false ∧ s.domSt 8 = .on ∧ s.pwr.vset ≠ 0 ∧ p + 50 < s.pwr.avsTarget ∧ s.pwr.avsMin < s.pwr.vset) ∧ (∃ (s : State) (p : Nat), s.lnk.average = some p ∧ s.pwr.avsEnable = true ∧ s.pwr.mgmtRestarting = false ∧ s.domSt 8 = .on ∧ s.pwr.vset ≠ 0 ∧ p ≤ s.pwr.avsTarget + 30 ∧ s.pwr.avsTarget ≤ p + 50)) ∧
  (∃ (s : State) (n : Nat) (r : Int), n < 16 ∧ s.pwr.held = false ∧ r < (s.pwr.warnC : Int) * 4 ∧ r < (s.pwr.tripC : Int) * 4) ∧
  (∃ (s : State) (n : Nat) (r : Int), n < 16 ∧ s.pwr.held = false ∧ (s.pwr.warnC : Int) * 4 ≤ r ∧ (s.pwr.tripC : Int) * 4 ≤ r ∧ n ∈ s.pwr.warned ∧ n ∉ s.pwr.tripped) ∧
  (∃ (s : State) (n : Nat), s.criticalSensor = some n ∧ s.pwr.held = false) ∧
  (∃ (s : State) (m mv : Nat), m < 24 ∧ fld (Tbl.cnt s.pwr.vmonLim m) 31 16 < mv) ∧
  (∃ (s : State) (i : Nat), i < 29 ∧ s.domSt (islandDomain i) = .on) ∧
  (∃ (s : State) (i : Nat), (i = 26 ∨ i = 27) ∧ s.islandRuns i = true ∧ (s.island i).lastUse + 10 ^ 6 ≤ s.core.now ∧ s.peat.flushing = false ∧ s.core.jrn.flushing = []) :=
⟨⟨⟨paced 1181, 1181, by decide +kernel⟩, ⟨paced 1099, 1099, by decide +kernel⟩, ⟨paced 1180, 1180, by decide +kernel⟩⟩,
  ⟨upP (sensor 160), 0, 359, by decide +kernel⟩,
  ⟨upP (sensor 160), 0, 420, by decide +kernel⟩,
  ⟨upP (sensor 440), 0, by decide +kernel⟩,
  ⟨upP fun p => { p with vmonLim := [(2, 900 * 65536 + 600)] }, 2, 901, by decide +kernel⟩,
  ⟨up, 28, by decide +kernel⟩,
  ⟨upP fun p => { p with islands := [(26, { running := true, lastUse := 0 })] }, 26, by decide +kernel⟩⟩

/-- The premises of PeatCommandsComplete are met. -/
theorem witness_PeatCommandsComplete :
  Meets cmdPeatFormat .served (fun _ _ _ => True) ∧
  MeetsAsk cmdPeatStatus (fun _ _ _ => True) ∧
  Meets cmdPeatCapture .served (fun z _ p => (z.captureRegion (pkUnit p)).isSome) ∧
  MeetsAsk cmdPeatCaptureRead (fun z _ p => z.partPermits 5 6 false = true ∧ ∃ c, z.peat.stored.find? (fun c => c.req.id == pkW p 0) = some c) ∧
  Meets cmdPeatRetainSet .served (fun _ _ _ => True) ∧
  Meets cmdPeatUpdateWrite .served (fun z w p => (∃ bs, (z.hostRead w (pkW p 2) (pkW p 3)).2 = .ok bs) ∧ (z.hostRead w (pkW p 2) (pkW p 3)).1.partPermits (uIdx (pkUnit p)) 4 true = true) ∧
  Meets cmdPeatUpdateCommit .served (fun z _ p => z.partPermits (uIdx (pkUnit p)) 4 false = true ∧ let m := Tbl.at z.peat.images [] (imgKey (uIdx (pkUnit p)) (pkW p 0)); imgSigned z.fix m = true ∧ imgBody m = true ∧ imgField m 10 1 = pkW p 0) ∧
  Meets cmdPeatActivate .served (fun z _ p => pkW p 1 = 0 ∧ pkW p 0 ∉ z.peat.activating) ∧
  Meets cmdPeatActivate .served (fun _ _ p => pkW p 1 = 1) ∧
  MeetsAsk cmdPeatDumpRead (fun z _ p => z.partPermits 7 6 false = true ∧ ∃ d, z.peat.dumps.find? (fun d => d.number == pkW p 0) = some d) ∧
  MeetsAsk cmdPeatLogRead (fun z _ _ => z.partPermits 8 6 false = true) :=
⟨meets _ _ _ (up) (pf) (pk 0x0C00 dev (partMin ++ [1])) (by decide +kernel) (trivial) (trivial),
  meetsAsk _ _ (up) (pf) (ask 0x0C01 dev []) (by decide +kernel) (trivial),
  meets _ _ _ (sigX checking) (vf) (pk 0x0C02 sregU [sregU, 0, 0]) (by decide +kernel) (by decide +kernel) (by decide +kernel),
  meetsAsk _ _ (upQ fun q => { q with stored := [aCapture] }) (vf) (ask 0x0C03 dev [3, 0, 0x1000, 64]) (by decide +kernel) (⟨by decide +kernel, _, gt (by decide +kernel)⟩),
  meets _ _ _ (upQ fun q => { q with sizes := partMin }) (secWho) (pk 0x0C04 dev [100]) (by decide +kernel) (trivial) (trivial),
  meets _ _ _ (up) (pf) (pk 0x0C05 (uid 0x80 1 0) [1, 0, 0x1000, 16]) (by decide +kernel) (⟨okOf (by decide +kernel), by decide +kernel⟩) (⟨okOf (by decide +kernel), by decide +kernel⟩),
  meets _ _ _ ({ upQ (fun q => { q with images := images }) with fix := fixK }) (pf) (pk 0x0C06 (uid 0x80 1 0) [1]) (by decide +kernel) (by dsimp only; decide +kernel) (by dsimp only; decide +kernel),
  meets _ _ _ (upQ fun q => { q with images := images, committed := [(imgKey 1 1, [1])] }) (pf) (pk 0x0C07 dev [1, 0]) (by decide +kernel) (by decide +kernel) (by decide +kernel),
  meets _ _ _ (up) (pf) (pk 0x0C07 dev [1, 1]) (by decide +kernel) (by decide +kernel) (by decide +kernel),
  meetsAsk _ _ (upQ fun q => { q with dumps := [{ number := 3, cause := 1, bytes := [1] }] }) (pf) (ask 0x0C08 dev [3, 0, 0x1000, 64]) (by decide +kernel) (⟨by decide +kernel, _, gt (by decide +kernel)⟩),
  meetsAsk _ _ (up) (pf) (ask 0x0C09 dev [0x1000, 64]) (by decide +kernel) (by decide +kernel)⟩

/-- The premises of FirmwareAndCapturesComplete are met. -/
theorem witness_FirmwareAndCapturesComplete :
  (∃ (s : State), 4 ∈ s.peat.activating ∧ s.lnk.failedPairs = []) ∧
  (∃ (s : State), 3 ∈ s.peat.activating ∧ s.mgmtQuiet = true) ∧
  (∃ (s : State) (c : Nat), (c = 2 ∨ c = 3) ∧ (s.peat.slot c).trial.isSome = true ∧ 3 ≤ (s.peat.slot c).trialBoots ∧ s.core.ready = false) ∧
  (∃ (s : State) (id : Nat) (q : CapReq) (h : CapHeld) (sf : Surf), s.peat.requests.find? (fun r => r.id == id) = some q ∧ q.held = some h ∧ s.surf h.surf = some sf ∧ s.resultDue (uKey q.region) h.frame = false ∧ ((s.peat.staged ++ [s.makeCapture q h sf]).map (fun x => x.bytes.length)).sum ≤ s.peat.stageMib * 2 ^ 20) ∧
  (∃ (s : State) (id : Nat) (c : Capture), s.peat.staged.find? (fun c => c.req.id == id) = some c ∧ s.pwr.mgmtRestarting = false ∧ s.peat.formatted = true ∧ s.peat.flushing = false ∧ s.partPermits 5 3 true = true ∧ (s.peat.stored.map (fun x => x.stored.length)).sum + c.stored.length ≤ s.peat.sizes.getD 5 0 * 2 ^ 20) :=
⟨⟨upQ fun q => { q with activating := [4] }, by decide +kernel⟩,
  ⟨upQ fun q => { q with activating := [3] }, by decide +kernel⟩,
  ⟨{ unbooted with peat := { unbooted.peat with slots := [(2, { active := 1, trial := some 1, trialBoots := 3 })] } }, 2, by decide +kernel⟩,
  ⟨{ upF (fun f => f) with peat := { up.peat with requests := [aCapReq], stageMib := 64 } }, 3, aCapReq, aHeld, aSurf, by decide +kernel⟩,
  ⟨upQ fun q => { q with staged := [aCapture], sizes := partMin }, 3, aCapture, by decide +kernel⟩⟩

/-- The premises of PowerFailAndFlashComplete are met. -/
theorem witness_PowerFailAndFlashComplete :
  (∃ (s : State), s.peat.flushing = false ∧ s.pwr.shutdown = false) ∧
  (∃ (s : State) (_ : List Nat), s.peat.flushing = true) ∧
  (∃ (s : State) (_ : List Nat), s.peat.flushing = true) ∧
  (∃ (s : State), s.pwr.mgmtRestarting = false ∧ s.peat.flushing = false ∧ s.core.jrn.st ≠ .recovering) ∧
  (∃ (s : State) (b sp : Nat), (s.nblock b).bad = false ∧ (s.nblock sp).bad = false ∧ b ≠ sp) ∧
  (∃ (s : State) (b n target : Nat), s.nandFree = true ∧ (s.nblock b).bad = false ∧ (s.nblock target).bad = false ∧ b ≠ target ∧ n ≤ 48) ∧
  (∃ (s : State) (b n target : Nat), s.nandFree = true ∧ (s.nblock b).bad = false ∧ (s.nblock target).bad = false ∧ b ≠ target ∧ 48 < n) ∧
  (∃ (s : State) (b target : Nat), s.nandFree = true ∧ (s.nblock b).bad = false ∧ (s.nblock target).bad = false ∧ b ≠ target ∧ s.peat.disturbLimit ≤ (s.nblock b).reads) ∧
  (∃ (s : State) (part a b : Nat), s.nandFree = true ∧ (s.nblock a).bad = false ∧ (s.nblock b).bad = false ∧ a ≠ b ∧ (s.nblock a).part = some part ∧ ((s.nblock b).part = none ∨ (s.nblock b).part = some part) ∧ (s.nblock a).erases < (s.nblock b).erases ∧ (s.nblock a).erases + 500 < s.mostErased part) ∧
  (∃ (s : State) (a b : Nat), (∀ n, (s.nblock a).part = some n → s.partPermits n 7 false = true ∧ s.partPermits n 7 true = true) ∧ a ≠ b) :=
⟨⟨up, by decide +kernel⟩,
  ⟨upQ fun q => { q with flushing := true }, [], by decide +kernel⟩,
  ⟨upQ fun q => { q with flushing := true }, [], by decide +kernel⟩,
  ⟨up, by decide +kernel⟩,
  ⟨up, 7, 9, by decide +kernel⟩,
  ⟨up, 7, 48, 9, by decide +kernel⟩,
  ⟨up, 7, 49, 9, by decide +kernel⟩,
  ⟨blocks [(7, { aBlock with reads := 0xC350 })], 7, 9, by decide +kernel⟩,
  ⟨blocks [(7, { aBlock with erases := 99 }), (9, aBlock)], 5, 7, 9, by decide +kernel⟩,
  ⟨blocks [(7, aBlock)], 7, 9, forSome (by decide +kernel), by decide⟩⟩

/-- The premises of RhizomeComplete are met. -/
theorem witness_RhizomeComplete :
  Meets cmdWallSet .served (fun z _ _ => z.rhz.role ≠ 4) ∧
  Meets cmdRhzPortSet .served (fun _ _ p => bitOf (pkW p 0) 0 = true) ∧
  Meets cmdRhzPortSet .served (fun z _ p => bitOf (pkW p 0) 0 = false ∧ (z.rport (uIdx (pkUnit p))).up = false) ∧
  Meets cmdRhzPortSet .served (fun z _ p => bitOf (pkW p 0) 0 = false ∧ (z.rport (uIdx (pkUnit p))).up = true) ∧
  MeetsAsk cmdWallStatus (fun _ _ _ => True) ∧
  (∃ (s : State) (n : Nat), n < 2 ∧ (s.rport n).up = true) ∧
  (∃ (s : State) (n _ lo hi : Nat), n < 2 ∧ (s.rport n).up = false ∧ (s.rport n).enable = true ∧ s.isActive (portUnit n) = true ∧ max 0x10 lo ≤ min 0x11 hi) ∧
  (∃ (_ : State) (_ _ lo hi : Nat), min 0x11 hi < max 0x10 lo) ∧
  (∃ (s : State) (n : Nat) (flit : List Byte) (_ : RhzMsg), n < 2 ∧ (s.rport n).up = true ∧ rhzOk flit = false ∧ (s.rport n).dir.dropping = false) ∧
  (∃ (s : State) (n : Nat) (flit : List Byte) (_ : RhzMsg), n < 2 ∧ (s.rport n).up = true ∧ rhzOk flit = true ∧ fld (rhzHeader flit) 29 28 < 2 ∧ fld (rhzHeader flit) 27 16 ≠ (s.rport n).dir.expect) ∧
  (∃ (s : State) (n : Nat) (flit : List Byte) (_ _ : Nat) (_ : Packet), n < 2 ∧ (s.rport n).up = true ∧ rhzOk flit = true ∧ fld (rhzHeader flit) 29 28 = 1 ∧ fld (rhzHeader flit) 27 16 = (s.rport n).dir.expect ∧ fld (rhzHeader flit) 15 12 = s.core.pos) ∧
  (∃ (s : State) (n : Nat) (flit : List Byte) (msg : RhzMsg), n < 2 ∧ (s.rport n).up = true ∧ rhzOk flit = true ∧ fld (rhzHeader flit) 29 28 = 1 ∧ fld (rhzHeader flit) 27 16 = (s.rport n).dir.expect ∧ fld (rhzHeader flit) 15 12 ≠ s.core.pos ∧ msgToAll msg = false) ∧
  (∃ (s : State), s.core.inWall = true ∧ s.core.wallMaster = true ∧ (∀ n, n < 2 → (s.rport n).up = true)) :=
⟨meets _ _ _ (wallX id) (pf) (pk 0x1000 wallU [16]) (by decide +kernel) (by decide +kernel) (by decide +kernel),
  meets _ _ _ (up) (pf) (pk 0x1001 (uid 0x90 0 0) [1]) (by decide +kernel) (by decide +kernel) (by decide +kernel),
  meets _ _ _ (up) (pf) (pk 0x1001 (uid 0x90 0 0) [0]) (by decide +kernel) (by decide +kernel) (by decide +kernel),
  meets _ _ _ (portX aPort) (pf) (pk 0x1001 (uid 0x90 0 0) [0]) (by decide +kernel) (by decide +kernel) (by decide +kernel),
  meetsAsk _ _ (up) (pf) (ask 0x1002 dev []) (by decide +kernel) (trivial),
  ⟨portX aPort, 0, by decide +kernel⟩,
  ⟨up, 1, 3, 0x11, 0x12, by decide +kernel⟩,
  ⟨up, 0, 0, 0x12, 0x13, by decide +kernel⟩,
  ⟨portX aPort, 0, [], .nothing, by decide +kernel⟩,
  ⟨portX aPort, 0, aFlitTo 1 0, .nothing, by decide +kernel⟩,
  ⟨portX aPort, 0, aFlitTo 0 0, 0, 0, pk 0 0 [], by decide +kernel⟩,
  ⟨portX aPort, 0, aFlitTo 0 3, .nothing, by decide +kernel⟩,
  ⟨wallX id, by decide +kernel⟩⟩

/-- The premises of WallComplete are met. -/
theorem witness_WallComplete :
  (∃ (s : State) (devices : List (Nat × Bool)) (self _ : Nat), s.rhz.role = 4 ∧ devices.length ≤ 16 ∧ self < devices.length ∧ (devices.map Prod.fst)[self]? = some s.fix.serial) ∧
  (∃ (devices : List (Nat × Bool)), devices ≠ []) ∧
  (∃ (s : State), s.core.inWall = true ∧ s.core.wallMaster = false ∧ s.rhz.lastBeacon + 10 ^ 6 ≤ s.core.now) ∧
  (∃ (s : State) (n : Nat) (_ : Int), n < 2 ∧ s.core.inWall = true ∧ s.core.wallMaster = false ∧ (s.rport n).up = true) ∧
  (∃ (s : State) (o : Nat) (x : Outp), s.rhz.time = 3 ∧ s.rhz.holdAt + 10 ^ 7 ≤ s.core.now ∧ s.frd.outs = [(o, x)] ∧ x.source = 1 ∧ (x.lock = 1 ∨ x.lock = 2)) ∧
  (∃ (s : State) (tag : BitVec 32) (_ _ _ _ : Nat), uPos tag.toNat ≠ s.core.pos) ∧
  (∃ (s : State) (tag recv : BitVec 32) (_ _ _ stamp : Nat), uPos tag.toNat ≠ s.core.pos ∧ recv ≠ 0 ∧ (∀ n, Tbl.find s.rhz.landed recv.toNat = some n → n < stamp)) ∧
  (∃ (s : State) (_ layer : BitVec 32) (inst _ u : Nat) (_ : List Nat) (_ : List (List Nat)) (sf : Surf), uPos layer.toNat = s.core.pos ∧ s.surf u = some sf ∧ sf.locked = false ∧ sf.owner = inst) :=
⟨⟨{ up with fix := fix5 }, [(6, false), (5, true)], 1, 0x11, by decide +kernel⟩,
  ⟨[(6, false)], by decide⟩,
  ⟨memberX id, by decide +kernel⟩,
  ⟨memberX id, 0, 20, by decide +kernel⟩,
  ⟨{ (outX { anOut with genlock := [1], lock := 2 }) with rhz := { aWall with time := 3 } }, 0, { anOut with genlock := [1], lock := 2 }, by decide +kernel⟩,
  ⟨up, BitVec.ofNat 32 (tagU 3 + 3 * 2 ^ 28), 0, 0, 0, 0, by decide +kernel⟩,
  ⟨up, BitVec.ofNat 32 (tagU 3 + 3 * 2 ^ 28), 1, 0, 0, 0, 0, by decide +kernel⟩,
  ⟨upF id, 1, BitVec.ofNat 32 (uid 0x21 0 0), 1, 0, surfU 3, [], [], aSurf, by decide +kernel⟩⟩

/-- The premises of CompatibilityPathComplete (CompatComplete) are met. -/
theorem witness_CompatComplete :
  Meets cmdCompatMap .served (fun _ _ _ => True) ∧
  Meets cmdCompatSurfaceRegister .served (fun z _ p => bitOf (pkW p 0) 19 = false ∧ (∃ i, z.core.free44 65536 0 = some i) ∧ ∃ a n, z.srf.firstFit (pkF p 0 5 0) (pkF p 0 18 18) (regShape p).units = some a ∧ Tbl.lowestFree z.srf.surfs (2 ^ 20) 0 = some n) ∧
  Meets cmdCompatSurfaceFree .served (fun z _ p => ∃ q, unit44 z p = some q ∧ (∃ sf, Tbl.find z.srf.surfs (uNum (pkUnit q)) = some sf ∧ sf.locked = false) ∧ z.srf.copies.any (fun c => c.surf == uNum (pkUnit q)) = false) ∧
  Meets cmdCompatSurfaceCopy .served (fun z _ p => ∃ q, unitWord44 z p = some q ∧ ∃ sf b, z.target q = some sf ∧ z.readBase sf = some b) ∧
  Meets cmdCompatSurfacePalette .served (fun z w p => ∃ q, unit44 z p = some q ∧ ∃ bs, (z.hostRead w (pkW q 0) 1024).2 = .ok bs) ∧
  Meets cmdCompatLayerCommit .served (fun z _ p => ∃ q k, commit44 z p = some q ∧ pkSlot q = some k ∧ (uCls (pkDesc q).source = 0x11 → z.lockFull (uNum (pkDesc q).source) = false)) ∧
  Meets cmdCompatLayerCommit .served (fun z _ p => ∃ q k, commit44 z p = some q ∧ uCls (pkUnit q) = 0x20 ∧ z.pickSlot (uIdx (pkUnit q)) (pkDesc q).scalable = some k ∧ (uCls (pkDesc q).source = 0x11 → z.lockFull (uNum (pkDesc q).source) = false)) ∧
  (∃ (z : State) (p : Packet) (e : CompatEntry) (l : _), pkQuery p = false ∧ pkF p 0 31 0 = 0 ∧ pkUnit p = u44 2 0 0 ∧ Tbl.find z.core.compat (u44 1 0 0) = some e ∧ Tbl.find z.core.compat (pkUnit p) = some l) ∧
  Meets cmdCompatLayerPost .served (fun z _ p => ∃ q, unitWord44 z p = some q ∧ (∃ l, z.layer (pkUnit q) = some l ∧ l.removing = none ∧ l.posts.length < 4) ∧ z.lockFull (uNum (pkW q 0)) = false) ∧
  Meets cmdCompatLayerRemove .served (fun z _ p => ∃ q, unit44 z p = some q ∧ ∃ l, z.layer (pkUnit q) = some l ∧ l.removing = none) ∧
  MeetsAsk cmdCompatOutputStatus (fun z _ p => (unit44 z p).isSome = true) :=
⟨meets _ _ _ (up) (pf) (pk 0x7F80 (uid 0xF4 0 0) [u44 1 0 0 + uid 0x22 0 0 * 2 ^ 32, 1]) (by decide +kernel) (trivial) (trivial),
  meets _ _ _ (compatX fun r => { r with pools := [(2, { first := 0, size := 64 })] }) (vf) (pk 0x7F10 0 [1 + 256 + 16 * 2 ^ 32 + 16 * 2 ^ 48, 0]) (by decide +kernel) (⟨by decide +kernel, ⟨_, gt (by decide +kernel)⟩, _, _, gt (by decide +kernel), gt (by decide +kernel)⟩) (⟨by decide +kernel, ⟨_, gt (by decide +kernel)⟩, _, _, gt (by decide +kernel), gt (by decide +kernel)⟩),
  meets _ _ _ (compatX id) (vf) (pk 0x7F11 (u44 3 0 0) []) (by decide +kernel) (⟨_, gt (by decide +kernel), ⟨_, gt (by decide +kernel), by decide +kernel⟩, by decide +kernel⟩) (⟨_, gt (by decide +kernel), ⟨_, gt (by decide +kernel), by decide +kernel⟩, by decide +kernel⟩),
  meets _ _ _ (compatX id) (vf) (pk 0x7F12 (u44 3 0 0) [u44 3 0 0, 0x1000, 64, 4 * 2 ^ 32 + 4 * 2 ^ 48]) (by decide +kernel) (⟨_, gt (by decide +kernel), _, _, gt (by decide +kernel), gt (by decide +kernel)⟩) (⟨_, gt (by decide +kernel), _, _, gt (by decide +kernel), gt (by decide +kernel)⟩),
  meets _ _ _ (compatX (fun r => { r with surfs := [(3, { aSurf with format := 9 })] })) (vf) (pk 0x7F13 (u44 3 0 0) [0x1000]) (by decide +kernel) (⟨_, gt (by decide +kernel), okOf (by decide +kernel)⟩) (⟨_, gt (by decide +kernel), okOf (by decide +kernel)⟩),
  meets _ _ _ (compatX id) (vf) (pk 0x7F20 (u44 2 0 0) ((u44 3 0 0 + 2 * 2 ^ 40) :: descW.drop 1)) (by decide +kernel) (⟨_, 0, gt (by decide +kernel), by decide +kernel⟩) (⟨_, 0, gt (by decide +kernel), by decide +kernel⟩),
  meets _ _ _ (compatX id) (vf) (pk 0x7F20 (u44 2 0 1) ((u44 3 0 0 + 2 * 2 ^ 40) :: descW.drop 1)) (by decide +kernel) (⟨_, _, gt (by decide +kernel), by decide +kernel, gt (by decide +kernel), by decide +kernel⟩) (⟨_, _, gt (by decide +kernel), by decide +kernel, gt (by decide +kernel), by decide +kernel⟩),
  ⟨compatX id, pk 0x7F20 (u44 2 0 0) [0], { unit := uid 0x22 0 0, bandB := false, made := false }, { unit := uid 0x21 0 0, bandB := false, made := true }, by decide +kernel⟩,
  meets _ _ _ (compatX id) (vf) (pk 0x7F21 (u44 2 0 0) [u44 3 0 0]) (by decide +kernel) (⟨_, gt (by decide +kernel), ⟨_, gt (by decide +kernel), by decide +kernel⟩, by decide +kernel⟩) (⟨_, gt (by decide +kernel), ⟨_, gt (by decide +kernel), by decide +kernel⟩, by decide +kernel⟩),
  meets _ _ _ (compatX id) (vf) (pk 0x7F22 (u44 2 0 0) []) (by decide +kernel) (⟨_, gt (by decide +kernel), _, gt (by decide +kernel), by decide +kernel⟩) (⟨_, gt (by decide +kernel), _, gt (by decide +kernel), by decide +kernel⟩),
  meetsAsk _ _ (compatX id) (vf) (ask 0x7F30 (u44 1 0 0) []) (by decide +kernel) (by decide +kernel)⟩

/-- The premises of CompatibilityPathComplete (CompatAudioAndJournalComplete) are met. -/
theorem witness_CompatAudioAndJournalComplete :
  Meets cmdCompatAudSourceOpen .served (fun z _ p => (unit44 z p).isSome = true) ∧
  Meets cmdCompatAudSourceClose .served (fun z _ p => (unit44 z p).isSome = true) ∧
  Meets cmdCompatAudSinkGain .served (fun z _ p => pkQuery p = false ∧ ∃ q, gain44 z p = some q) ∧
  (∃ (s : State) (c : Cmd) (_ : Who) (_ : Packet), c = cmdCompatAudSourceOpen ∨ c = cmdCompatAudSourceClose ∨ c = cmdCompatAudSinkGain ∧ s.aud.mode = 0) ∧
  MeetsAsk cmdCompatJournalTail (fun _ _ p => pkUnit p = 0) ∧
  Meets cmdCompatJournalSync .served (fun _ _ p => pkUnit p = 0) :=
⟨meets _ _ _ (compatX id) (vf) (pk 0x7F40 (u44 4 0 0) [aSource.w0, aSource.w1, 0]) (by decide +kernel) (by decide +kernel) (by decide +kernel),
  meets _ _ _ ({ (compatX id) with aud := { (compatX id).aud with srcs := [(0, aSource)] } }) (vf) (pk 0x7F41 (u44 4 0 0) []) (by decide +kernel) (by decide +kernel) (by decide +kernel),
  meets _ _ _ (compatX id) (vf) (pk 0x7F42 (u44 5 0 0) [0, 0]) (by decide +kernel) (⟨by decide +kernel, _, gt (by decide +kernel)⟩) (⟨by decide +kernel, _, gt (by decide +kernel)⟩),
  ⟨up, cmdCompatAudSourceOpen, pf, pk 0 0 [], .inl rfl⟩,
  meetsAsk _ _ (up) (vf) (ask 0x7F50 0 [1, 0x1000, 64]) (by decide +kernel) (by decide +kernel),
  meets _ _ _ (up) (vf) (pk 0x7F51 0 []) (by decide +kernel) (by decide +kernel) (by decide +kernel)⟩

/-- The premises of CommandsThatStoreNothing are met. -/
theorem witness_CommandsThatStoreNothing :
  (∃ (port : Port) (c : _) (s t : State), c ∈ ([.nop port, .negotiate port, .journalTail port, .journalSync port, .journalExportBegin port, .journalExportRead port, .journalExportAck port, .journalStatus port, .admissionStatus port, .groupCreate port, .tagCreate port, .tagSet port, .tagGroupSet port, .ledgerStatus port, .sigExpect port, .sigStatus port, .streamDeclare port, .streamStatus port, .ptpSet port, .touchRegionSet port, .touchHandover port, .touchSubscribe port, .touchRebase port, .touchStatus port, .hapChannelSet port, .hapEffectSet port, .hapPlay port, .hapStop port, .hapTouchBind port, .hapScan port, .hapClear port, .hapStatus port, .audModeSet port, .audSourceOpen port, .audSourceClose port, .audBusSet port, .audSinkSet port, .audApply port, .audTdmSet port, .audAssign port, .audHeadsetSet port, .audStatus port, .measureRead port, .secStatus port, .debugStatus port, .peatStatus port, .peatCaptureRead port, .peatRetainSet port, .peatDumpRead port, .peatLogRead port, .wallSet port, .wallStatus port, .pwrStatus port, .pwrSensorRead port, .chkStatus port, .rasterStatus port, .outputStatus port, .patrolStatus port] : List Instr) ∧ exec c s = .next t) :=
⟨.forwarded, .pwrStatus .forwarded, withPacket up pf (ask 0x0E01 dev []), nextOf (exec (.pwrStatus .forwarded) (withPacket up pf (ask 0x0E01 dev []))), by simp, rfl⟩

/-- The premises of NegotiatedVersionIsTheHighestShared are met. -/
theorem witness_NegotiatedVersionIsTheHighestShared :
  (∃ (s : State) (port : Port) (t : State) (w : Who) (p : Packet), cmdNegotiate.taken s port = some (t, w, p) ∧ cmdNegotiate.step7 t w p = true ∧ atSliceOrDevice t w p = true ∧ t.wallAllows w false = true ∧ t.core.jrn.st ≠ .full ∧ chooseVersion (pkF p 0 7 0) (pkF p 0 15 8) = none) ∧
  (∃ (t : State) (w : Who) (_ : Packet) (sl : Slice), t.core.slice w.inst w.slice = some sl) :=
⟨⟨withPacket up pf (pk 1 0 [0x30 + 0x31 * 256, 0]), .forwarded, bare up, pf, pk 1 0 [0x30 + 0x31 * 256, 0], rfl, by decide +kernel⟩,
  ⟨up, pf, pk 1 0 [0x30 + 0x31 * 256, 0], okSlice, by decide +kernel⟩⟩

/-- The premises of InterleaveIsOneToOne are met. -/
theorem witness_InterleaveIsOneToOne :
  (∃ (g off : Nat), 8 ≤ g ∧ g ≤ 16 ∧ off < 2 ^ 35) ∧
  (∃ (g x y : Nat), 8 ≤ g ∧ g ≤ 16 ∧ x < 2 ^ 35 ∧ y < 2 ^ 35 ∧ chanOf g x = chanOf g y ∧ chanAddr g x = chanAddr g y) ∧
  (∃ (s : State) (req : Requester) (g grain : Nat) (t : State), (grain < 8 ∨ 16 < grain) ∧ exec (.memCfgGrainWrite req g grain) s = .next t) ∧
  (∃ (s : State) (g grain : Nat), g < 2 ∧ 8 ≤ grain ∧ grain ≤ 16 ∧ (s.group g).lock = false ∧ (s.group g).st = .training) :=
⟨⟨16, 2 ^ 35 - 1, by decide⟩,
  ⟨8, 2 ^ 34, 2 ^ 34, by decide⟩,
  ⟨up, .dispatch, 0, 17, nextOf (exec (.memCfgGrainWrite .dispatch 0 17) up), .inr (by decide), rfl⟩,
  ⟨upG fun g => { g with st := .training }, 0, 8, by decide +kernel⟩⟩

/-- The premises of LayersComposeInKeyOrder are met. -/
theorem witness_LayersComposeInKeyOrder :
  ((∃ (a b : Desc) (i j : Nat), i < 16 ∧ j < 16 ∧ b.band < a.band) ∧ (∃ (a b : Desc) (i j : Nat), i < 16 ∧ j < 16 ∧ a.band = b.band ∧ a.z < b.z) ∧ (∃ (a b : Desc) (i j : Nat), i < 16 ∧ j < 16 ∧ a.band = b.band ∧ a.z = b.z ∧ i < j)) ∧
  (∃ (_ : State) (sc : Scene) (_ _ : Nat), sc.safetySurf = none) :=
⟨⟨⟨{ aDesc with w0 := 3 * 2 ^ 40 }, { aDesc with w0 := 0 }, 15, 0, by decide⟩, ⟨aDesc, { aDesc with w0 := aDesc.w0 + 2 ^ 48 }, 15, 0, by decide⟩, ⟨aDesc, aDesc, 0, 15, by decide⟩⟩,
  ⟨up, aScene, 0, 0, rfl⟩⟩

/-- The premises of DeviceTimeStepsOnlyAtTheFirstLock are met. -/
theorem witness_DeviceTimeStepsOnlyAtTheFirstLock :
  (∃ (s : State) (i d : Nat) (a : Bool) (off : Int) (m : Nat) (t : State), exec (.ptpMessage i d a off m) s = .next t) ∧
  (∃ (s : State) (i : Nat) (off : Int) (m : Nat), bitOf s.ing.ptp.ports i = true ∧ (Tbl.find s.ing.ports i).elim false EthPort.link = true ∧ s.ing.ptp.st = 2 ∧ s.ing.ptp.goodSyncs = 16 ∧ s.ing.ptp.everLocked = true ∧ -100 ≤ off ∧ off ≤ 100 ∧ 1000 < Machine.dist s.core.now m) ∧
  (∃ (s : State) (n : Nat) (off : Int) (t : State), exec (.rhzTimingMessage n off) s = .next t) :=
⟨⟨ptpX (fun p => { p with st := 2, goodSyncs := 16 }), 0, up.ing.ptp.domain, false, 100, 0, nextOf (exec (.ptpMessage 0 up.ing.ptp.domain false 100 0) (ptpX (fun p => { p with st := 2, goodSyncs := 16 }))), rfl⟩,
  ⟨ptpX fun p => { p with st := 2, goodSyncs := 16, everLocked := true }, 0, 100, 0, by decide +kernel⟩,
  ⟨memberX id, 0, 5000, nextOf (exec (.rhzTimingMessage 0 5000) (memberX id)), rfl⟩⟩

/-- The premises of SecureCommandsWaitOutASecRestart are met. -/
theorem witness_SecureCommandsWaitOutASecRestart :
  (∃ (s : State) (port : Port) (t : State) (w : Who) (p : Packet), cmdTamperClear.ready s port = some (t, w, p) ∧ cmdTamperClear.asks p = false ∧ t.sec.run = .restarting) ∧
  (∃ (s : State) (u : Nat) (t : State), exec (.sigResult u) s = .next t) :=
⟨⟨withPacket (upS fun s => { s with run := .restarting }) secWho (pk 0x0F09 dev []), .forwarded, _, _, _, ready_of _ _ _ _ (by decide +kernel), by decide +kernel⟩,
  ⟨sigX checking, 0, nextOf (exec (.sigResult 0) (sigX checking)), rfl⟩⟩

end Sys2Proof.Tests
end

section
/-! The version a session negotiates (R73), and what a packet that is turned away leaves of the slices. -/

namespace Sys2Proof.Machine

/-! ## The choice of a version -/

/-- In a strictly falling list the first number that passes a test is the highest that passes it. -/
theorem find?_eq_some_iff_highest {l : List Nat} (hl : l.Pairwise (· > ·)) (P : Nat → Bool) (v : Nat) :
    l.find? P = some v ↔ v ∈ l ∧ P v = true ∧ ∀ u ∈ l, P u = true → u ≤ v := by
  induction l with
  | nil => simp
  | cons x xs ih =>
    obtain ⟨hx, hxs⟩ := List.pairwise_cons.mp hl
    rw [List.find?_cons]
    cases hP : P x with
    | true =>
      constructor
      · rintro ⟨⟩
        refine ⟨List.mem_cons_self, hP, fun u hu _ => ?_⟩
        rcases List.mem_cons.mp hu with rfl | hu
        · exact le_rfl
        · exact (hx u hu).le
      · rintro ⟨hv, -, hmax⟩
        rcases List.mem_cons.mp hv with rfl | hv
        · rfl
        · exact absurd (hmax x List.mem_cons_self hP) (hx v hv).not_ge
    | false =>
      have hne : ∀ u, P u = true → u ≠ x := by rintro u hu rfl; simp [hP] at hu
      rw [ih hxs]
      constructor
      · rintro ⟨hv, hPv, hmax⟩
        refine ⟨List.mem_cons_of_mem x hv, hPv, fun u hu hPu => hmax u ?_ hPu⟩
        exact (List.mem_cons.mp hu).resolve_left (hne u hPu)
      · rintro ⟨hv, hPv, hmax⟩
        exact ⟨(List.mem_cons.mp hv).resolve_left (hne v hPv), hPv, fun u hu => hmax u (List.mem_cons_of_mem x hu)⟩

/-- The supported versions, listed from either end. -/
theorem mem_versions_iff (u : Nat) : u ∈ [0x20, 0x13, 0x12, 0x11, 0x10] ↔ u ∈ [0x10, 0x11, 0x12, 0x13, 0x20] :=
  List.mem_reverse (as := [0x10, 0x11, 0x12, 0x13, 0x20])

/-- The version chosen is the highest supported one within the range (R73). -/
theorem chooseVersion_eq_some_iff (lo hi v : Nat) :
    chooseVersion lo hi = some v ↔ v ∈ [0x10, 0x11, 0x12, 0x13, 0x20] ∧ lo ≤ v ∧ v ≤ hi ∧ ∀ u ∈ [0x10, 0x11, 0x12, 0x13, 0x20], lo ≤ u → u ≤ hi → u ≤ v := by
  unfold chooseVersion
  rw [find?_eq_some_iff_highest (by decide)]
  simp only [mem_versions_iff, Bool.and_eq_true, decide_eq_true_eq, and_assoc, and_imp]

/-- No version is chosen exactly where the range holds no supported one (R73). -/
theorem chooseVersion_eq_none_iff (lo hi : Nat) :
    chooseVersion lo hi = none ↔ ∀ u ∈ [0x10, 0x11, 0x12, 0x13, 0x20], ¬ (lo ≤ u ∧ u ≤ hi) := by
  unfold chooseVersion
  simp only [List.find?_eq_none, mem_versions_iff, Bool.and_eq_true, decide_eq_true_eq]

/-! ## A packet that its port hands over -/

/-- The front packet of a slice is a packet of a slice that exists. -/
theorem Core.slice_of_front_go {c : Core} {inst idx : Nat} {p : Packet} {op : Nat} (h : c.front inst idx = .go p op) : ∃ sl, c.slice inst idx = some sl := by
  unfold Core.front at h
  split at h
  · cases h
  · exact ⟨_, ‹_›⟩

/-- A packet that its port hands over is put through steps 7 to 12, whatever they decide. -/
theorem Cmd.exec_of_taken (c : Cmd) (s : State) (port : Port) (t : State) (w : Who) (p : Packet) (h : c.taken s port = some (t, w, p)) :
    c.exec port s = (c.accept t w p).ported port := by
  cases port with
  | slice inst idx =>
    simp only [Cmd.taken] at h
    split at h
    · rename_i q op hfront
      obtain ⟨sl, hsl⟩ := Core.slice_of_front_go hfront
      simp only [Option.ite_none_left_eq_some, not_or, not_not, Option.some.injEq, Prod.mk.injEq] at h
      obtain ⟨⟨rfl, hroom⟩, rfl, rfl, rfl⟩ := h
      simp only [Cmd.exec, Cmd.fromSlice, hfront, hsl, ne_eq, not_true_eq_false, if_false, State.ported]
      rw [if_neg (by simp_all), if_neg (by simp_all)]
    · cases h
  | sec q =>
    simp only [Cmd.taken, Option.ite_none_left_eq_some, not_or, not_not, Option.some.injEq, Prod.mk.injEq] at h
    obtain ⟨⟨hop, hlen, hlow, hcompat, hroom⟩, rfl, rfl, rfl⟩ := h
    simp [Cmd.exec, Cmd.fromSec, State.ported, *]
  | forwarded =>
    simp only [Cmd.taken] at h
    split at h
    · cases h
    · rename_i w' p' rest hfwd
      simp only [Option.ite_none_left_eq_some, not_or, not_not, Option.some.injEq, Prod.mk.injEq] at h
      obtain ⟨⟨hop, hroom⟩, rfl, rfl, rfl⟩ := h
      simp [Cmd.exec, Cmd.fromWall, State.ported, *]

/-- What the arm of a packet command answers for a packet that its port hands over. -/
theorem Cmd.ends_of_taken (c : Cmd) (s : State) (port : Port) (t : State) (w : Who) (p : Packet) (h : c.taken s port = some (t, w, p)) :
    s.ends (c.exec port s) = .next (s.closed port (c.accept t w p)) :=
  c.ends_exec s port _ (c.exec_of_taken s port t w p h)

/-- A packet that is for one unit of this device and fails one of steps 8 to 12 is turned away with the outcome of that step. -/
theorem Cmd.accept_of_steps (c : Cmd) (s : State) (w : Who) (p : Packet) (r : Rsp) (past9 : Bool) (h7 : c.step7 s w p = true)
    (hhere : (s.foreign (pkUnit p) && c.opcode / 2 != 0 && !isCompatOp c.opcode && w.remote.isNone) = false)
    (hone : c.fansOut s w p = false) (hs : c.steps s w p = some (r, past9)) : c.accept s w p = c.turnAway s w p r past9 := by
  unfold Cmd.accept
  simp only [h7, hhere, hone, hs, Bool.not_true, Bool.false_eq_true, if_false]

/-! ## NEGOTIATE without a shared version -/

/-- The arm of NEGOTIATE. -/
theorem exec_negotiate (port : Port) (s : State) : exec (.negotiate port) s = s.ends (cmdNegotiate.exec port s) := rfl

/-- Past steps 8 to 11, a range without a supported version fails step 12. -/
theorem cmdNegotiate_steps_of_no_version (t : State) (w : Who) (p : Packet) (hu : atSliceOrDevice t w p = true) (hw : t.wallAllows w false = true)
    (hj : t.core.jrn.st ≠ .full) (hv : chooseVersion (pkF p 0 7 0) (pkF p 0 15 8) = none) :
    cmdNegotiate.steps t w p = some (Rsp.plain .rejectedVersion, true) := by
  have hasks : cmdNegotiate.asks p = false := rfl
  unfold Cmd.steps
  rw [hasks]
  simp [cmdNegotiate, anyone, hu, hw, hj, hv]

/-- A NEGOTIATE that passes every earlier check and shares no version is turned away with REJECTED_VERSION. -/
theorem cmdNegotiate_accept_of_no_version (t : State) (w : Who) (p : Packet) (h7 : cmdNegotiate.step7 t w p = true) (hu : atSliceOrDevice t w p = true)
    (hw : t.wallAllows w false = true) (hj : t.core.jrn.st ≠ .full) (hv : chooseVersion (pkF p 0 7 0) (pkF p 0 15 8) = none) :
    cmdNegotiate.accept t w p = cmdNegotiate.turnAway t w p (Rsp.plain .rejectedVersion) true := by
  have hunit : cmdNegotiate.unitOk t w p = true := hu
  apply Cmd.accept_of_steps _ _ _ _ _ _ h7
  · simp [cmdNegotiate]
  · simp [Cmd.fansOut, hunit]
  · exact cmdNegotiate_steps_of_no_version t w p hu hw hj hv

/-! ## The slices while entries are written -/

/-- An entry that is changed in place. -/
theorem Tbl.find_upd_same {α : Type} (t : Tbl α) (n : Nat) (f : α → α) : Tbl.find (Tbl.upd t n f) n = (Tbl.find t n).map f := by
  induction t with
  | nil => rfl
  | cons e t ih =>
    obtain ⟨k, w⟩ := e
    by_cases hk : k = n
    · simp [Tbl.upd, Tbl.find, hk]
    · simp [Tbl.upd, Tbl.find, hk, ih]

@[simp] theorem Core.slice_updSlice (c : Core) (inst idx : Nat) (f : Slice → Slice) : (c.updSlice inst idx f).slice inst idx = (c.slice inst idx).map f :=
  Tbl.find_upd_same _ _ _

/-- Both branches leave the slices n. -/
theorem slices_ite {α : Type} {P : Prop} [Decidable P] {x y : Core × α} {n : Tbl Slice} (hx : x.1.slices = n) (hy : y.1.slices = n) :
    (if P then x else y).1.slices = n := by
  split
  · exact hx
  · exact hy

theorem Core.tlbAdd_slices (c : Core) (e : TlbEntry) : (c.tlbAdd e).slices = c.slices := by rw [Core.tlbAdd]

/-- Stage 2 fills the translation cache at most. -/
theorem Core.stage2Of_slices (c : Core) (inst a : Nat) (write : Bool) : (c.stage2Of inst a write).1.slices = c.slices := by
  unfold Core.stage2Of
  refine slices_ite rfl (slices_ite rfl ?_)
  generalize c.tlbFind inst 0 2 (a / 4096) = cached
  cases cached with
  | some e => rfl
  | none =>
    dsimp only
    generalize walk _ _ _ _ _ = leaf
    rcases leaf with _ | ⟨page, r, w⟩
    · rfl
    · exact c.tlbAdd_slices _

/-- Both stages fill the translation cache at most. -/
theorem Core.translate_slices (c : Core) (inst : Nat) (sl : Slice) (a : Nat) (write : Bool) : (c.translate inst sl a write).1.slices = c.slices := by
  have after2 {d e : Core} {b : Nat} {o : Option Nat} (h : d.stage2Of inst b write = (e, o)) : e.slices = d.slices := by
    rw [← d.stage2Of_slices inst b write, h]
  unfold Core.translate
  refine slices_ite ?_ (slices_ite rfl ?_)
  · dsimp only
    split <;> exact after2 ‹_›
  · generalize c.tlbFind inst sl.pasid 1 (a / 4096) = cached
    cases cached with
    | some e =>
      refine slices_ite ?_ rfl
      dsimp only
      split <;> exact after2 ‹_›
    | none =>
      dsimp only
      generalize walk _ _ _ _ _ = leaf
      rcases leaf with _ | ⟨page, r, w⟩
      · rfl
      · refine slices_ite ?_ (c.tlbAdd_slices _)
        rw [← c.tlbAdd_slices]
        split <;> exact after2 ‹_›

/-- Host memory is not the slice table: a write at a slice IOVA. -/
theorem Core.dmaWrite_slices (inst : Nat) (sl : Slice) (bs : List Byte) (c : Core) (a : Nat) : (Core.dmaWrite inst sl bs c a).1.slices = c.slices := by
  induction bs generalizing c a with
  | nil => rfl
  | cons v vs ih =>
    have htr := c.translate_slices inst sl a true
    rw [Core.dmaWrite]
    split
    · rename_i c1 st h
      rw [h] at htr
      exact htr
    · rename_i c1 b h
      rw [h] at htr
      exact (ih _ _).trans htr

/-- Host memory is not the slice table: a write that stage 2 alone translates. -/
@[simp] theorem Core.wr2_slices (inst : Nat) (bs : List Byte) (c : Core) (a : Nat) : (Core.wr2 inst bs c a).slices = c.slices := by
  induction bs generalizing c a with
  | nil => rfl
  | cons v vs ih =>
    have hst := c.stage2Of_slices inst a true
    rw [Core.wr2]
    split
    all_goals
      rename_i h
      rw [h] at hst
      exact (ih _ _).trans hst

@[simp] theorem Core.raise_slices (c : Core) (inst vec : Nat) : (c.raise inst vec).slices = c.slices := by
  unfold Core.raise
  dsimp only
  split
  · split <;> rfl
  · rfl

@[simp] theorem Core.notify_slices (c : Core) (type inst key : Nat) (data : List Byte) : (c.notify type inst key data).slices = c.slices := by
  unfold Core.notify
  dsimp only
  split
  · exact Core.wr2_slices _ _ _ _
  · split
    · rfl
    · split
      · rfl
      · split <;> rfl

@[simp] theorem Core.syncCb_slices (c : Core) (inst idx : Nat) : (c.syncCb inst idx).slices = c.slices := by
  unfold Core.syncCb
  split
  · rfl
  · exact Core.wr2_slices _ _ _ _

@[simp] theorem Core.countOldGen_slices (c : Core) (u : Nat) : (c.countOldGen u).slices = c.slices := by
  unfold Core.countOldGen
  dsimp only
  split <;> rfl

/-! ## A slice keeps its version, and its state unless it halts -/

/-- What completing a packet leaves of a slice: its version, and its state but where it halted (R65, R119). -/
def Slice.KeptOrHalted (sl u : Slice) : Prop := u.ver = sl.ver ∧ (u.st = sl.st ∨ u.st = .halted)

theorem Slice.KeptOrHalted.refl (sl : Slice) : sl.KeptOrHalted sl := ⟨rfl, .inl rfl⟩

theorem Slice.KeptOrHalted.trans {a b c : Slice} (hab : a.KeptOrHalted b) (hbc : b.KeptOrHalted c) : a.KeptOrHalted c := by
  obtain ⟨hv, hs⟩ := hab
  obtain ⟨hv', hs'⟩ := hbc
  refine ⟨hv'.trans hv, ?_⟩
  rcases hs' with h | h
  · rw [h]; exact hs
  · exact .inr h

/-- From core c to core d a slice that exists stays, with its version, and its state unless it halted. -/
def Core.KeepsSlice (inst idx : Nat) (c d : Core) : Prop := ∀ sl, c.slice inst idx = some sl → ∃ u, d.slice inst idx = some u ∧ sl.KeptOrHalted u

section
variable {inst idx : Nat}

theorem Core.KeepsSlice.trans {a b c : Core} (hab : Core.KeepsSlice inst idx a b) (hbc : Core.KeepsSlice inst idx b c) : Core.KeepsSlice inst idx a c := by
  intro sl ha
  obtain ⟨u, hb, hu⟩ := hab sl ha
  obtain ⟨v, hc, hv⟩ := hbc u hb
  exact ⟨v, hc, hu.trans hv⟩

/-- A change outside the slice table keeps every slice. -/
theorem Core.KeepsSlice.of_slices_eq {c d : Core} (h : d.slices = c.slices) : Core.KeepsSlice inst idx c d := by
  intro sl hc
  refine ⟨sl, ?_, .refl sl⟩
  rw [← hc]
  unfold Core.slice
  rw [h]

theorem Core.KeepsSlice.refl (c : Core) : Core.KeepsSlice inst idx c c := .of_slices_eq rfl

/-- A change of the slice itself that leaves VER alone, and its state or halts it. -/
theorem Core.KeepsSlice.updSlice (c : Core) (f : Slice → Slice) (hf : ∀ sl : Slice, sl.KeptOrHalted (f sl)) : Core.KeepsSlice inst idx c (c.updSlice inst idx f) := by
  intro sl hc
  exact ⟨f sl, by rw [Core.slice_updSlice, hc]; rfl, hf sl⟩

/-- Writing an entry moves a ring's position. -/
theorem Core.writeEntry_keepsSlice (c : Core) (sl : Slice) (k : RingKind) (e : List Byte) : Core.KeepsSlice inst idx c (c.writeEntry inst idx sl k e).1 := by
  unfold Core.writeEntry
  dsimp only
  have hdma := Core.dmaWrite_slices inst sl (withPhase (ringPos sl k).phase (fit 32 e)) c (ringBase sl.rings k + (ringPos sl k).next)
  split
  · rename_i c1 h
    rw [h] at hdma
    have hpos : ∀ s : Slice, s.KeptOrHalted (setRingPos s k (ringStep (ringSize sl.rings k) (ringPos sl k))) := by
      intro s; cases k <;> exact .refl s
    exact ((Core.KeepsSlice.of_slices_eq hdma).trans (.updSlice c1 _ hpos)).trans (.of_slices_eq (Core.raise_slices _ _ _))
  · rename_i c1 f h
    rw [h] at hdma
    exact .of_slices_eq hdma

theorem Core.writeEntry_keepsSlice_of_eq {c d : Core} {sl : Slice} {k : RingKind} {e : List Byte} {o : Option (Nat × Nat)} (h : c.writeEntry inst idx sl k e = (d, o)) :
    Core.KeepsSlice inst idx c d := by
  have hw := c.writeEntry_keepsSlice (inst := inst) (idx := idx) sl k e
  rw [h] at hw
  exact hw

/-- Stopping a slice halts it. -/
theorem Core.stopSlice_keepsSlice (c : Core) : Core.KeepsSlice inst idx c (c.stopSlice inst idx) := by
  unfold Core.stopSlice
  split
  · exact .refl c
  · split
    · exact .refl c
    · refine (Core.KeepsSlice.updSlice c (fun s => { s with st := .halted }) fun _ => ⟨rfl, .inr rfl⟩).trans (.of_slices_eq ?_)
      rw [Core.syncCb_slices]
      exact Core.notify_slices _ _ _ _ _

theorem Core.faultRec_keepsSlice (c : Core) (type addr unit detail : Nat) : Core.KeepsSlice inst idx c (c.faultRec inst idx type addr unit detail) := by
  unfold Core.faultRec
  split
  · exact .refl c
  · rename_i sl hsl
    split
    · exact .of_slices_eq rfl
    · split
      · rename_i c1 h
        exact Core.writeEntry_keepsSlice_of_eq h
      · rename_i c1 f h
        exact (Core.writeEntry_keepsSlice_of_eq h).trans c1.stopSlice_keepsSlice

theorem Core.halt_keepsSlice (c : Core) (off : Nat) : Core.KeepsSlice inst idx c (c.halt inst idx off) :=
  (c.faultRec_keepsSlice _ _ _ _).trans (Core.stopSlice_keepsSlice _)

/-- Writing a completion or status entry moves a ring's position, or halts the slice where the ring does not translate (R119, log entry 29). -/
theorem Core.putEntry_keepsSlice (c : Core) (sl : Slice) (k : RingKind) (e : List Byte) : Core.KeepsSlice inst idx c (c.putEntry inst idx sl k e) := by
  unfold Core.putEntry
  split
  · rename_i c1 h
    exact Core.writeEntry_keepsSlice_of_eq h
  · rename_i c1 f h
    have hrec := (Core.writeEntry_keepsSlice_of_eq h).trans (c1.faultRec_keepsSlice 0x0001 f.1 0 (f.2 + b2n true * 4))
    dsimp only
    split
    · exact hrec
    · exact hrec.trans (Core.halt_keepsSlice _ _)

/-- A completion keeps the slice it goes to. -/
theorem Core.complete_keepsSlice (c : Core) (w : Who) (p : Packet) (r : Rsp) (final durable : Bool) (jseq : Nat) : Core.KeepsSlice w.inst w.slice c (c.complete w p r final durable jseq) := by
  unfold Core.complete
  split
  · exact .of_slices_eq rfl
  · extract_lets counted
    refine (Core.KeepsSlice.of_slices_eq (d := counted) rfl).trans ?_
    clear_value counted
    split
    · split <;> exact .of_slices_eq rfl
    · split
      · exact .of_slices_eq (Core.countOldGen_slices _ _)
      · rename_i sl _
        split
        · exact .of_slices_eq (Core.countOldGen_slices _ _)
        · extract_lets completed
          have hput : Core.KeepsSlice w.inst w.slice counted completed := counted.putEntry_keepsSlice sl .cmp _
          refine hput.trans ?_
          split
          · exact .updSlice _ _ fun s => .refl s
          · exact .refl _

theorem Core.completeOrWait_keepsSlice (c : Core) (w : Who) (p : Packet) (r : Rsp) (sync : Bool) (jseq : Nat) : Core.KeepsSlice w.inst w.slice c (c.completeOrWait w p r sync jseq) := by
  unfold Core.completeOrWait
  split
  · exact .of_slices_eq rfl
  · exact c.complete_keepsSlice w p r true _ jseq

/-- A packet's record notes its sequence in the slice. -/
theorem Core.journalPacket_keepsSlice (c : Core) (w : Who) (p : Packet) (op : Nat) (st : Status) : Core.KeepsSlice w.inst w.slice c (c.journalPacket w p op st).1 := by
  unfold Core.journalPacket
  dsimp only
  split
  · exact .of_slices_eq rfl
  · exact Core.KeepsSlice.trans (.of_slices_eq rfl) (.updSlice _ _ fun s => .refl s)

theorem State.journalIf_keepsSlice (s : State) (yes : Bool) (w : Who) (p : Packet) (op : Nat) (st : Status) : Core.KeepsSlice w.inst w.slice s.core (s.journalIf yes w p op st).1.core := by
  unfold State.journalIf
  split
  · exact s.core.journalPacket_keepsSlice w p op st
  · exact .refl _

end

/-- A packet that is turned away leaves its slice with its version, and with its state unless it halts. -/
theorem Cmd.turnAway_keepsSlice (c : Cmd) (s : State) (w : Who) (p : Packet) (r : Rsp) (past9 : Bool) : Core.KeepsSlice w.inst w.slice s.core (c.turnAway s w p r past9).core := by
  unfold Cmd.turnAway
  dsimp only
  rw [State.mapCore_core]
  refine Core.KeepsSlice.trans ?_ (Core.completeOrWait_keepsSlice _ w p r _ _)
  split
  · exact (s.journalIf_keepsSlice _ w p _ _).trans (.of_slices_eq rfl)
  · exact s.journalIf_keepsSlice _ w p _ _

/-- Settles O56: the supported versions are listed from the highest down, so the first within the range is the highest; a NEGOTIATE without one fails at step 12, and the completion that turns it away moves a ring position or halts the slice. -/
theorem negotiatedVersionIsTheHighestShared : Obligations.NegotiatedVersionIsTheHighestShared := by
  unfold Obligations.NegotiatedVersionIsTheHighestShared
  refine ⟨chooseVersion_eq_some_iff, chooseVersion_eq_none_iff, ?_, ?_⟩
  · intro s port t w p htaken h7 hu hw hj hv
    rw [exec_negotiate, Cmd.ends_of_taken _ s port t w p htaken, cmdNegotiate_accept_of_no_version t w p h7 hu hw hj hv]
  · intro t w p sl hsl
    exact cmdNegotiate.turnAway_keepsSlice t w p _ true sl hsl

end Sys2Proof.Machine
end

section
/-! The channel interleave (R145), and what a write of the grain leaves of the groups (R146). -/

namespace Sys2Proof.Machine

/-! ## Channel and channel address -/

/-- The channel is the three bits of the offset above the grain. -/
theorem chanOf_eq_fld (g off : Nat) : chanOf g off = fld off (g + 2) g := by
  have hwidth : g + 2 + 1 - g = 3 := by omega
  rw [chanOf, fld, hwidth, Nat.shiftRight_eq_div_pow]
  rfl

/-- The bits from lo up to hi are all above lo where the number ends at hi. -/
theorem fld_eq_div {w hi lo : Nat} (hlo : lo ≤ hi) (hw : w < 2 ^ (hi + 1)) : fld w hi lo = w / 2 ^ lo := by
  rw [fld, Nat.shiftRight_eq_div_pow]
  refine Nat.mod_eq_of_lt (Nat.div_lt_of_lt_mul ?_)
  rwa [← pow_add, Nat.add_sub_cancel' (by omega)]

/-- The channel address is the offset's bits above the channel, then its bits below it. -/
theorem chanAddr_eq_fld {g off : Nat} (hg : 1 ≤ g) (hg31 : g ≤ 31) (hoff : off < 2 ^ 35) :
    chanAddr g off = fld off 34 (g + 3) * 2 ^ g + fld off (g - 1) 0 := by
  have hlow : fld off (g - 1) 0 = off % 2 ^ g := by
    rw [fld, Nat.shiftRight_zero, Nat.sub_add_cancel hg, Nat.sub_zero]
  rw [chanAddr, hlow, fld_eq_div (by omega) hoff]

/-- The upper part of a channel address. -/
theorem chanAddr_div (g off : Nat) : chanAddr g off / 2 ^ g = off / 2 ^ (g + 3) := by
  rw [chanAddr, Nat.mul_comm, Nat.mul_add_div (by positivity), Nat.div_eq_of_lt (Nat.mod_lt _ (by positivity)), Nat.add_zero]

/-- The lower part of a channel address. -/
theorem chanAddr_mod (g off : Nat) : chanAddr g off % 2 ^ g = off % 2 ^ g := by
  rw [chanAddr, Nat.mul_comm, Nat.mul_add_mod, Nat.mod_mod]

/-- Channel and channel address put together give the offset back. -/
theorem offset_of_chanOf_chanAddr (g off : Nat) : 2 ^ g * (8 * (chanAddr g off / 2 ^ g) + chanOf g off) + chanAddr g off % 2 ^ g = off := by
  have hgrains : 8 * (off / 2 ^ (g + 3)) + chanOf g off = off / 2 ^ g := by
    rw [chanOf, pow_add, ← Nat.div_div_eq_div_mul]
    exact Nat.div_add_mod _ 8
  rw [chanAddr_div, chanAddr_mod, hgrains]
  exact Nat.div_add_mod off (2 ^ g)

/-- Two offsets never share both channel and channel address. -/
theorem eq_of_chanOf_eq_of_chanAddr_eq {g x y : Nat} (hchan : chanOf g x = chanOf g y) (haddr : chanAddr g x = chanAddr g y) : x = y := by
  rw [← offset_of_chanOf_chanAddr g x, hchan, haddr, offset_of_chanOf_chanAddr]

/-! ## Memory groups -/

@[simp] theorem State.kept_group (s t : State) (g : Nat) : (s.kept t).group g = t.group g := rfl

@[simp] theorem State.group_updGroup_same (s : State) (g : Nat) (f : MemGroup → MemGroup) : (s.updGroup g f).group g = f (s.group g) := by
  unfold State.updGroup State.group
  split <;> rfl

/-- A change of one group leaves what it does not touch of any group. -/
theorem State.part_group_updGroup {α : Type} (part : MemGroup → α) (s : State) (g h : Nat) {f : MemGroup → MemGroup} (hf : ∀ m, part (f m) = part m) :
    part ((s.updGroup g f).group h) = part (s.group h) := by
  unfold State.updGroup State.group
  by_cases hh : h = 0
  · simp only [if_pos hh]
    split
    · exact hf _
    · rfl
  · simp only [if_neg hh]
    split
    · rfl
    · exact hf _

/-- What a register write leaves alone where it is applied, and where it is counted, it leaves alone whoever makes it (R623, R627, R631). -/
theorem State.regWrite_part {α : Type} (part : State → α) {s : State} {go : State → State} (hgo : part (go s) = part s)
    (hignored : part s.ignored = part s) (hdenied : part s.worldDeny = part s) (req : Requester) (canvas pfWrites secure : Bool) :
    part (s.regWrite req canvas pfWrites secure go) = part s := by
  unfold State.regWrite
  cases req with
  | vf _ => rfl
  | pf =>
    dsimp only
    split
    · exact hdenied
    · split
      · exact hgo
      · exact hignored
  | dispatch | mgmt | sec =>
    dsimp only
    split
    · exact hdenied
    · exact hgo

/-! ## A write of the grain -/

/-- What a write of MEMx_CFG.GRAIN does to its group once it is applied (R146). -/
def State.writeGrain (s : State) (g grain : Nat) : State :=
  let ok := !(s.group g).lock && decide (8 ≤ grain) && decide (grain ≤ 16) && ((s.group g).st == .training || ((s.group g).st == .active && !s.holdsSurface g))
  s.updGroup g (fun m => if ok then { m with grain := grain } else { m with cfgWrDrop := satInc m.cfgWrDrop })

theorem exec_memCfgGrainWrite (req : Requester) (g grain : Nat) (s : State) :
    exec (.memCfgGrainWrite req g grain) s = .next (s.kept (s.regWrite req true false false fun t => t.writeGrain (g % 2) grain)) := rfl

/-- The dispatch firmware's write is applied (R620). -/
theorem exec_memCfgGrainWrite_dispatch (g grain : Nat) (s : State) :
    exec (.memCfgGrainWrite .dispatch g grain) s = .next (s.kept (s.writeGrain (g % 2) grain)) := rfl

/-- A grain out of range is dropped and counted. -/
theorem State.writeGrain_of_out_of_range (s : State) (g : Nat) {grain : Nat} (h : grain < 8 ∨ 16 < grain) :
    s.writeGrain g grain = s.updGroup g (fun m => { m with cfgWrDrop := satInc m.cfgWrDrop }) := by
  rcases h with hlow | hhigh
  · simp [State.writeGrain, Nat.not_le_of_lt hlow]
  · simp [State.writeGrain, Nat.not_le_of_lt hhigh]

/-- A grain in range is set in an unlocked group in TRAINING. -/
theorem State.writeGrain_of_training {s : State} {g grain : Nat} (h8 : 8 ≤ grain) (h16 : grain ≤ 16) (hlock : (s.group g).lock = false) (hst : (s.group g).st = .training) :
    s.writeGrain g grain = s.updGroup g (fun m => { m with grain := grain }) := by
  simp [State.writeGrain, h8, h16, hlock, hst]

/-- Settles O57: the channel and the channel address split the offset at the grain, so together they give it back; a grain out of range takes the branch that only counts. -/
theorem interleaveIsOneToOne : Obligations.InterleaveIsOneToOne := by
  unfold Obligations.InterleaveIsOneToOne
  refine ⟨?_, ?_, ?_, ?_⟩
  · intro g off h8 h16 hoff
    exact ⟨chanOf_eq_fld g off, chanAddr_eq_fld (by omega) (by omega) hoff⟩
  · intro g x y _ _ _ _ hchan haddr
    exact eq_of_chanOf_eq_of_chanAddr_eq hchan haddr
  · intro s req g grain t hgrain hexec h
    have hwrite : ((s.writeGrain (g % 2) grain).group h).grain = (s.group h).grain := by
      rw [s.writeGrain_of_out_of_range (g % 2) hgrain]
      exact s.part_group_updGroup MemGroup.grain (g % 2) h fun _ => rfl
    rw [exec_memCfgGrainWrite] at hexec
    cases hexec
    rw [State.kept_group]
    exact State.regWrite_part (fun t => (t.group h).grain) hwrite rfl rfl req true false false
  · intro s g grain hg h8 h16 hlock hst
    refine ⟨_, exec_memCfgGrainWrite_dispatch g grain s, ?_⟩
    rw [Nat.mod_eq_of_lt hg, State.writeGrain_of_training h8 h16 hlock hst, State.kept_group, State.group_updGroup_same]

end Sys2Proof.Machine
end

section
/-! The order in which a frond composes its layers: band rank, then Z, then slot (R219). -/

namespace Sys2Proof.Machine

/-! ## The order key -/

/-- A field is smaller than the number of values its bits can hold. -/
theorem fld_lt (w hi lo : Nat) : fld w hi lo < 2 ^ (hi + 1 - lo) := Nat.mod_lt _ (Nat.two_pow_pos _)

/-- BAND is two bits. -/
theorem Desc.band_lt (d : Desc) : d.band < 4 := fld_lt d.w0 41 40

/-- Z is 16 bits. -/
theorem Desc.z_lt (d : Desc) : d.z < 65536 := fld_lt d.w0 63 48

section
variable {a b : Desc} {i j : Nat}

/-- A higher band rank outweighs any Z and any slot. -/
theorem Desc.key_lt_of_band (hi : i < 16) (hband : b.band < a.band) : a.key i < b.key j := by
  have hza := a.z_lt
  have hba := a.band_lt
  unfold Desc.key
  omega

/-- Within a band a higher Z outweighs any slot. -/
theorem Desc.key_lt_of_z (hi : i < 16) (hband : a.band = b.band) (hz : a.z < b.z) : a.key i < b.key j := by
  unfold Desc.key
  rw [hband]
  omega

/-- Between equal bands and Z values a higher slot decides. -/
theorem Desc.key_lt_of_slot (hband : a.band = b.band) (hz : a.z = b.z) (hslot : i < j) : a.key i < b.key j := by
  unfold Desc.key
  rw [hband, hz]
  exact Nat.add_lt_add_left hslot _

/-- No field but BAND and Z, and the slot, enters the key. -/
theorem Desc.key_eq (hband : a.band = b.band) (hz : a.z = b.z) (hslot : i = j) : a.key i = b.key j := by
  unfold Desc.key
  rw [hband, hz, hslot]

end

/-! ## The stack of a scene -/

/-- A stack is in ascending order of the key. -/
theorem Scene.stack_pairwise (sc : Scene) (bandA : Bool) : (sc.stack bandA).Pairwise (fun a b => a.desc.key a.slot ≤ b.desc.key b.slot) := by
  unfold Scene.stack
  refine (List.pairwise_mergeSort ?_ ?_ _).imp of_decide_eq_true
  · intro a b c hab hbc
    exact decide_eq_true ((of_decide_eq_true hab).trans (of_decide_eq_true hbc))
  · intro a b
    rw [Bool.or_eq_true, decide_eq_true_iff, decide_eq_true_iff]
    exact Nat.le_total _ _

/-- A stack holds the layers of band A, or those of the other bands, and no other. -/
theorem Scene.stack_perm (sc : Scene) (bandA : Bool) : (sc.stack bandA).Perm (sc.layers.filter (fun l => (l.desc.band == 0) == bandA)) :=
  List.mergeSort_perm _ _

/-- Without a safety copy the lower composition is bands B to D over the background. -/
theorem State.composeLow_of_no_safety (s : State) {sc : Scene} (x y : Nat) (h : sc.safetySurf = none) :
    s.composeLow sc x y = (sc.stack false).foldl (s.blendLayer x y) (bgPx sc.bg) := by
  rw [State.composeLow, h]
  rfl

/-- Settles O58: the sort orders each stack by a key in which a higher rank outweighs every Z and a higher Z every slot, and band A is blended over the composition of the rest. -/
theorem layersComposeInKeyOrder : Obligations.LayersComposeInKeyOrder := by
  unfold Obligations.LayersComposeInKeyOrder
  refine ⟨?_, ?_, ?_⟩
  · intro sc bandA
    exact ⟨sc.stack_pairwise bandA, sc.stack_perm bandA⟩
  · intro a b i j hi _
    exact ⟨Desc.key_lt_of_band hi, Desc.key_lt_of_z hi, Desc.key_lt_of_slot, Desc.key_eq⟩
  · intro s sc x y h
    rw [State.composeAt, s.composeLow_of_no_safety x y h]

end Sys2Proof.Machine
end

section
/-! What a SEC restart holds up (R353, R523) and what it does not: the secure commands wait, the results of the signed regions go on. -/

namespace Sys2Proof.Machine

/-! ## A secure command while the SEC restarts -/

/-- While the SEC restarts, a secure command that passed its checks is put off before its meaning is looked at (R523). -/
theorem Cmd.execute_of_secRestarting (c : Cmd) (s : State) (w : Who) (p : Packet) (hsecure : c.secure = true) (hasks : c.asks p = false) (hrun : s.sec.run = .restarting) :
    c.execute s w p = c.putOff s w p (Rsp.plain .delayedSecureRestart) false (fun z => (z, .secRestart)) := by
  unfold Cmd.execute
  rw [if_neg (by simp [hasks]), if_pos (by simp [hsecure, hrun])]
  rfl

/-- The arm of a secure command: it runs the command, from whatever port. -/
def Cmd.SecureArm (c : Cmd) (i : Port → Instr) : Prop := c.secure = true ∧ ∀ port s, Machine.exec (i port) s = s.ends (c.exec port s)

theorem Cmd.SecureArm.exec_of_secRestarting {c : Cmd} {i : Port → Instr} (harm : c.SecureArm i) {s : State} {port : Port} {t : State} {w : Who} {p : Packet}
    (hready : c.ready s port = some (t, w, p)) (hasks : c.asks p = false) (hrun : t.sec.run = .restarting) :
    Machine.exec (i port) s = .next (s.closed port (c.putOff t w p (Rsp.plain .delayedSecureRestart) false (fun z => (z, .secRestart)))) := by
  obtain ⟨hsecure, hexec⟩ := harm
  rw [hexec, c.exec_ready s port t w p hready, c.execute_of_secRestarting t w p hsecure hasks hrun]

/-! ## A signed region's result does not look at the SEC -/

/-- The state with another SEC. -/
def State.withSec (s : State) (x : Sec) : State := { s with sec := x }

section
variable (s : State) (x : Sec)

@[simp] theorem State.withSec_core : (s.withSec x).core = s.core := rfl
@[simp] theorem State.withSec_led : (s.withSec x).led = s.led := rfl
@[simp] theorem State.sreg_withSec (u : Nat) : (s.withSec x).sreg u = s.sreg u := rfl
@[simp] theorem State.frond_withSec (f : Nat) : (s.withSec x).frond f = s.frond f := rfl
@[simp] theorem State.ledgerNow_withSec : (s.withSec x).ledgerNow = s.ledgerNow := rfl

theorem State.applyRefresh_withSec (n stamp : Nat) (moving : Bool) :
    ((s.withSec x).applyRefresh n stamp moving).1 = (s.applyRefresh n stamp moving).1.withSec x := by
  unfold State.applyRefresh
  rw [State.withSec_led, State.ledgerNow_withSec]
  cases Tbl.find s.led.tags n with
  | none => rfl
  | some t =>
    dsimp only
    split_ifs <;> rfl

theorem State.pathRefresh_withSec (n path source stamp : Nat) (moving : Bool) :
    (s.withSec x).pathRefresh n path source stamp moving = (s.pathRefresh n path source stamp moving).withSec x := by
  unfold State.pathRefresh
  rw [State.withSec_led]
  cases Tbl.find s.led.tags n with
  | none => rfl
  | some t =>
    dsimp only
    split
    · exact s.applyRefresh_withSec x n stamp moving
    · rfl

/-- What a region's result writes once its values are drawn: the region and the log, the fault it raises, the capture it asks for. -/
def State.writeResult (s : State) (u : Nat) (r : SRegion) (dropped : Nat) (upd : SRegion → SRegion) (entry data : List Byte) (bad cap : Bool) : State :=
  let s1 := s.updSreg (subKey u) upd
  let s2 := { s1 with led := { s1.led with results := s1.led.results ++ [entry], sigSkipped := satAdd s1.led.sigSkipped dropped } }
  let s3 := (if bad then s2.mapCore (fun k => (k.irq .secSigFault).event 0xFE40 0 u u data) else s2).noteCaptures u r.crcFrame
  if cap then s3.requestCapture 3 u (uIdx u) r.crcFrame 0 r.inst 0 else s3

theorem State.writeResult_withSec (u : Nat) (r : SRegion) (dropped : Nat) (upd : SRegion → SRegion) (entry data : List Byte) (bad cap : Bool) :
    (s.withSec x).writeResult u r dropped upd entry data bad cap = (s.writeResult u r dropped upd entry data bad cap).withSec x := by
  cases bad <;> cases cap <;> rfl

/-- The tags that take their refreshes from a signed region, refreshed by a result that passes (R310). -/
def State.refreshTags (s : State) (u stamp : Nat) (refreshes : Bool) : State :=
  if refreshes then (s.tagsFrom 2 u).foldl (fun t n => t.pathRefresh n 2 u stamp false) s else s

theorem State.refreshTags_withSec (u stamp : Nat) (refreshes : Bool) :
    (s.withSec x).refreshTags u stamp refreshes = (s.refreshTags u stamp refreshes).withSec x := by
  cases refreshes with
  | false => rfl
  | true => exact List.foldl_hom (State.withSec · x) fun t n => t.pathRefresh_withSec x n 2 u stamp false

theorem State.refreshTags_writeResult_withSec (u : Nat) (r : SRegion) (dropped : Nat) (upd : SRegion → SRegion) (entry data : List Byte) (bad cap refreshes : Bool) :
    ((s.withSec x).writeResult u r dropped upd entry data bad cap).refreshTags u r.tapAt refreshes =
      ((s.writeResult u r dropped upd entry data bad cap).refreshTags u r.tapAt refreshes).withSec x := by
  rw [State.writeResult_withSec, State.refreshTags_withSec]

/-- The values of a result come from the region, its frond and device time; what it does with them is `writeResult`, then `refreshTags`. -/
theorem State.sigResult_withSec (u : Nat) : (s.withSec x).sigResult u = (s.sigResult u).withSec x := by
  unfold State.sigResult
  rw [State.sreg_withSec]
  cases s.sreg u with
  | none => rfl
  | some r =>
    dsimp only [State.frond_withSec, State.withSec_core]
    split
    · rfl
    · exact s.refreshTags_writeResult_withSec x u r _ _ _ _ _ _ _

/-- SIG_RESULT does the same beside any other SEC. -/
theorem exec_sigResult_withSec (u : Nat) {t : State} (h : exec (.sigResult u) s = .next t) : exec (.sigResult u) (s.withSec x) = .next (t.withSec x) := by
  change s.ends (s.sigResult (uKey u)) = .next t at h
  change (s.withSec x).ends ((s.withSec x).sigResult (uKey u)) = .next (t.withSec x)
  rw [State.ends_eq] at h ⊢
  cases h
  rw [State.sigResult_withSec]
  rfl

end

/-- Settles O60: each listed command is secure, and a secure command is put off before its meaning runs; a result reads and writes nothing of the SEC. -/
theorem secureCommandsWaitOutASecRestart : Obligations.SecureCommandsWaitOutASecRestart := by
  unfold Obligations.SecureCommandsWaitOutASecRestart
  refine ⟨?_, ?_⟩
  · intro e he s port t w p hready hasks hrun
    have harm : e.1.SecureArm e.2 := by
      simp only [List.mem_cons, List.not_mem_nil, or_false] at he
      rcases he with rfl | rfl | rfl | rfl | rfl | rfl | rfl | rfl | rfl | rfl | rfl | rfl | rfl <;> exact ⟨rfl, fun _ _ => rfl⟩
    exact harm.exec_of_secRestarting hready hasks hrun
  · intro s u t h
    exact ⟨_, exec_sigResult_withSec s { s.sec with run := .restarting } u h, rfl⟩

end Sys2Proof.Machine
end

section
/-! The queries of the security group: the modes, the debug port, the measurement registers (R516) and the attestation report (R517). -/

namespace Sys2Proof.Machine

/-! ## What a query of the security group answers -/

/-- A security query has no set form. -/
@[simp] theorem secQuery_asks (opcode : Nat) (form : State → Who → Packet → Bool) (ask : State → Who → Packet → State × Rsp) (p : Packet) :
    (secQuery opcode form ask).asks p = true := rfl

/-- A security query answers what its meaning does wherever the guard holds. -/
theorem secQuery_answers {opcode : Nat} {form : State → Who → Packet → Bool} {ask : State → Who → Packet → State × Rsp} {i : Port → Instr}
    {g : State → Who → Packet → Prop} {f : Who → Packet → State → State × Rsp} (harm : ∀ port s, exec (i port) s = s.ends ((secQuery opcode form ask).exec port s))
    (hask : ∀ z w p, g z w p → ask z w p = f w p z) : (secQuery opcode form ask).Answers i g f :=
  Cmd.answers_of _ i g f harm fun z w p hg _ => hask z w p hg

/-- The arm of SEC_STATUS. -/
theorem exec_secStatus (port : Port) (s : State) : exec (.secStatus port) s = s.ends (cmdSecStatus.exec port s) := rfl

/-- The arm of DEBUG_STATUS. -/
theorem exec_debugStatus (port : Port) (s : State) : exec (.debugStatus port) s = s.ends (cmdDebugStatus.exec port s) := rfl

/-- The arm of MEASURE_READ. -/
theorem exec_measureRead (port : Port) (s : State) : exec (.measureRead port) s = s.ends (cmdMeasureRead.exec port s) := rfl

/-- The arm of ATTEST. -/
theorem exec_attest (port : Port) (s : State) : exec (.attest port) s = s.ends (cmdAttest.exec port s) := rfl

/-- Until the SEC gives up, ATTEST writes the signed report (R517, R524). -/
theorem cmdAttest_ask_of_not_gaveUp {z : State} (w : Who) (p : Packet) (hrun : z.sec.run ≠ .gaveUp) :
    cmdAttest.ask z w p = z.answer w (pkW p 4) (z.report (pkSpan p 0 4)) (Rsp.ok 1024 0 0) := if_neg hrun

/-! ## The length of the measurement record -/

@[simp] theorem length_le (n v : Nat) : (le n v).length = n := by
  induction n generalizing v with
  | zero => rfl
  | succ n ih => rw [le, List.length_cons, ih]

/-- Pieces of one length, put together. -/
theorem length_flatMap_of_length_eq {α β : Type} {f : α → List β} {m : Nat} (l : List α) (hf : ∀ a, (f a).length = m) :
    (l.flatMap f).length = l.length * m := by
  simp [List.length_flatMap, hf]

/-- Settles O20: each query's packet asks, so it is answered by its meaning, that of ATTEST under the guard that the SEC has not given up; sixteen registers of 48 bytes and sixteen counts of 4 make 832. -/
theorem secureQueriesAnswer : Obligations.SecureQueriesAnswer := by
  unfold Obligations.SecureQueriesAnswer
  refine ⟨?_, ?_, ?_, ?_, ?_, ?_⟩
  · exact secQuery_answers exec_secStatus fun _ _ _ _ => rfl
  · exact secQuery_answers exec_debugStatus fun _ _ _ _ => rfl
  · exact secQuery_answers exec_measureRead fun _ _ _ _ => rfl
  · exact secQuery_answers exec_attest fun _ w p hrun => cmdAttest_ask_of_not_gaveUp w p hrun
  · intro s hregs
    have hcounts (n : Nat) : (le 4 (Tbl.cnt s.sec.measCount n)).length = 4 := length_le 4 _
    rw [List.length_append, length_flatMap_of_length_eq _ hregs, length_flatMap_of_length_eq _ hcounts, List.length_range]
  · exact fun p => ⟨secQuery_asks _ _ _ p, secQuery_asks _ _ _ p, secQuery_asks _ _ _ p, secQuery_asks _ _ _ p⟩

end Sys2Proof.Machine
end

section
/-! What every step keeps: what manufacture fixed, the queue behind the command, and device time but for the commands that move it (R10, R413, R561, R603). -/

namespace Sys2Proof.Machine

/-! ## How a command ends -/

/-- A command that may not move device time ends in a state that keeps it. -/
theorem exec_eq_ends (c : Instr) (s : State) (h : movesTime c = false) : ∃ t, exec c s = s.ends t := by
  cases c
  case ptpMessage => cases h
  case rhzTimingMessage => cases h
  case powerOnReset => cases h
  all_goals exact ⟨_, rfl⟩

/-- A command that may move device time ends in a state that keeps the rest. -/
theorem exec_eq_endsTime (c : Instr) (s : State) (h : movesTime c = true) : ∃ t, exec c s = s.endsTime t := by
  cases c
  case ptpMessage => exact ⟨_, rfl⟩
  case rhzTimingMessage => exact ⟨_, rfl⟩
  case powerOnReset => exact ⟨_, rfl⟩
  all_goals cases h

/-- Every command answers a next state that keeps what manufacture fixed and the queue behind it. -/
theorem exec_keeps (c : Instr) (s : State) : ∃ t, exec c s = .next t ∧ t.fix = s.fix ∧ t.pending = s.pending := by
  cases h : movesTime c with
  | false =>
    obtain ⟨t, ht⟩ := exec_eq_ends c s h
    exact ⟨_, ht, rfl, rfl⟩
  | true =>
    obtain ⟨t, ht⟩ := exec_eq_endsTime c s h
    exact ⟨_, ht, rfl, rfl⟩

/-- A step on an empty queue is a tick. -/
theorem step_of_idle {s : State} (h : s.pending = []) : step s = s.endsTime s.tick := by
  simp only [step, h, execTick]

/-- A step runs the command at the front on the state with the queue's rest. -/
theorem step_of_front {s : State} {c : Instr} {rest : List Instr} (h : s.pending = c :: rest) : step s = exec c { s with pending := rest } := by
  simp only [step, h]

/-- Settles O1: the step takes the queue's front. -/
theorem stepRunsTheFrontCommand : Obligations.StepRunsTheFrontCommand := by
  unfold Obligations.StepRunsTheFrontCommand
  exact fun _ _ _ h => step_of_front h

/-- A command that is well formed in front leaves a queue of well-formed commands. -/
theorem State.queueWf_of_drop {s t : State} (hpending : t.pending = s.pending.drop 1) (h : s.queueWf = true) : t.queueWf = true := by
  rw [State.queueWf, List.all_eq_true] at h ⊢
  intro c hc
  exact h c (List.mem_of_mem_drop (hpending ▸ hc))

/-- Settles O3: each command ends through `ends` or `endsTime`, which put back what is fixed and the queue. -/
theorem everyStepKeepsTheQueueAndWhatIsFixed : Obligations.EveryStepKeepsTheQueueAndWhatIsFixed := by
  unfold Obligations.EveryStepKeepsTheQueueAndWhatIsFixed
  intro s
  have hstep : ∃ t, step s = .next t ∧ t.fix = s.fix ∧ t.pending = s.pending.drop 1 := by
    cases hp : s.pending with
    | nil => exact ⟨_, step_of_idle hp, rfl, hp⟩
    | cons c rest =>
      rw [step_of_front hp]
      exact exec_keeps c { s with pending := rest }
  obtain ⟨t, ht, hfix, hpending⟩ := hstep
  exact ⟨t, ht, hfix, hpending, State.queueWf_of_drop hpending⟩

/-! ## Device time -/

/-- Settles O5: every other command ends through `ends`, which puts device time back. -/
theorem onlyTimeMessagesMoveDeviceTime : Obligations.OnlyTimeMessagesMoveDeviceTime := by
  unfold Obligations.OnlyTimeMessagesMoveDeviceTime
  intro c s t h hc
  obtain ⟨u, hu⟩ := exec_eq_ends c s hc
  rw [hu] at h
  cases h
  rfl

/-- A tick adds 1 ns. -/
theorem State.tick_now (s : State) (h : s.core.now + 1 < 2 ^ 64) : s.tick.core.now = s.core.now + 1 := by
  have hdt : s.tick.core.dt = s.core.dt + 1 := rfl
  rw [Core.now, hdt, BitVec.toNat_add, Core.now] at *
  exact Nat.mod_eq_of_lt h

/-- Settles O2: the step on an empty queue is a tick. -/
theorem idleStepIsOneTick : Obligations.IdleStepIsOneTick := by
  unfold Obligations.IdleStepIsOneTick
  intro s hp
  have hstep : step s = .next { s.tick with fix := s.fix, pending := [] } := by
    rw [step_of_idle hp, State.endsTime, hp]
  refine ⟨hstep, fun hlt t ht => ?_⟩
  rw [hstep] at ht
  cases ht
  exact s.tick_now hlt

/-- What a timing message does to device time (R413): nothing, a step to the master's time m at the first lock, or a slew of at most 100 ppm. -/
def State.TimeFollows (s t : State) (m : Nat) : Prop :=
  s.core.now ≤ t.core.now ∧
  (t.core.now = s.core.now ∨
    (t.core.now = m ∧ s.ing.ptp.everLocked = false ∧ t.ing.ptp.everLocked = true ∧ s.led.tags = [] ∧ ∀ e ∈ s.frd.outs, fld (e.2.genlock.getD 0 0) 1 0 ≠ 1) ∨
    (1000 < Machine.dist s.core.now m ∧ t.ing.ptp.slewing = true ∧ t.core.now ≤ s.core.now + (s.core.now - s.ing.ptp.lastSync) / 10000))

theorem State.TimeFollows.of_dt_eq {s t : State} (m : Nat) (h : t.core.dt = s.core.dt) : s.TimeFollows t m := by
  have hnow : t.core.now = s.core.now := congrArg BitVec.toNat h
  exact ⟨hnow.ge, .inl hnow⟩

/-- Device time may step before the first lock, with no tag and no output genlocked to it. -/
theorem State.mayStep_iff (s : State) :
    s.mayStep = true ↔ s.ing.ptp.everLocked = false ∧ s.led.tags = [] ∧ ∀ e ∈ s.frd.outs, fld (e.2.genlock.getD 0 0) 1 0 ≠ 1 := by
  simp [State.mayStep, and_assoc]

/-- How far a slew moves device time: at most 100 ppm of the time since the last sync, and never back. -/
def State.slewStep (s : State) (m : Nat) : Nat := if s.core.now < m then min (Machine.dist s.core.now m) ((s.core.now - s.ing.ptp.lastSync) / 10000) else 0

theorem State.slewStep_le (s : State) (m : Nat) : s.slewStep m ≤ (s.core.now - s.ing.ptp.lastSync) / 10000 := by
  unfold State.slewStep
  split
  · exact min_le_right _ _
  · exact Nat.zero_le _

/-- The state with the PTP clock slewing or not. -/
def State.setSlewing (s : State) (b : Bool) : State := { s with ing := { s.ing with ptp := { s.ing.ptp with slewing := b } } }

/-- The state at a device time. -/
def State.atTime (s : State) (n : Nat) : State := s.mapCore fun k => { k with dt := BitVec.ofNat 64 n }

theorem State.atTime_now (s : State) {n : Nat} (h : n < 2 ^ 64) : (s.atTime n).core.now = n := Nat.mod_eq_of_lt h

@[simp] theorem State.setSlewing_now (s : State) (b : Bool) : (s.setSlewing b).core.now = s.core.now := rfl

@[simp] theorem State.setSlewing_slewing (s : State) (b : Bool) : (s.setSlewing b).ing.ptp.slewing = b := rfl

/-- The three ways of following the master. -/
theorem State.follow_eq (s : State) (first : Bool) (m : Nat) :
    s.follow first m =
      if first && s.mayStep && decide (s.core.now ≤ m ∧ m < 2 ^ 64) then (s.atTime m).setSlewing false
      else if Machine.dist s.core.now m ≤ 1000 then s.setSlewing false
      else (s.atTime (if s.core.now + s.slewStep m < 2 ^ 64 then s.core.now + s.slewStep m else s.core.now)).setSlewing true := rfl

/-- Following the master steps to its time where device time may, or slews towards it, or does nothing. -/
theorem State.follow_now (s : State) (first : Bool) (m : Nat) :
    s.core.now ≤ (s.follow first m).core.now ∧
    ((s.follow first m).core.now = s.core.now ∨ ((s.follow first m).core.now = m ∧ first = true ∧ s.mayStep = true) ∨
      (1000 < Machine.dist s.core.now m ∧ (s.follow first m).ing.ptp.slewing = true ∧ (s.follow first m).core.now ≤ s.core.now + (s.core.now - s.ing.ptp.lastSync) / 10000)) := by
  rw [State.follow_eq]
  split
  next hstep =>
    simp only [Bool.and_eq_true, decide_eq_true_eq] at hstep
    obtain ⟨⟨hfirst, hmay⟩, hle, hlt⟩ := hstep
    rw [State.setSlewing_now, s.atTime_now hlt]
    exact ⟨hle, .inr (.inl ⟨rfl, hfirst, hmay⟩)⟩
  next =>
    split
    next => exact ⟨le_rfl, .inl rfl⟩
    next hfar =>
      rw [State.setSlewing_now, State.setSlewing_slewing]
      split
      next hlt =>
        rw [s.atTime_now hlt]
        exact ⟨Nat.le_add_right _ _, .inr (.inr ⟨not_le.mp hfar, rfl, Nat.add_le_add_left (s.slewStep_le m) _⟩)⟩
      next =>
        rw [s.atTime_now (n := s.core.now) s.core.dt.isLt]
        exact ⟨le_rfl, .inl rfl⟩

/-- Following the master from a state with the same time, ledger and outputs, before the first lock is noted. -/
theorem State.TimeFollows.of_follow {s u t : State} {first : Bool} {m : Nat} (hdt : u.core.dt = s.core.dt) (htags : u.led.tags = s.led.tags) (houts : u.frd.outs = s.frd.outs)
    (hlocked : u.ing.ptp.everLocked = s.ing.ptp.everLocked) (hsync : u.ing.ptp.lastSync = s.ing.ptp.lastSync)
    (hdt' : t.core.dt = (u.follow first m).core.dt) (hslew : t.ing.ptp.slewing = (u.follow first m).ing.ptp.slewing) (hfirst : first = true → t.ing.ptp.everLocked = true) :
    s.TimeFollows t m := by
  have hnow : u.core.now = s.core.now := congrArg BitVec.toNat hdt
  have hnow' : t.core.now = (u.follow first m).core.now := congrArg BitVec.toNat hdt'
  have h := u.follow_now first m
  rw [u.mayStep_iff, ← hnow', ← hslew, hnow, htags, houts, hlocked, hsync] at h
  obtain ⟨hle, hsame | ⟨hm, hf, hunlocked, hnoTags, hnoOuts⟩ | hslews⟩ := h
  · exact ⟨hle, .inl hsame⟩
  · exact ⟨hle, .inr (.inl ⟨hm, hunlocked, hfirst hf, hnoTags, hnoOuts⟩)⟩
  · exact ⟨hle, .inr (.inr hslews)⟩

/-! ### A PTP message -/

section
variable (s : State) (st : Nat)

@[simp] theorem State.ptpState_dt : (s.ptpState st).core.dt = s.core.dt := by unfold State.ptpState; split <;> rfl
@[simp] theorem State.ptpState_led : (s.ptpState st).led = s.led := by unfold State.ptpState; split <;> rfl
@[simp] theorem State.ptpState_frd : (s.ptpState st).frd = s.frd := by unfold State.ptpState; split <;> rfl
@[simp] theorem State.ptpState_everLocked : (s.ptpState st).ing.ptp.everLocked = s.ing.ptp.everLocked := by unfold State.ptpState; split <;> rfl
@[simp] theorem State.ptpState_lastSync : (s.ptpState st).ing.ptp.lastSync = s.ing.ptp.lastSync := by unfold State.ptpState; split <;> rfl

end

/-- The PTP clock after a sync's offset: LOCKED from the sixteenth good sync in a row, LOCKING again where it was LOCKED (R412). -/
def State.ptpNoted (s : State) (offset : Int) (n : Nat) : State :=
  let s1 := { s with ing := { s.ing with ptp := { s.ing.ptp with offset := offset, goodSyncs := n } } }
  if n = 16 then s1.ptpState 2 else if s.ing.ptp.st = 2 then s1.ptpState 1 else s1

/-- A sync with its count n of good ones in a row (R412, R413). -/
def State.ptpSync (s : State) (offset : Int) (master n : Nat) : State :=
  let u := s.ptpNoted offset n
  let v := if n == 16 || s.ing.ptp.everLocked then u.follow (n == 16 && !s.ing.ptp.everLocked) master else u
  { v with ing := { v.ing with ptp := { v.ing.ptp with everLocked := s.ing.ptp.everLocked || n == 16, lastSync := s.core.now } } }

/-- An announce (R412). -/
def State.ptpAnnounce (s : State) : State :=
  let s1 := { s with ing := { s.ing with ptp := { s.ing.ptp with lastAnnounce := s.core.now } } }
  if s.ing.ptp.st = 0 ∨ s.ing.ptp.st = 3 then { s1 with ing := { s1.ing with ptp := { s1.ing.ptp with goodSyncs := 0 } } }.ptpState 1 else s1

/-- The count of good syncs in a row after one with an offset (R412). -/
def Ptp.counted (p : Ptp) (offset : Int) : Nat := if decide (-100 ≤ offset) && decide (offset ≤ 100) then min 16 (p.goodSyncs + 1) else 0

/-- The arm of PTP_MESSAGE. -/
theorem exec_ptpMessage (i d : Nat) (announce : Bool) (offset : Int) (m : Nat) (s : State) :
    exec (.ptpMessage i d announce offset m) s = s.endsTime (
      if d ≠ s.ing.ptp.domain ∨ !bitOf s.ing.ptp.ports i ∨ !(Tbl.find s.ing.ports i).elim false EthPort.link then s
      else if announce then s.ptpAnnounce
      else if s.ing.ptp.st = 0 ∨ s.ing.ptp.st = 3 then s
      else s.ptpSync offset m (s.ing.ptp.counted offset)) := rfl

@[simp] theorem State.ptpAnnounce_dt (s : State) : s.ptpAnnounce.core.dt = s.core.dt := by
  unfold State.ptpAnnounce
  dsimp only
  split
  · exact State.ptpState_dt _ _
  · rfl

section
variable (s : State) (offset : Int) (n : Nat)

@[simp] theorem State.ptpNoted_dt : (s.ptpNoted offset n).core.dt = s.core.dt := by
  unfold State.ptpNoted; dsimp only; split_ifs <;> simp only [State.ptpState_dt]
@[simp] theorem State.ptpNoted_led : (s.ptpNoted offset n).led = s.led := by
  unfold State.ptpNoted; dsimp only; split_ifs <;> simp only [State.ptpState_led]
@[simp] theorem State.ptpNoted_frd : (s.ptpNoted offset n).frd = s.frd := by
  unfold State.ptpNoted; dsimp only; split_ifs <;> simp only [State.ptpState_frd]
@[simp] theorem State.ptpNoted_everLocked : (s.ptpNoted offset n).ing.ptp.everLocked = s.ing.ptp.everLocked := by
  unfold State.ptpNoted; dsimp only; split_ifs <;> simp only [State.ptpState_everLocked]
@[simp] theorem State.ptpNoted_lastSync : (s.ptpNoted offset n).ing.ptp.lastSync = s.ing.ptp.lastSync := by
  unfold State.ptpNoted; dsimp only; split_ifs <;> simp only [State.ptpState_lastSync]

end

theorem State.ptpSync_timeFollows (s : State) (offset : Int) (m n : Nat) : s.TimeFollows (s.ptpSync offset m n) m := by
  unfold State.ptpSync
  dsimp only
  split
  next =>
    refine .of_follow (u := s.ptpNoted offset n) (first := n == 16 && !s.ing.ptp.everLocked) (by simp) (by simp) (by simp) (by simp) (by simp) rfl rfl ?_
    intro hfirst
    simp only [Bool.and_eq_true] at hfirst
    simp [hfirst.1]
  next => exact .of_dt_eq m (s.ptpNoted_dt offset n)

/-- A PTP message moves device time as R413 lets it. -/
theorem exec_ptpMessage_timeFollows {s t : State} {i d : Nat} {announce : Bool} {offset : Int} {m : Nat} (h : exec (.ptpMessage i d announce offset m) s = .next t) : s.TimeFollows t m := by
  rw [exec_ptpMessage] at h
  cases h
  split_ifs
  · exact .of_dt_eq m rfl
  · exact .of_dt_eq m s.ptpAnnounce_dt
  · exact .of_dt_eq m rfl
  · exact s.ptpSync_timeFollows offset m _

/-- While the clock is LOCKED, a good sync with the master more than 1 µs off slews device time (R413). -/
theorem State.ptpSync_slewing {s : State} {offset : Int} {m : Nat} (hlocked : s.ing.ptp.everLocked = true) (hfar : 1000 < Machine.dist s.core.now m) :
    (s.ptpSync offset m 16).ing.ptp.slewing = true := by
  have hnow : (s.ptpNoted offset 16).core.now = s.core.now := congrArg BitVec.toNat (s.ptpNoted_dt offset 16)
  simp [State.ptpSync, State.follow_eq, hlocked, hnow, not_le.mpr hfar]

/-! ### A timing message of the wall -/

/-- A timing message that reaches a member's clock (R561). -/
def State.wallSync (s : State) (offset : Int) (near : Bool) : State :=
  let v := State.follow { s with ing := { s.ing with ptp := { s.ing.ptp with offset := offset } }, rhz := { s.rhz with time := if near then 2 else 1 } }
    (near && !s.ing.ptp.everLocked) ((s.core.now : Int) - offset).toNat
  { v with ing := { v.ing with ptp := { v.ing.ptp with everLocked := s.ing.ptp.everLocked || near, lastSync := s.core.now } } }

/-- True where an offset is within 20 ns for each hop to the master (R561, log entry 65). -/
def State.wallNear (s : State) (offset : Int) : Bool := decide (offset.natAbs ≤ 20 * max 1 (pathTo s.rhz.members s.core.pos s.rhz.masterPos s.rhz.broken).length)

/-- The arm of RHZ_TIMING_MESSAGE. -/
theorem exec_rhzTimingMessage (n : Nat) (offset : Int) (s : State) :
    exec (.rhzTimingMessage n offset) s = s.endsTime (
      if 2 ≤ n ∨ !s.core.inWall ∨ s.core.wallMaster ∨ !(s.rport n).up then s else s.wallSync offset (s.wallNear offset)) := rfl

theorem State.wallSync_timeFollows (s : State) (offset : Int) (near : Bool) : s.TimeFollows (s.wallSync offset near) ((s.core.now : Int) - offset).toNat := by
  refine .of_follow (first := near && !s.ing.ptp.everLocked)
    (u := { s with ing := { s.ing with ptp := { s.ing.ptp with offset := offset } }, rhz := { s.rhz with time := if near then 2 else 1 } }) rfl rfl rfl rfl rfl rfl rfl ?_
  intro hfirst
  rw [Bool.and_eq_true] at hfirst
  rw [hfirst.1]
  exact Bool.or_true _

theorem exec_rhzTimingMessage_timeFollows {s t : State} {n : Nat} {offset : Int} (h : exec (.rhzTimingMessage n offset) s = .next t) : s.TimeFollows t ((s.core.now : Int) - offset).toNat := by
  rw [exec_rhzTimingMessage] at h
  cases h
  split
  · exact .of_dt_eq _ rfl
  · exact s.wallSync_timeFollows offset _

/-! ### A cold reset -/

/-- The event of a component that comes into force touches the core alone (Table 16.8). -/
theorem State.activateAtReset_part {α : Type} (part : State → α) (hcore : ∀ s f, part (State.mapCore s f) = part s) (hpeat : ∀ (s : State) (q : Peat), part { s with peat := q } = part s)
    (s : State) (q : Peat) (component : Nat) : part (s.activateAtReset q component) = part s := by
  unfold State.activateAtReset
  split
  · exact (hcore _ _).trans (hpeat _ _)
  · rfl

/-- A cold reset forgets the first lock (log entry 90). -/
theorem State.coldReset_ing (s : State) : s.coldReset.ing = Ing.cold false := by
  unfold State.coldReset
  rw [State.activateAtReset_part State.ing (fun _ _ => rfl) (fun _ _ => rfl), State.activateAtReset_part State.ing (fun _ _ => rfl) (fun _ _ => rfl)]

/-- Settles O59: both messages move device time through `follow`, which steps where it may and slews else. -/
theorem deviceTimeStepsOnlyAtTheFirstLock : Obligations.DeviceTimeStepsOnlyAtTheFirstLock := by
  unfold Obligations.DeviceTimeStepsOnlyAtTheFirstLock
  refine ⟨?_, ?_, ?_, ?_⟩
  · exact fun _ _ _ _ _ _ _ h => exec_ptpMessage_timeFollows h
  · intro s i off m hport hlink hst hgood hlocked hlo hhi hfar
    have hcount : s.ing.ptp.counted off = 16 := by simp [Ptp.counted, hlo, hhi, hgood]
    have hexec : exec (.ptpMessage i s.ing.ptp.domain false off m) s = s.endsTime (s.ptpSync off m 16) := by
      simp [exec_ptpMessage, hport, hlink, hst, hcount]
    exact ⟨_, hexec, s.ptpSync_slewing (offset := off) hlocked hfar⟩
  · exact fun _ _ _ _ h => exec_rhzTimingMessage_timeFollows h
  · exact fun s => ⟨_, rfl, congrArg (·.ptp.everLocked) s.coldReset_ing⟩

/-- A command other than the power-on reset never moves device time back. -/
theorem exec_now_le {c : Instr} {s t : State} (h : exec c s = .next t) (hc : c ≠ .powerOnReset) : s.core.now ≤ t.core.now := by
  cases hm : movesTime c with
  | false => exact (congrArg BitVec.toNat (onlyTimeMessagesMoveDeviceTime c s t h hm)).ge
  | true =>
    cases c
    case ptpMessage => exact (exec_ptpMessage_timeFollows h).1
    case rhzTimingMessage => exact (exec_rhzTimingMessage_timeFollows h).1
    case powerOnReset => exact absurd rfl hc
    all_goals cases hm

/-- Settles O4: a tick adds 1 ns, a timing message steps forward or slews, and no other command but the power-on reset moves device time. -/
theorem deviceTimeNeverRunsBackwards : Obligations.DeviceTimeNeverRunsBackwards := by
  unfold Obligations.DeviceTimeNeverRunsBackwards
  intro s t hstep hfront hlt
  cases hp : s.pending with
  | nil =>
    have htick := (idleStepIsOneTick s hp).2 hlt t hstep
    omega
  | cons c rest =>
    rw [step_of_front hp] at hstep
    exact exec_now_le (s := { s with pending := rest }) hstep fun hc => hfront rest (hc ▸ hp)

end Sys2Proof.Machine
end

section
/-! The reset state, generations (R40), memories in canonical form (log entry 3), and the extension of a measurement register (R509). -/

namespace Sys2Proof.Machine

/-- Settles O6: the reset state, evaluated. -/
theorem resetStateHolds : Obligations.ResetStateHolds := by
  unfold Obligations.ResetStateHolds
  exact ⟨rfl, rfl, fun _ => rfl, rfl, rfl, rfl, rfl, rfl, rfl, rfl, rfl⟩

/-! ## Generations -/

@[simp] theorem Core.genOf_bump_same (c : Core) (u : Nat) : (c.bump u).genOf u = nextGen (c.genOf u) := by
  simp [Core.bump, Core.genOf, Tbl.at]

theorem Core.genOf_bump_ne (c : Core) {u v : Nat} (h : uKey v ≠ uKey u) : (c.bump u).genOf v = c.genOf v := by
  simp [Core.bump, Core.genOf, Tbl.at, Tbl.find_put_ne _ _ h]

/-- 0x0000 is never assigned (R40). -/
theorem nextGen_ne_zero (g : Gen) : nextGen g ≠ 0 := by
  unfold nextGen
  split
  · decide
  next h =>
    intro h0
    exact h (by bv_omega)

/-- Settles O7: a bump writes the next generation of its unit alone. -/
theorem generationIncrementsPastZero : Obligations.GenerationIncrementsPastZero := by
  unfold Obligations.GenerationIncrementsPastZero
  intro c u
  refine ⟨fun hlast _ => ?_, fun hlast => ?_, fun v hv => c.genOf_bump_ne hv⟩
  · rw [Core.genOf_bump_same]
    exact ⟨if_neg hlast, nextGen_ne_zero _⟩
  · rw [Core.genOf_bump_same]
    exact if_pos hlast

/-! ## Memories -/

/-- Settles O8: what a write leaves of a memory in canonical form. -/
theorem memoryReadsWhatWasWritten : Obligations.MemoryReadsWhatWasWritten := by
  unfold Obligations.MemoryReadsWhatWasWritten
  exact fun m a bs h => ⟨m.wf_wrN a bs h, m.rdN_wrN a bs h, fun x hx => m.rd_wrN_outside a x bs hx⟩

/-! ## Measurement registers -/

theorem State.measOf_extendDigest_same (s : State) (n : Nat) (d : List Byte) : (s.extendDigest n d).measOf n = sha384 (s.measOf n ++ d) := by
  simp [State.extendDigest, State.measOf, Tbl.at]

theorem State.measOf_extendDigest_ne (s : State) {n m : Nat} (d : List Byte) (h : m ≠ n) : (s.extendDigest n d).measOf m = s.measOf m := by
  simp [State.extendDigest, State.measOf, Tbl.at, Tbl.find_put_ne _ _ h]

@[simp] theorem Tbl.cnt_inc_same (t : Tbl Nat) (n : Nat) : Tbl.cnt (Tbl.inc t n) n = satInc (Tbl.cnt t n) := by
  simp [Tbl.cnt, Tbl.inc, Tbl.at]

theorem Tbl.cnt_inc_ne (t : Tbl Nat) {n m : Nat} (h : m ≠ n) : Tbl.cnt (Tbl.inc t n) m = Tbl.cnt t m := by
  simp [Tbl.cnt, Tbl.inc, Tbl.at, Tbl.find_put_ne _ _ h]

/-- Settles O21: an extension writes the register's digest and its count, each under the register's number. -/
theorem extensionReplacesTheMeasurementRegister : Obligations.ExtensionReplacesTheMeasurementRegister := by
  unfold Obligations.ExtensionReplacesTheMeasurementRegister
  intro s n d
  refine ⟨s.measOf_extendDigest_same n d, Tbl.cnt_inc_same _ n, fun m hm => ⟨s.measOf_extendDigest_ne d hm, Tbl.cnt_inc_ne _ hm⟩⟩

end Sys2Proof.Machine
end

section
/-! How an event's arm ends under a guard, and the session commands: NOP, NEGOTIATE, MGT_SLICE0_CB and a lockstep mismatch (R48, R72 to R75, R638). -/

namespace Sys2Proof.Machine

/-! ## An arm that ends under a guard -/

/-- An arm whose guard holds ends in the guarded effect. -/
theorem State.ends_ite_pos {c : Prop} [Decidable c] (s : State) {a b : State} (h : c) : s.ends (if c then a else b) = .next (s.kept a) := by
  rw [if_pos h, State.ends_eq]

/-- An arm whose guard fails ends in the other effect. -/
theorem State.ends_ite_neg {c : Prop} [Decidable c] (s : State) {a b : State} (h : ¬ c) : s.ends (if c then a else b) = .next (s.kept b) := by
  rw [if_neg h, State.ends_eq]

/-! ## Session commands -/

/-- A NEGOTIATE that is not behind unfinished packets and has a supported version opens the session. -/
theorem negotiateRun_of_version {z : State} {w : Who} {p : Packet} {sl : Slice} {v : Nat} (hslice : z.core.slice w.inst w.slice = some sl) (hout : sl.outstanding ≤ 1)
    (hv : chooseVersion (pkF p 0 7 0) (pkF p 0 15 8) = some v) (hbuf : pkW p 1 = 0) :
    negotiateRun z w p = .done (z.mapCore fun c => (c.updSlice w.inst w.slice fun t => { t with st := .session, ver := v, rings := if sl.ver = 0 then z.core.readRings w.inst sl else sl.rings }).syncCb w.inst w.slice)
      (Rsp.ok (0x2000 + v) 49 0) := by
  simp [negotiateRun, hslice, hout, hv, hbuf]

/-- A renegotiation behind unfinished packets waits for the slice (R75). -/
theorem negotiateRun_of_busy {z : State} {w : Who} {p : Packet} {sl : Slice} (hslice : z.core.slice w.inst w.slice = some sl) (hver : sl.ver ≠ 0) (hout : 1 < sl.outstanding) :
    negotiateRun z w p = .delayed z (Rsp.plain .delayedUnitBusy) (.unit (sliceUnit w.inst w.slice)) false := by
  simp [negotiateRun, hslice, hver, hout]

/-- Settles O9: NEGOTIATE by the branches of its meaning, the others by their arms. -/
theorem sessionCommandsComplete : Obligations.SessionCommandsComplete := by
  unfold Obligations.SessionCommandsComplete
  refine ⟨⟨?_, ?_⟩, ?_, ?_, ?_⟩
  · exact cmdNop.serves_of _ _ _ (fun _ _ => rfl) fun _ _ _ _ _ => ⟨rfl, rfl⟩
  · refine cmdNegotiate.serves_of _ _ _ (fun _ _ => rfl) fun z w p hg _ => ?_
    obtain ⟨sl, v, hslice, hout, hv, hbuf⟩ := hg
    simp only [hslice, hv]
    exact ⟨negotiateRun_of_version hslice hout hv hbuf, rfl⟩
  · refine cmdNegotiate.delays_of _ _ _ _ _ (fun _ _ => rfl) fun z w p hg _ => ?_
    obtain ⟨sl, hslice, hver, hout⟩ := hg
    exact negotiateRun_of_busy hslice hver hout
  · exact fun _ _ => rfl
  · intro s pair hpair hok
    have hguard : ¬ (2 ≤ pair ∨ s.lnk.failedPairs.contains pair = true) := by simp [hpair, hok]
    exact s.ends_ite_neg hguard

end Sys2Proof.Machine
end

section
/-! What the shared operations of the core touch: the DTU its cache, the host's memory and the fault count; a notification the manager's ring besides. -/

namespace Sys2Proof.Machine

/-! ## The state after a command -/

section
variable (s t : State)

@[simp] theorem State.kept_fix : (s.kept t).fix = s.fix := rfl
@[simp] theorem State.kept_pending : (s.kept t).pending = s.pending := rfl
@[simp] theorem State.kept_core : (s.kept t).core = { t.core with dt := s.core.dt } := rfl
@[simp] theorem State.kept_lnk : (s.kept t).lnk = t.lnk := rfl
@[simp] theorem State.kept_sec : (s.kept t).sec = t.sec := rfl
@[simp] theorem State.kept_pwr : (s.kept t).pwr = t.pwr := rfl
@[simp] theorem State.kept_mem : (s.kept t).mem = t.mem := rfl
@[simp] theorem State.kept_srf : (s.kept t).srf = t.srf := rfl
@[simp] theorem State.kept_frd : (s.kept t).frd = t.frd := rfl
@[simp] theorem State.kept_led : (s.kept t).led = t.led := rfl
@[simp] theorem State.kept_chk : (s.kept t).chk = t.chk := rfl
@[simp] theorem State.kept_ras : (s.kept t).ras = t.ras := rfl
@[simp] theorem State.kept_ing : (s.kept t).ing = t.ing := rfl
@[simp] theorem State.kept_rhz : (s.kept t).rhz = t.rhz := rfl
@[simp] theorem State.kept_tch : (s.kept t).tch = t.tch := rfl
@[simp] theorem State.kept_hap : (s.kept t).hap = t.hap := rfl
@[simp] theorem State.kept_aud : (s.kept t).aud = t.aud := rfl
@[simp] theorem State.kept_peat : (s.kept t).peat = t.peat := rfl
@[simp] theorem State.kept_reg : (s.kept t).reg = t.reg := rfl

end

/-! ## Folds, the DTU and notifications -/

/-- What every step of a fold leaves alone, the fold leaves alone. -/
theorem foldl_keeps {σ α β : Type} (part : σ → β) {f : σ → α → σ} (h : ∀ s a, part (f s a) = part s) (l : List α) (s : σ) : part (l.foldl f s) = part s := by
  induction l generalizing s with
  | nil => rfl
  | cons a l ih => rw [List.foldl_cons, ih, h]

/-- Stage 2 fills the translation cache at most. -/
theorem Core.stage2Of_eq (c : Core) (inst addr : Nat) (write : Bool) : ∃ t, (c.stage2Of inst addr write).1 = { c with tlb := t } := by
  unfold Core.stage2Of
  dsimp only
  split
  · exact ⟨_, rfl⟩
  · split
    · exact ⟨_, rfl⟩
    · split
      · exact ⟨_, rfl⟩
      · split
        · exact ⟨_, rfl⟩
        · exact ⟨_, rfl⟩

/-- A write that stage 2 alone translates stores to host memory, fills the translation cache and counts faults. -/
theorem Core.wr2_eq (inst : Nat) (bs : List Byte) (c : Core) (a : Nat) : ∃ h t n, Core.wr2 inst bs c a = { c with host := h, tlb := t, dtuFaults := n } := by
  induction bs generalizing c a with
  | nil => exact ⟨_, _, _, rfl⟩
  | cons b bs ih =>
    obtain ⟨t, ht⟩ := c.stage2Of_eq inst a true
    unfold Core.wr2
    split
    all_goals
      rename_i heq
      rw [heq] at ht
      cases ht
      obtain ⟨h, t', n, ih⟩ := ih _ (a + 1)
      exact ⟨h, t', n, ih⟩

/-- A posted notification touches the up ring and what a write at stage 2 touches. -/
theorem Core.postUp_eq (c : Core) (m : Notif) : ∃ h t n u, c.postUp m = { c with host := h, tlb := t, dtuFaults := n, up := u } := by
  unfold Core.postUp
  dsimp only
  generalize hwr : Core.wr2 0 _ c _ = d
  obtain ⟨h, t, n, hd⟩ := Core.wr2_eq 0 _ c _
  rw [hwr] at hd
  subst hd
  exact ⟨h, t, n, _, rfl⟩

/-- A notification is posted or waits. -/
theorem Core.notify_eq (c : Core) (type inst key : Nat) (data : List Byte) :
    ∃ h t n u w k m, c.notify type inst key data = { c with host := h, tlb := t, dtuFaults := n, up := u, waitingN := w, keptN := k, mboxLost := m } := by
  unfold Core.notify
  dsimp only
  split_ifs
  · obtain ⟨h, t, n, u, hpost⟩ := c.postUp_eq { type := type, inst := inst, dt := c.now, key := key, data := data }
    exact ⟨h, t, n, u, _, _, _, hpost⟩
  all_goals exact ⟨_, _, _, _, _, _, _, rfl⟩

section
variable (c : Core) (type inst key : Nat) (data : List Byte)

@[simp] theorem Core.notify_jrn : (c.notify type inst key data).jrn = c.jrn := by obtain ⟨_, _, _, _, _, _, _, h⟩ := c.notify_eq type inst key data; rw [h]
@[simp] theorem Core.notify_irqs : (c.notify type inst key data).irqs = c.irqs := by obtain ⟨_, _, _, _, _, _, _, h⟩ := c.notify_eq type inst key data; rw [h]

end

end Sys2Proof.Machine
end

section
/-! The journal: its commands, its flush, durability and seals, and its recovery (R81 to R104, R540, R637). -/

namespace Sys2Proof.Machine

/-! ## Journal commands -/

theorem cmdJournalExportRead_ask_of_open {z : State} {w : Who} {p : Packet} {e : Export} (h : z.core.jrn.openExport = some e) :
    cmdJournalExportRead.ask z w p =
      z.answer w (pkW p 2) (((z.core.jrn.stream e).drop (pkW p 1)).take (pkF p 3 31 0)) (Rsp.ok (((z.core.jrn.stream e).drop (pkW p 1)).take (pkF p 3 31 0)).length 0 0) := by
  simp [cmdJournalExportRead, journalQuery, h]

theorem cmdJournalExportBegin_run_of_range {z : State} {w : Who} {p : Packet} {a b : Nat} (h : z.core.jrn.exportRange (pkW p 0) (pkW p 1) = some (a, b)) :
    cmdJournalExportBegin.run z w p =
      .done (z.mapCore fun k => { k with jrn := { k.jrn with exports := z.core.jrn.exports + 1, openExport := some { id := z.core.jrn.exports + 1, first := a, last := b } } })
        (Rsp.ok (z.core.jrn.exports + 1) (a % 2 ^ 32) (a / 2 ^ 32)) := by
  simp [cmdJournalExportBegin, h]

/-- Settles O11: the open export and the range decide the branch of the export commands; the rest is their meaning. -/
theorem journalCommandsComplete : Obligations.JournalCommandsComplete := by
  unfold Obligations.JournalCommandsComplete
  refine ⟨⟨?_, ?_, ?_⟩, ?_, ?_, ?_, ?_⟩
  · refine cmdJournalStatus.answers_of _ _ _ (fun _ _ => rfl) fun z w p _ _ => ?_
    cases hreg : z.core.jrn.regulated <;> simp [cmdJournalStatus, journalQuery, b2n, hreg]
  · exact cmdJournalTail.answers_of _ _ _ (fun _ _ => rfl) fun _ _ _ _ _ => rfl
  · refine cmdJournalExportRead.answers_of _ _ _ (fun _ _ => rfl) fun z w p hg _ => ?_
    obtain ⟨e, he⟩ := Option.isSome_iff_exists.mp hg
    rw [cmdJournalExportRead_ask_of_open he, he]
    rfl
  · exact cmdJournalSync.serves_of _ _ _ (fun _ _ => rfl) fun _ _ _ _ _ => ⟨rfl, rfl⟩
  · exact fun p => Bool.or_true _
  · refine cmdJournalExportBegin.serves_of _ _ _ (fun _ _ => rfl) fun z w p hg _ => ?_
    obtain ⟨⟨a, b⟩, hrange⟩ := Option.isSome_iff_exists.mp hg
    rw [cmdJournalExportBegin_run_of_range hrange, hrange]
    exact ⟨rfl, rfl⟩
  · exact cmdJournalExportAck.serves_of _ _ _ (fun _ _ => rfl) fun _ _ _ _ _ => ⟨rfl, rfl⟩

/-! ## Flush, durability and seals -/

/-- With room in the partition nothing is freed. -/
theorem Core.makeSpace_of_room (f : Nat) {c : Core} {need : Nat} (h : itemsBytes c.jrn.part + need ≤ c.jrn.capacity) : c.makeSpace f need = c := by
  cases f with
  | zero => rfl
  | succ f => simp [Core.makeSpace, h]

theorem flush_of_room {s : State} (hmgmt : s.pwr.mgmtRestarting = false) (hformat : s.peat.formatted = true) (hflush : s.peat.flushing = false) (hspace : s.core.jrn.noSpace = false)
    (hpart : s.partPermits 4 2 true = true) (hroom : itemsBytes s.core.jrn.part + (itemsBytes s.core.jrn.buffer + itemsBytes s.core.jrn.flushing) ≤ s.core.jrn.capacity) :
    flush s = s.mapCore fun c => { c with jrn := { c.jrn with flushing := c.jrn.flushing ++ c.jrn.buffer, buffer := [] } } := by
  simp [flush, State.mapCore, hmgmt, hformat, hflush, hspace, hpart, Core.makeSpace_of_room _ hroom, not_lt.mpr hroom]

/-- The seal of the chain after the newest record, not yet signed (R90, R91). -/
def Core.bareSeal (c : Core) (key : Nat) : Seal := { jseq := c.jrn.nextJseq - 1, dt := c.now, h := c.jrn.chain, keyId := keyId key, sig := [] }

/-- The seal, signed. -/
def Core.sealBlock (c : Core) (key : Nat) : Seal := { c.bareSeal key with sig := deviceSign key (sha384 (c.bareSeal key).body) }

/-- A signature does not cover itself. -/
@[simp] theorem Core.sealBlock_body (c : Core) (key : Nat) : (c.sealBlock key).body = (c.bareSeal key).body := by
  simp only [Core.sealBlock, Seal.body]

theorem Core.sealBlock_sig (c : Core) (key : Nat) : (c.sealBlock key).sig = deviceSign key (sha384 (c.sealBlock key).body) := by
  rw [Core.sealBlock_body, Core.sealBlock]

/-- A seal that is not the first after a SEC restart journals no event. -/
theorem Core.sealNow_of_not_resumed {c : Core} (key : Nat) (h : c.jrn.resumed = false) :
    c.sealNow key = { c with jrn := { c.jrn with buffer := c.jrn.buffer ++ [.seal (c.sealBlock key)], sealed := c.jrn.nextJseq - 1, sinceSeal := 0, sealTimer := c.now } } := by
  simp [Core.sealNow, Core.sealBlock, Core.bareSeal, h]

/-- Settles O12: each event's guard holds, and the flush needs no space freed. -/
theorem journalEventsComplete : Obligations.JournalEventsComplete := by
  unfold Obligations.JournalEventsComplete
  refine ⟨?_, ?_, ?_, ?_, ?_⟩
  · intro s hmgmt hformat hflush hspace hpart hroom
    change s.ends (flush s) = _
    rw [flush_of_room hmgmt hformat hflush hspace hpart hroom]
    rfl
  · exact fun s => ⟨_, rfl, rfl⟩
  · intro s hcan hdue hresumed
    have hguard : (s.canSeal && decide (1024 ≤ s.core.jrn.sinceSeal)) = true := by simp [hcan, hdue]
    refine ⟨_, s.core.sealBlock s.sec.sealKey, s.ends_ite_pos hguard, rfl, rfl, rfl, Core.sealBlock_sig _ _, ?_⟩
    rw [State.mapCore, Core.sealNow_of_not_resumed _ hresumed]
  · intro s hcan hdue hnone
    have hguard : (s.canSeal && decide (s.core.jrn.sealTimer + 10 ^ 9 ≤ s.core.now)) = true := by rw [hcan, decide_eq_true hdue]; rfl
    change s.ends (if _ then (if _ then _ else _) else _) = _
    rw [s.ends_ite_pos hguard, if_pos hnone]
    rfl
  · intro s hcan hdue hsome
    have hguard : (s.canSeal && decide (s.core.jrn.sealTimer + 10 ^ 9 ≤ s.core.now)) = true := by rw [hcan, decide_eq_true hdue]; rfl
    change s.ends (if _ then (if _ then _ else _) else _) = _
    rw [s.ends_ite_pos hguard, if_neg hsome]

/-! ## Recovery -/

/-- Journals an event directly, as the recovery does (R637). -/
def Core.record (k : Core) (e : JEvent) : Core := { k with jrn := k.jrn.push (eventRec k.now e) }

/-- Journals the events that were lost, if any. -/
def Core.recordLost (k : Core) : Core := { k with jrn := k.jrn.pushLost k.now }

@[simp] theorem Core.record_part (k : Core) (e : JEvent) : (k.record e).jrn.part = k.jrn.part := rfl
@[simp] theorem Core.record_reserves (k : Core) (e : JEvent) : (k.record e).jrn.reserves = k.jrn.reserves := rfl
@[simp] theorem Core.record_st (k : Core) (e : JEvent) : (k.record e).jrn.st = k.jrn.st := rfl

@[simp] theorem Core.recordLost_part (k : Core) : k.recordLost.jrn.part = k.jrn.part := by
  unfold Core.recordLost Jrn.pushLost
  dsimp only
  split <;> rfl

@[simp] theorem Core.recordLost_reserves (k : Core) : k.recordLost.jrn.reserves = k.jrn.reserves := by
  unfold Core.recordLost Jrn.pushLost
  dsimp only
  split <;> rfl

/-- The journal's state by its fill, journaled and notified: how a recovery ends (R637). -/
def Core.settleFill (k : Core) : Core :=
  let st := k.jrn.byFill
  let k5 := Core.record { k with jrn := { k.jrn with st := st, sealTimer := k.now, warned := k.jrn.fill / 100 } } { code := 0xFE01, inst := 0, gen := 0, unit := uid 0x81 0 0, arg := st.code, data := le 4 k.jrn.fill }
  k5.notify 0x0012 0 0 (jStateData st false k5.jrn.fill)

@[simp] theorem Core.settleFill_part (k : Core) : k.settleFill.jrn.part = k.jrn.part := by simp only [Core.settleFill, Core.notify_jrn, Core.record_part]
@[simp] theorem Core.settleFill_reserves (k : Core) : k.settleFill.jrn.reserves = k.jrn.reserves := by simp only [Core.settleFill, Core.notify_jrn, Core.record_reserves]
@[simp] theorem Core.settleFill_st (k : Core) : k.settleFill.jrn.st = k.jrn.byFill := by simp only [Core.settleFill, Core.notify_jrn, Core.record_st]

/-- The fill never gives RECOVERING. -/
theorem Jrn.byFill_ne_recovering (j : Jrn) : j.byFill ≠ .recovering := by
  unfold Jrn.byFill
  split_ifs <;> decide

/-- The journal over a partition that is rebuilt (R91, R540). -/
def State.rebuilt (s : State) (part : List JItem) : Core :=
  { s.core with jrn :=
    { s.core.jrn with part := part, chain := chainFrom (chainStart s.fix.serial s.core.jrn.formats) part, nextJseq := nextAfter part, sinceSeal := sinceLastSeal part,
                      sealed := (s.core.jrn.seals.getLast?.map Seal.jseq).getD 0, durable := nextAfter part - 1, reserves := [true, true], st := .active, waiting := [], resumed := false } }

/-- The rebuilt journal with the records of the boot, of what was restored, and of what waited (R637). -/
def State.recoveredCore (s : State) : Core :=
  let r0 := restoreItems s.core.jrn.part (Tbl.at s.peat.reserve [] 0)
  let r1 := restoreItems (s.core.jrn.part ++ r0) (Tbl.at s.peat.reserve [] 1)
  let k1 := (s.rebuilt (mergeItems (mergeItems s.core.jrn.part r0) r1)).record { code := 0xFE00, inst := 0, gen := 0, unit := 0, arg := s.sec.bootCount, data := (Tbl.at s.sec.meas [] 0).take 16 }
  let k2 := if (r0 ++ r1).isEmpty then k1 else k1.record { code := 0xFEA0, inst := 0, gen := 0, unit := 0, arg := recordsIn (r0 ++ r1), data := le 8 s.peat.failTime ++ le 1 (b2n (r0.isEmpty)) ++ le 1 1 }
  (s.core.jrn.waiting.foldl Core.record k2.recordLost).settleFill

/-- The arm of JOURNAL_RECOVER: the recovered journal, its reserve areas empty. -/
theorem recover_of_due {s : State} (hst : s.core.jrn.st = .recovering) (hpeat : Tbl.at s.pwr.dom .off 11 = .on) (hboot : s.sec.bootHalted = false) :
    recover s = { s with core := s.recoveredCore, peat := { s.peat with reserve := [] } } := by
  have hguard : ¬ (s.core.jrn.st ≠ .recovering ∨ Tbl.at s.pwr.dom .off 11 ≠ .on ∨ s.sec.bootHalted = true) := by simp [hst, hpeat, hboot]
  unfold recover
  rw [if_neg hguard]
  rfl

section
variable (s : State)

theorem State.recoveredCore_part :
    s.recoveredCore.jrn.part = mergeItems (mergeItems s.core.jrn.part (restoreItems s.core.jrn.part (Tbl.at s.peat.reserve [] 0)))
      (restoreItems (s.core.jrn.part ++ restoreItems s.core.jrn.part (Tbl.at s.peat.reserve [] 0)) (Tbl.at s.peat.reserve [] 1)) := by
  simp only [State.recoveredCore, Core.settleFill_part, foldl_keeps (fun k : Core => k.jrn.part) Core.record_part, Core.recordLost_part]
  split <;> rfl

theorem State.recoveredCore_reserves : s.recoveredCore.jrn.reserves = [true, true] := by
  simp only [State.recoveredCore, Core.settleFill_reserves, foldl_keeps (fun k : Core => k.jrn.reserves) Core.record_reserves, Core.recordLost_reserves]
  split <;> rfl

theorem State.recoveredCore_st : s.recoveredCore.jrn.st ≠ .recovering := by
  rw [State.recoveredCore, Core.settleFill_st]
  exact Jrn.byFill_ne_recovering _

end

/-- Settles O13: the records that the recovery appends wait in the buffer, so the partition stays as merged. -/
theorem journalRecoverRebuildsThePartition : Obligations.JournalRecoverRebuildsThePartition := by
  unfold Obligations.JournalRecoverRebuildsThePartition
  intro s hst hpeat hboot
  refine ⟨_, State.ends_eq s (recover s), ?_⟩
  rw [recover_of_due hst hpeat hboot]
  exact ⟨rfl, s.recoveredCore_part, s.recoveredCore_reserves, s.recoveredCore_st⟩

end Sys2Proof.Machine
end

section
/-! Unit resets, drains and their ends (R40 to R46, R54). -/

namespace Sys2Proof.Machine

/-- A request reaches an ACTIVE unit with no transition of its own: it drains (R42). -/
theorem State.startTr_of_active {s : State} {u : Nat} (k : Transition) (hnone : s.trOf u = none) (hactive : s.isActive u = true) :
    s.startTr u k = s.setTr u { phase := .draining, kind := k, queued := [], discarded := 0, began := s.core.now } := by
  simp [State.startTr, hnone, hactive]

/-- A reset of one unit reaches that unit. -/
theorem State.resetUnits_of_not_group {s : State} {u : Nat} (h : isGroupUnit u = false) : s.resetUnits u = [u] := by
  simp [State.resetUnits, h]

theorem cmdUnitReset_run_of_active {z : State} {w : Who} {p : Packet} (hunit : isGroupUnit (pkUnit p) = false) (hnone : z.trOf (pkUnit p) = none) (hactive : z.isActive (pkUnit p) = true) :
    cmdUnitReset.run z w p = .silent (z.setTr (pkUnit p) { phase := .draining, kind := .reset, queued := [], discarded := 0, began := z.core.now }) (.unit (uKey (pkUnit p))) := by
  simp [cmdUnitReset, State.resetUnits_of_not_group hunit, hunit, State.startTr_of_active .reset hnone hactive]

section
variable (s : State) (u d : Nat)

@[simp] theorem State.bumpDrained_genOf_same : (s.bumpDrained u d).core.genOf u = nextGen (s.core.genOf u) := s.core.genOf_bump_same u

theorem State.bumpDrained_genOf_ne {v : Nat} (h : uKey v ≠ uKey u) : (s.bumpDrained u d).core.genOf v = s.core.genOf v := s.core.genOf_bump_ne h

theorem State.bumpDrained_trans : (s.bumpDrained u d).core.trans = s.core.trans := rfl

end

/-- Settles O15: each guard opens the branch the clause names, and the end of a drain is a bump and an event. -/
theorem unitResetsComplete : Obligations.UnitResetsComplete := by
  unfold Obligations.UnitResetsComplete
  refine ⟨?_, ⟨?_, ?_, ?_⟩, ?_⟩
  · refine cmdUnitReset.starts_of _ _ _ (fun _ _ => rfl) fun z w p hg _ => ?_
    obtain ⟨hunit, hnone, hactive⟩ := hg
    exact cmdUnitReset_run_of_active hunit hnone hactive
  · intro s unit kind hown hrange hlow hdomain hleased hnone hactive
    have hguard : ¬ (s.foreign unit.toNat = true ∨ (!unitInRange unit.toNat) = true ∨ uCls unit.toNat ≤ 0x02 ∨ uCls unit.toNat = 0xA0 ∨ (kind = .powerDown ∧ s.leased unit.toNat = true)) := by
      simp [hown, hrange, hlow, hdomain, hleased]
    change s.ends (if _ then s else s.startTr unit.toNat kind) = _
    rw [s.ends_ite_neg hguard, State.startTr_of_active kind hnone hactive]
    rfl
  · intro s unit t hown hdomain htr hphase hdrained
    change execUnitQuiet unit s = _
    simp [execUnitQuiet, hown, hdomain, htr, hphase, hdrained, State.ends_eq]
  · intro s unit t hown hdomain hunit htr hphase hlimit
    change execDrainLimitExpire unit s = _
    simp [execDrainLimitExpire, hown, hdomain, hunit, htr, hphase, hlimit, State.ends_eq]
  · exact fun s u d => ⟨s.bumpDrained_genOf_same u d, s.bumpDrained_trans u d, fun v hv => s.bumpDrained_genOf_ne u d hv, nextGen_ne_zero _⟩

end Sys2Proof.Machine
end

section
/-! The Lichen link, its lanes and heartbeats, and pace (R19 to R33). -/

namespace Sys2Proof.Machine

/-! ## Flits -/

/-- A flit whose CRC fails is counted and starts dropping (R22). -/
theorem exec_lichenFlitReceive_of_bad {s : State} {toWarden : Bool} {flit : List Byte} (item : Option (BitVec 32 × Gen × BitVec 32)) (hup : s.lnk.up = true) (hbad : lichenOk flit = false) :
    exec (.lichenFlitReceive toWarden flit item) s =
      .next (s.kept (({ s with lnk := { s.lnk with crcErr := satInc s.lnk.crcErr } } : State).updDir toWarden fun x => { x with dropping := true })) := by
  change execLichenFlitReceive toWarden flit item s = _
  simp [execLichenFlitReceive, hup, hbad, State.ends_eq]

/-- The next stream data flit in order is taken (R23). -/
theorem exec_lichenFlitReceive_of_stream {s : State} {toWarden : Bool} {flit : List Byte} (hup : s.lnk.up = true) (hok : lichenOk flit = true) (hkind : fld (ofLe (flit.take 2)) 13 12 < 2)
    (hclass : fld (ofLe (flit.take 2)) 15 14 ≠ 1) (hseq : fld (ofLe (flit.take 2)) 11 0 = (s.lnk.dir toWarden).expect) (hack : (s.lnk.dir toWarden).sinceAck < 63) :
    exec (.lichenFlitReceive toWarden flit none) s =
      .next (s.kept (s.updDir toWarden fun x => { x with expect := (x.expect + 1) % 4096, dropping := false, sinceAck := x.sinceAck + 1 })) := by
  have hack1 : ¬ 64 ≤ (s.lnk.dir toWarden).sinceAck + 1 := by omega
  have hkind2 : fld (ofLe (flit.take 2)) 13 12 ≠ 2 := by omega
  have hkind3 : fld (ofLe (flit.take 2)) 13 12 ≠ 3 := by omega
  have hdir : ∀ f : LinkDir → LinkDir, (s.updDir toWarden f).lnk.dir toWarden = f (s.lnk.dir toWarden) := by cases toWarden <;> exact fun _ => rfl
  change execLichenFlitReceive toWarden flit none s = _
  simp [execLichenFlitReceive, hup, hok, hkind2, hkind3, hclass, hseq, hdir, hack1, State.ends_eq]

/-- A NAK within the replay buffer resends, and counts, what is left of it (R23). -/
theorem LinkDir.free_of_held {d : LinkDir} {seq : Nat} (h : (seq + 4096 - d.acked) % 4096 ≤ d.replay.length) :
    d.free seq = { d with acked := seq % 4096, replay := d.replay.drop ((seq + 4096 - d.acked) % 4096) } := by
  simp [LinkDir.free, not_lt.mpr h]

/-! ## Lanes -/

theorem Core.mem_irqs_irq (c : Core) (i : Irq) : i ∈ (c.irq i).irqs := by
  unfold Core.irq
  split
  next h => exact h
  next => simp

/-! ## Heartbeats -/

/-- One frond's heartbeat, as OSU_HEARTBEAT_SEND sends it (R20, R26). -/
def State.beat (t : State) (f : Nat) : State :=
  let t1 := t.secureFlit false
  let t2 : State := { t1 with lnk := { t1.lnk with lastBeat := Tbl.put t1.lnk.lastBeat f t1.core.now, osuFault := Tbl.put t1.lnk.osuFault f false } }
  if Tbl.at t.lnk.osuFault false f then t2.causeOnFrond .heartbeat false f else t2

/-- Heartbeats sent from a state without faults to the first n fronds: one message each at that device time. -/
structure State.Beaten (s t : State) (n : Nat) : Prop where
  dt : t.core.dt = s.core.dt
  healthy : ∀ f, Tbl.at t.lnk.osuFault false f = false
  beats : ∀ f, f < n → Tbl.find t.lnk.lastBeat f = some s.core.now
  messages : t.lnk.toCanvas.msgCount = s.lnk.toCanvas.msgCount + n
  flits : t.lnk.toCanvas.replay.length = s.lnk.toCanvas.replay.length + n

theorem State.Beaten.beat {s t : State} {n : Nat} (h : s.Beaten t n) : s.Beaten (t.beat n) (n + 1) := by
  have hbeat : t.beat n = { t.secureFlit false with lnk := { (t.secureFlit false).lnk with lastBeat := Tbl.put t.lnk.lastBeat n t.core.now, osuFault := Tbl.put t.lnk.osuFault n false } } := by
    rw [State.beat, h.healthy n]
    rfl
  have hnow : t.core.now = s.core.now := congrArg BitVec.toNat h.dt
  rw [hbeat]
  refine ⟨h.dt, fun f => ?_, fun f hf => ?_, ?_, ?_⟩
  · by_cases hfn : f = n
    · simp [Tbl.at, hfn]
    · have hhealthy := h.healthy f
      simp only [Tbl.at, Tbl.find_put_ne _ _ hfn] at hhealthy ⊢
      exact hhealthy
  · by_cases hfn : f = n
    · simp [hfn, hnow]
    · simp only [Tbl.find_put_ne _ _ hfn]
      exact h.beats f (by omega)
  · change t.lnk.toCanvas.msgCount + 1 = _
    rw [h.messages, Nat.add_assoc]
  · have hsent : (t.secureFlit false).lnk.toCanvas.replay.length = t.lnk.toCanvas.replay.length + 1 := List.length_append
    rw [hsent, h.flits, Nat.add_assoc]

theorem State.beaten_foldl (s : State) (hhealthy : s.lnk.osuFault = []) (n : Nat) : s.Beaten ((List.range n).foldl State.beat s) n := by
  induction n with
  | zero => exact ⟨rfl, fun f => congrArg (Tbl.at · false f) hhealthy, fun f hf => absurd hf (Nat.not_lt_zero f), rfl, rfl⟩
  | succ n ih =>
    rw [List.range_succ, List.foldl_append]
    exact ih.beat

/-- The heartbeats go out where the link is up, none is stopped, all are due and the replay buffer has room. -/
theorem exec_osuHeartbeatSend_of_due {s : State} (hup : s.lnk.up = true) (hsent : s.lnk.heartbeatsStopped = false) (hrun : s.sec.run ≠ .gaveUp) (hdue : s.lnk.lastBeat = []) (hroom : s.lnk.toCanvas.replay.length + 9 ≤ 1024) :
    exec .osuHeartbeatSend s = .next (s.kept ((List.range 9).foldl State.beat s)) := by
  have hall : (List.range 9).all (fun f => (Tbl.find s.lnk.lastBeat f).elim true (fun t => decide (t + 250000 ≤ s.core.now))) = true := by rw [hdue]; rfl
  have hguard : ¬ ((!s.lnk.up) = true ∨ s.lnk.heartbeatsStopped = true ∨ s.sec.run = .gaveUp ∨
      (!(List.range 9).all fun f => (Tbl.find s.lnk.lastBeat f).elim true fun t => decide (t + 250000 ≤ s.core.now)) = true ∨ (!s.lnk.toCanvas.room 9) = true) := by
    rw [hall]
    simp [hup, hsent, hrun, LinkDir.room, hroom]
  exact s.ends_ite_neg hguard

/-! ## Pace -/

/-- While the window is not full no average is known, so no overload begins (R32). -/
theorem Lnk.above_of_short {l : Lnk} (ps : Nat) (h : l.window.length < 100) : l.above ps = false := by
  simp [Lnk.above, h]

/-- What a sample leaves of the link while the window is not full. -/
def Lnk.sampled (l : Lnk) (canvas warden : List Nat) : Lnk :=
  { l with canvasPace := canvas, wardenPace := warden, pacePs := min (canvas.foldl max 0) 65535, slowest := canvas.findIdx (· == canvas.foldl max 0), window := l.window ++ [canvas.foldl max 0], calmUs := 0 }

theorem exec_paceSample_of_short {s : State} {canvas warden : List Nat} (hcanvas : canvas.length = 48) (hwarden : warden.length = 8) (hshort : s.lnk.window.length + 1 < 100) :
    exec (.paceSample canvas warden) s = .next (s.kept { s with lnk := s.lnk.sampled canvas warden }) := by
  have htake : canvas.take 48 = canvas := List.take_of_length_le hcanvas.le
  have htake' : warden.take 8 = warden := List.take_of_length_le hwarden.le
  have hdrop : s.lnk.window.length + 1 - 100 = 0 := by omega
  have hne : canvas ≠ [] := fun h => by simp [h] at hcanvas
  have hwindow : ¬ 100 ≤ s.lnk.window.length + 1 := by omega
  change execPaceSample canvas warden s = _
  simp [execPaceSample, htake, htake', hdrop, hne, Lnk.above, hwindow, State.ends_eq, Lnk.sampled]

/-- Settles O16: each event's guard holds, and the nine heartbeats are a fold that adds one message at a time. -/
theorem lichenLinkAndPaceComplete : Obligations.LichenLinkAndPaceComplete := by
  unfold Obligations.LichenLinkAndPaceComplete
  refine ⟨⟨?_, ?_, ?_, ?_, ?_⟩, ⟨?_, ?_, ?_, ?_⟩, ?_, ?_⟩
  · exact fun s hup hack => s.ends_ite_pos ⟨hup, hack⟩
  · exact fun s hup hack => s.ends_ite_pos ⟨hup, hack⟩
  · intro s seq hup hheld
    have hguard : ¬ ((!s.lnk.up) = true ∨ s.lnk.toWarden.replay.length < (seq + 4096 - s.lnk.toWarden.acked) % 4096) := by simp [hup, hheld]
    refine (s.ends_ite_neg hguard).trans ?_
    simp [State.updDir, State.countReplay, Lnk.dir, LinkDir.free_of_held hheld]
  · exact fun s flit item hup hbad => exec_lichenFlitReceive_of_bad item hup hbad
  · exact fun s flit hup hok hkind hclass hseq hack => exec_lichenFlitReceive_of_stream (toWarden := true) hup hok hkind hclass hseq hack
  · intro s lane hlane hup hfirst hspare
    have hlane5 : ¬ 5 ≤ lane := by omega
    have hlane4 : lane ≠ 4 := by omega
    have hbit : ∀ n, bitOf 0 n = false := fun n => by simp [bitOf]
    change execLaneFail lane s = _
    simp [execLaneFail, hlane5, hlane4, hup, hfirst, hspare, hbit, State.ends_eq, State.countReplay]
  · intro s lane hlane hup hbit hspare
    have hlane5 : ¬ 5 ≤ lane := by omega
    refine ⟨s.kept (({ s with lnk := { s.lnk with laneFail := s.lnk.laneFail + 2 ^ lane, degraded := true, replayCount := satAdd s.lnk.replayCount (s.lnk.toWarden.replay.length + s.lnk.toCanvas.replay.length) } } : State).mapCore (fun c => c.irq .mgmtLinkDegraded)), ?_, rfl, s.core.mem_irqs_irq _⟩
    change execLaneFail lane s = _
    simp [execLaneFail, hlane5, hup, hbit, hspare, State.ends_eq, State.countReplay, State.mapCore]
  · intro s frond hfrond hlost hhealthy
    have hguard : ¬ (9 ≤ frond ∨ s.core.now < Tbl.at s.lnk.lastBeat 0 frond + 2000000 ∨ Tbl.at s.lnk.osuFault false frond = true) := by simp [hfrond, hlost, hhealthy]
    exact s.ends_ite_neg hguard
  · intro s hup hsent hrun hdue hhealthy hroom
    obtain ⟨_, _, hbeats, hmessages, hflits⟩ := s.beaten_foldl hhealthy 9
    refine ⟨_, exec_osuHeartbeatSend_of_due hup hsent hrun hdue hroom, ?_⟩
    rw [State.kept_lnk]
    exact ⟨hbeats, hmessages, hflits⟩
  · intro s canvas warden hcanvas hwarden hshort
    refine ⟨_, exec_paceSample_of_short hcanvas hwarden hshort, ?_⟩
    exact ⟨rfl, rfl, rfl, rfl, rfl, rfl, rfl⟩
  · exact fun s hover hcalm => s.ends_ite_pos ⟨hover, hcalm⟩

end Sys2Proof.Machine
end

section
/-! Share records, the manager's mailbox and the DTU's commands (R113 to R120, R131, R132, R628). -/

namespace Sys2Proof.Machine

/-- A number that fits a field from bit 0 is that field. -/
theorem fld_zero_of_lt {w hi : Nat} (h : w < 2 ^ (hi + 1)) : fld w hi 0 = w := by
  rw [fld_eq_div (Nat.zero_le hi) h, pow_zero, Nat.div_one]

/-- A vector that is sent or pends touches host memory and the pending bits. -/
theorem Core.raise_eq (c : Core) (inst vec : Nat) : ∃ h p, c.raise inst vec = { c with host := h, pba := p } := by
  unfold Core.raise
  dsimp only
  split_ifs
  all_goals exact ⟨_, _, rfl⟩

theorem cmdAdmissionStatus_ask_of_no_buffer {z : State} {w : Who} {p : Packet} (h : pkW p 0 = 0) :
    cmdAdmissionStatus.ask z w p =
      (z, Rsp.ok (Tbl.at z.core.adm AdmCount.zero (uIdx (pkUnit p))).delayed (Tbl.at z.core.adm AdmCount.zero (uIdx (pkUnit p))).refused (Tbl.at z.core.adm AdmCount.zero (uIdx (pkUnit p))).late) := by
  simp [cmdAdmissionStatus, h]

/-! ## Mailboxes of the functions -/

section
variable {s : State} {inst count : Nat}

/-- While a request has no reply, a send sets BUSY (R115). -/
theorem exec_vfMboxSend_of_asked (hinst : 0 < inst) (hinst' : inst < 64) (hcount : count ≤ 512) (hasked : Tbl.at s.core.vfAsked false inst = true) :
    exec (.vfMboxSend inst count) s = .next (s.kept (s.mapCore fun c => { c with vfBusy := Tbl.put c.vfBusy inst true })) := by
  have hn : fld count 9 0 = count := fld_zero_of_lt (by omega)
  change execVfMboxSend inst count s = _
  simp [execVfMboxSend, hn, hinst.ne', not_le.mpr hinst', not_lt.mpr hcount, hasked, State.ends_eq]

/-- A send with no request open goes to the manager's up mailbox, with its notification (R115). -/
theorem exec_vfMboxSend_of_open (hinst : 0 < inst) (hinst' : inst < 64) (hcount : count ≤ 512) (hopen : Tbl.at s.core.vfAsked false inst = false) (hbase : s.core.mboxUp ≠ 0) :
    exec (.vfMboxSend inst count) s = .next (s.kept (s.mapCore fun c =>
      Core.notify { Core.wr2 0 ((fit 512 (Tbl.at c.vfReq [] inst)).take count) c (c.mboxUp + 32768 + 512 * inst) with vfAsked := Tbl.put c.vfAsked inst true } 0x0003 inst (uid 0x01 inst 0) (le 2 count))) := by
  have hn : fld count 9 0 = count := fld_zero_of_lt (by omega)
  change execVfMboxSend inst count s = _
  simp [execVfMboxSend, hn, hinst.ne', not_le.mpr hinst', not_lt.mpr hcount, hopen, hbase, State.ends_eq]

/-- A reply in the down slot, as the function sees it (R115). -/
def Core.takeReply (c : Core) (inst count : Nat) : Core :=
  { c with vfRsp := Tbl.put c.vfRsp inst (c.rd2 0 (c.mboxDown + 1024 * inst) count ++ (fit 1024 (Tbl.at c.vfRsp [] inst)).drop count),
           vfReply := Tbl.put c.vfReply inst true, vfAsked := Tbl.put c.vfAsked inst false, vfBusy := Tbl.put c.vfBusy inst false }

theorem exec_mgtMboxReply_of_base (hinst : 0 < inst) (hinst' : inst < 64) (hcount : count ≤ 1024) (hbase : s.core.mboxDown ≠ 0) :
    exec (.mgtMboxReply inst count []) s = .next (s.kept (s.mapCore fun c => (c.takeReply inst count).raise inst Config.mailboxVector.toNat)) := by
  have hguard : ¬ (inst = 0 ∨ 64 ≤ inst ∨ 1024 < count ∨ s.core.mboxDown = 0) := by omega
  exact s.ends_ite_neg hguard

end

/-- Settles O18: the commands by their meaning, the mailbox events by their guards. -/
theorem shareMailboxAndTranslationComplete : Obligations.ShareMailboxAndTranslationComplete := by
  unfold Obligations.ShareMailboxAndTranslationComplete
  refine ⟨⟨?_, ?_, ?_, ?_, ?_⟩, ?_, ?_, ?_, ?_, ?_, ?_⟩
  · exact cmdShareSet.serves_of _ _ _ (fun _ _ => rfl) fun _ _ _ _ _ => ⟨rfl, rfl⟩
  · exact cmdDtuInvalidate.serves_of _ _ _ (fun _ _ => rfl) fun _ _ _ _ _ => ⟨rfl, rfl⟩
  · exact cmdStage2Set.serves_of _ _ _ (fun _ _ => rfl) fun _ _ _ _ _ => ⟨rfl, rfl⟩
  · exact cmdAdmissionStatus.answers_of _ _ _ (fun _ _ => rfl) fun _ _ _ hg _ => cmdAdmissionStatus_ask_of_no_buffer hg
  · exact cmdStage2Set.answers_of _ _ _ (fun _ _ => rfl) fun _ _ _ _ _ => rfl
  · intro s head hwaiting hkept
    change s.ends (s.mapCore fun c => Core.postWaiting (c.waitingN.length + c.keptN.length) { c with upHead := head % 2 ^ 32 }) = _
    have hcount : s.core.waitingN.length + s.core.keptN.length = 0 := by rw [hwaiting, hkept]; rfl
    rw [State.ends_eq, State.mapCore, hcount]
    rfl
  · exact fun _ _ => rfl
  · exact fun _ _ _ => exec_vfMboxSend_of_asked
  · exact fun _ _ _ => exec_vfMboxSend_of_open
  · intro s inst count hinst hinst' hcount hbase
    refine ⟨_, exec_mgtMboxReply_of_base hinst hinst' hcount hbase, ?_⟩
    obtain ⟨h, p, hraise⟩ := (s.core.takeReply inst count).raise_eq inst Config.mailboxVector.toNat
    rw [State.kept_core, State.mapCore_core, hraise]
    exact ⟨Tbl.find_put_same _ _ _, Tbl.find_put_same _ _ _, Tbl.find_put_same _ _ _, Tbl.find_put_same _ _ _⟩
  · intro s inst off size hinst hinst' hsize
    have hguard : ¬ (inst = 0 ∨ 64 ≤ inst ∨ 1024 < off + size) := by omega
    exact s.ends_ite_neg hguard

end Sys2Proof.Machine
end

section
/-! The secure firmware's commands and sessions (R494 to R521, R525). -/

namespace Sys2Proof.Machine

/-! ## Keys, modes and tamper inputs -/

theorem cmdKeyLoad_run_of_operator {z : State} (w : Who) {p : Packet} (h : pkF p 0 3 0 < 4) :
    cmdKeyLoad.run z w p =
      .done (({ z with sec := { z.sec with operatorKeys := Tbl.put z.sec.operatorKeys (pkF p 0 3 0) (pkSpan p 1 12) } } : State).extend 11 (le 1 (pkF p 0 3 0) ++ pkSpan p 1 12)) (Rsp.plain .served) := by
  simp only [cmdKeyLoad, if_pos h]

theorem cmdKeyLoad_run_of_session {z : State} (w : Who) {p : Packet} (h : 4 ≤ pkF p 0 3 0) :
    cmdKeyLoad.run z w p =
      .done ((({ z with sec := { z.sec with sessionKeys := Tbl.put z.sec.sessionKeys (pkF p 0 3 0 - 4) { key := pkSpan p 1 12, certified := bitOf (pkW p 0) 8 } } } : State).endSessions fun a => a.slot == pkF p 0 3 0 - 4).extend 11
        (le 1 (pkF p 0 3 0) ++ pkSpan p 1 12)) (Rsp.plain .served) := by
  simp only [cmdKeyLoad, if_neg (not_lt.mpr h)]

theorem cmdTamperSet_run_of_unlocked {z : State} (w : Who) {p : Packet} (h : bitOf (pkW p 0) 31 = false) :
    cmdTamperSet.run z w p = .done { z with sec := { z.sec with tamperCfg := Tbl.put z.sec.tamperCfg (pkF p 0 34 32) (pkF p 0 31 0) } } (Rsp.plain .served) := by
  simp [cmdTamperSet, h]

theorem cmdRegulatedSet_run_of_regulated {z : State} (w : Who) (p : Packet) (h : z.regulated = true) : cmdRegulatedSet.run z w p = .done z (Rsp.plain .served) := if_pos h

theorem cmdRegulatedSet_run_of_not_regulated {z : State} (w : Who) (p : Packet) (h : z.regulated = false) :
    cmdRegulatedSet.run z w p =
      .done (((z.mapCore fun c => { c with jrn := { c.jrn with regulated := true } }).extend 10 (le 4 6)).mapCore fun c =>
        (c.event 0xFE95 0 0 1 ((((z.mapCore fun c => { c with jrn := { c.jrn with regulated := true } }).extend 10 (le 4 6)).measOf 10).take 16)).journalState false) (Rsp.plain .served) :=
  if_neg (Bool.eq_false_iff.mp h)

/-! ## Authenticated sessions and the approved list -/

theorem cmdSecSessionOpen_run_of_verifies {z : State} {w : Who} {p : Packet} (h : sessionVerifies z w p = true) :
    cmdSecSessionOpen.run z w p =
      .done ((z.putChallenge w none).putAuth w { slot := pkF p 0 2 0, opened := z.core.now })
        (Rsp.ok (pkF p 0 2 0) (b2n ((Tbl.find z.sec.sessionKeys (pkF p 0 2 0)).elim false SessKey.certified)) 0) := if_pos h

/-- A read of host memory touches the core alone. -/
theorem State.part_hostRead {α : Type} (part : State → α) (s : State) (w : Who) (addr n : Nat) (hcore : ∀ k, part { s with core := k } = part s) : part (s.hostRead w addr n).1 = part s := by
  unfold State.hostRead
  cases s.core.slice w.inst w.slice with
  | none => rfl
  | some sl => by_cases h : (w.secure || w.remote.isSome) = true <;> simp [h, hcore]

/-- A list that is read, well formed and signed by its operator key is put in force (R519). -/
theorem cmdApprovedSet_run_of_signed {z z1 : State} {w : Who} {p : Packet} {bs key : List Byte} (hread : z.hostRead w (pkW p 0) (64 * pkW p 1 + 100) = (z1, .ok bs))
    (hok : approvedOk (pkW p 1) (bs.take (64 * pkW p 1)) = true) (hkey : Tbl.find z.sec.operatorKeys (ofLe ((bs.drop (64 * pkW p 1)).take 4)) = some key)
    (hsig : ecdsaVerify key (sha384 (bs.take (64 * pkW p 1))) (bs.drop (64 * pkW p 1 + 4)) = true) :
    cmdApprovedSet.run z w p =
      .done (({ z1 with sec := { z1.sec with approved := approvedOf (pkW p 1) (bs.take (64 * pkW p 1)), approvedWords := [BitVec.ofNat 64 (pkW p 0), BitVec.ofNat 64 (pkW p 1)] } } : State).extend 9 (bs.take (64 * pkW p 1)))
        (Rsp.plain .served) := by
  simp only [cmdApprovedSet, hread, hok, hkey, hsig, Option.elim_some, Bool.not_true, Bool.false_eq_true, if_false, if_true]

/-- Settles O19: each guard opens the branch of its command's meaning that the clause names. -/
theorem secureCommandsComplete : Obligations.SecureCommandsComplete := by
  unfold Obligations.SecureCommandsComplete
  refine ⟨⟨?_, ?_, ?_, ?_, ?_, ?_, ?_, ?_, ?_⟩, ?_, ?_⟩
  · exact cmdKeyLoad.serves_of _ _ _ (fun _ _ => rfl) fun _ w _ hg _ => ⟨cmdKeyLoad_run_of_operator w hg, rfl⟩
  · exact cmdKeyLoad.serves_of _ _ _ (fun _ _ => rfl) fun _ w _ hg _ => ⟨cmdKeyLoad_run_of_session w hg, rfl⟩
  · exact cmdLeaseSet.serves_of _ _ _ (fun _ _ => rfl) fun _ _ _ _ _ => ⟨rfl, rfl⟩
  · exact cmdTamperSet.serves_of _ _ _ (fun _ _ => rfl) fun _ w _ hg _ => ⟨cmdTamperSet_run_of_unlocked w hg, rfl⟩
  · exact cmdTamperClear.serves_of _ _ _ (fun _ _ => rfl) fun _ _ _ _ _ => ⟨rfl, rfl⟩
  · exact cmdRegulatedSet.serves_of _ _ _ (fun _ _ => rfl) fun _ w p hg _ => ⟨cmdRegulatedSet_run_of_regulated w p hg, rfl⟩
  · exact cmdRegulatedSet.serves_of _ _ _ (fun _ _ => rfl) fun _ w p hg _ => ⟨cmdRegulatedSet_run_of_not_regulated w p hg, rfl⟩
  · exact cmdDebugClose.serves_of _ _ _ (fun _ _ => rfl) fun _ _ _ _ _ => ⟨rfl, rfl⟩
  · exact cmdSecSessionClose.serves_of _ _ _ (fun _ _ => rfl) fun _ _ _ _ _ => ⟨rfl, rfl⟩
  · exact cmdSecSessionOpen.serves_of _ _ _ (fun _ _ => rfl) fun _ _ _ hg _ => ⟨cmdSecSessionOpen_run_of_verifies hg, rfl⟩
  · refine cmdApprovedSet.serves_of _ _ _ (fun _ _ => rfl) fun z w p hg _ => ?_
    obtain ⟨bs, key, hbs, hok, hkey, hsig⟩ := hg
    have hread : z.hostRead w (pkW p 0) (64 * pkW p 1 + 100) = ((z.hostRead w (pkW p 0) (64 * pkW p 1 + 100)).1, .ok bs) := Prod.ext rfl hbs
    simp only [hbs]
    rw [State.part_hostRead State.sec z w _ _ fun _ => rfl] at hkey
    exact ⟨cmdApprovedSet_run_of_signed hread hok hkey hsig, rfl⟩

end Sys2Proof.Machine
end

section
/-! # The secure registers and the SEC's own events

Each lock bit, restart, certificate and tamper arm is an end of one conditional; the lemmas below evaluate its guard. -/
namespace Sys2Proof.Machine

/-! ## Registers of the secure world (R513, R516, R522) -/

/-- A write of the secure world to the Warden's own registers is always made (Table 20.3). -/
theorem State.regWrite_sec (s : State) (pfWrites secure : Bool) (go : State → State) : s.regWrite .sec false pfWrites secure go = go s := rfl

/-- A lock bit of the secure world that is clear is set. -/
theorem State.ends_regWrite_sec_of_clear {locked : State → Bool} {go : State → State} {s : State} (h : locked s = false) :
    s.ends (s.regWrite .sec false false true (fun t => if locked t then t else go t)) = .next (s.kept (go s)) :=
  s.ends_ite_neg (Bool.eq_false_iff.mp h)

theorem exec_lockBitSet_tamper {s : State} {n : Nat} (hn : n < 8) (h : bitOf (Tbl.cnt s.sec.tamperCfg n) 31 = false) :
    exec (.lockBitSet .sec (16 + n)) s =
      .next (s.kept (({ s with sec := { s.sec with tamperCfg := Tbl.put s.sec.tamperCfg n (Tbl.cnt s.sec.tamperCfg n + 2 ^ 31) } } : State).extend 10 (le 4 (16 + n)))) := by
  change s.ends _ = _
  rw [if_neg (by omega), if_neg (by omega), if_neg (by omega), if_pos (by omega), State.regWrite_sec, Nat.add_sub_cancel_left]
  exact s.ends_ite_neg (Bool.eq_false_iff.mp h)

theorem fit_of_length {n : Nat} {d : List Byte} (h : d.length = n) : fit n d = d := by
  subst h
  exact List.take_left

theorem exec_secMeasExtend_of_free {s : State} {n : Nat} {d : List Byte} (hn : n < 16) (hfree : ¬ n ∈ [0, 6, 7, 8, 10, 12, 15]) (hd : d.length = 48) :
    exec (.secMeasExtend .sec n d) s = .next (s.kept (s.extendDigest n d)) := by
  have hguard : ¬ (16 ≤ n ∨ [0, 6, 7, 8, 10, 12, 15].contains n = true) := by
    rw [List.contains_iff_mem]
    exact not_or.mpr ⟨not_le.mpr hn, hfree⟩
  refine (s.ends_ite_neg hguard).trans ?_
  rw [fit_of_length hd]

/-! ## Restarts (R523, R524) -/

/-- The SEC after a restart that succeeds as the first of its window, before the event of R524. -/
def State.secRestarted (s : State) : State :=
  State.extend { s with sec := { s.sec with run := .running, wdog := s.core.now, restarts := s.sec.restarts + 1, restartTimes := [s.sec.restartBegan] } } 15 (le 4 (s.sec.restarts + 1) ++ le 1 s.sec.restartCause)

theorem exec_secRestartDone_of_first {s : State} {d : List Byte} (hrun : s.sec.run = .restarting) (hd : d = s.sec.fwDigest) (hfirst : s.sec.restartTimes = []) :
    exec (.secRestartDone d) s = .next (s.kept (s.secRestarted.mapCore fun c => Core.event { c with jrn := { c.jrn with resumed := true } } 0xFE90 0 0 (s.sec.restarts + 1)
      (le 1 s.sec.restartCause ++ le 4 ((s.core.now - s.sec.restartBegan) / 1000)))) := by
  change s.ends _ = _
  rw [if_neg (not_not_intro hrun), if_neg (not_not_intro hd), hfirst]
  rfl

theorem exec_secRestartDone_of_other {s : State} {d : List Byte} (hrun : s.sec.run = .restarting) (hd : d ≠ s.sec.fwDigest) : exec (.secRestartDone d) s = .next (s.kept (s.secGiveUp 1)) := by
  change s.ends _ = _
  rw [if_neg (not_not_intro hrun), if_pos hd, State.ends_eq]

/-! ## Debug certificates and tamper inputs (R517, R526) -/

theorem exec_dbgCertWrite_of_ok {s : State} {word : Nat} (hopen : s.sec.dbgLocked = false)
    (hok : certOk { s with sec := { s.sec with dbgCert := Memory.wrN s.sec.dbgCert 252 (le 4 word) } } (Memory.rdN (Memory.wrN s.sec.dbgCert 252 (le 4 word)) 0 256) = true) :
    exec (.dbgCertWrite word) s = .next (s.kept ([3, 2, 1, 0].foldl (fun u b => if bitOf ((Memory.rdN (Memory.wrN s.sec.dbgCert 252 (le 4 word)) 0 256).getD 16 0).toNat b then u.debugEnable b else u)
      { s with sec := { s.sec with dbgCert := Memory.wrN s.sec.dbgCert 252 (le 4 word) } })) := by
  change s.ends _ = _
  rw [if_neg (Bool.eq_false_iff.mp hopen), if_pos hok, State.ends_eq]

theorem exec_dbgCertWrite_of_bad {s : State} {word : Nat} (hopen : s.sec.dbgLocked = false)
    (hbad : certOk { s with sec := { s.sec with dbgCert := Memory.wrN s.sec.dbgCert 252 (le 4 word) } } (Memory.rdN (Memory.wrN s.sec.dbgCert 252 (le 4 word)) 0 256) = false) :
    exec (.dbgCertWrite word) s =
      .next (s.kept { s with sec := { s.sec with dbgCert := Memory.wrN s.sec.dbgCert 252 (le 4 word), dbgCertFail := min 0xFFFF (s.sec.dbgCertFail + 1), dbgLocked := decide (8 ≤ s.sec.dbgCertFail + 1) } }) := by
  change s.ends _ = _
  rw [if_neg (Bool.eq_false_iff.mp hopen), if_neg (Bool.eq_false_iff.mp hbad), State.ends_eq]

theorem exec_tamperAssert_of_due {s : State} {input ms : Nat} (hin : input < 8) (hen : bitOf (Tbl.cnt s.sec.tamperCfg input) 1 = true) (hms : fld (Tbl.cnt s.sec.tamperCfg input) 23 16 ≤ ms)
    (hoff : ¬ input ∈ s.sec.tamperOn) (hlatch : bitOf (Tbl.cnt s.sec.tamperCfg input) 8 = false) (hon : s.onlyAon = false) :
    exec (.tamperAssert input ms) s =
      .next (s.kept ((({ s with sec := { s.sec with tamperOn := s.sec.tamperOn ++ [input] } } : State).tamperEvent input (Tbl.cnt s.sec.tamperCfg input) true).tamperResponds (Tbl.cnt s.sec.tamperCfg input))) := by
  have hguard : ¬ (8 ≤ input ∨ (!bitOf (Tbl.cnt s.sec.tamperCfg input) 1) = true ∨ ms < fld (Tbl.cnt s.sec.tamperCfg input) 23 16 ∨ s.sec.tamperOn.contains input = true) := by
    simp [hin, hen, hms, hoff]
  refine (s.ends_ite_neg hguard).trans ?_
  simp only [hlatch, hon, Bool.or_self, Bool.false_and, Bool.false_eq_true, if_false]

theorem exec_tamperRelease_of_due {s : State} {input ms : Nat} (hin : input ∈ s.sec.tamperOn) (hms : fld (Tbl.cnt s.sec.tamperCfg input) 23 16 ≤ ms) (hon : s.onlyAon = false) :
    exec (.tamperRelease input ms) s =
      .next (s.kept (({ s with sec := { s.sec with tamperOn := s.sec.tamperOn.filter (· != input) } } : State).tamperEvent input (Tbl.cnt s.sec.tamperCfg input) false)) := by
  have hguard : ¬ ((!s.sec.tamperOn.contains input) = true ∨ ms < fld (Tbl.cnt s.sec.tamperCfg input) 23 16) := by simp [hin, hms]
  refine (s.ends_ite_neg hguard).trans ?_
  rw [if_neg (Bool.eq_false_iff.mp hon)]

/-- Settles O22: each arm is an end of one conditional, whose guard the clause's hypotheses decide. -/
theorem secureRegistersAndEventsComplete : Obligations.SecureRegistersAndEventsComplete := by
  unfold Obligations.SecureRegistersAndEventsComplete
  refine ⟨⟨?_, ?_, ?_, ?_, ?_, ?_, ?_, ?_⟩, ⟨?_, ?_, ?_, ?_⟩, ?_, ?_, ?_, ?_, ?_⟩
  · exact fun _ h => State.ends_regWrite_sec_of_clear (locked := fun t => t.sec.keyLock) h
  · exact fun _ h => State.ends_regWrite_sec_of_clear (locked := fun t => t.sec.approvedLock) h
  · exact fun _ h => State.ends_regWrite_sec_of_clear (locked := fun t => t.led.veilLock) h
  · exact fun s h => s.ends_ite_neg (Bool.eq_false_iff.mp h)
  · exact fun s h => s.ends_ite_neg (Bool.eq_false_iff.mp h)
  · exact fun _ _ hn h => exec_lockBitSet_tamper hn h
  · exact fun _ _ _ hn hfree hd => exec_secMeasExtend_of_free hn hfree hd
  · exact fun s _ h => s.ends_ite_neg (not_le.mpr h)
  · exact fun s hrun hdue => s.ends_ite_pos ⟨hrun, hdue⟩
  · exact fun s hrun => s.ends_ite_pos hrun
  · intro s d hrun hd hfirst
    refine ⟨_, exec_secRestartDone_of_first hrun hd hfirst, ?_⟩
    rw [State.kept_sec]
    exact ⟨rfl, rfl, rfl, rfl, Tbl.cnt_inc_same _ _, rfl, rfl⟩
  · intro s d hrun hd
    exact ⟨_, exec_secRestartDone_of_other hrun hd, rfl, rfl⟩
  · exact fun _ => rfl
  · exact fun _ _ hopen hok => ⟨_, exec_dbgCertWrite_of_ok hopen hok, rfl⟩
  · exact fun _ _ hopen hbad => exec_dbgCertWrite_of_bad hopen hbad
  · exact fun _ _ _ hin hen hms hoff hlatch hon => exec_tamperAssert_of_due hin hen hms hoff hlatch hon
  · exact fun _ _ _ hin hms hon => exec_tamperRelease_of_due hin hms hon

end Sys2Proof.Machine
end

section
/-! # Memory requests

A request passes the lock table, then the region controller, then its group (R179 to R182): one lemma per outcome of `State.memRequest`, and what its two refusals leave. -/
namespace Sys2Proof.Machine

/-- A request is held back by the lock table: a write at a locked surface without that surface's own writing reference (R195). -/
def State.heldByLock (s : State) (r : MemReq) : Bool := r.write && (s.surfAt r.addr).elim false (fun e => e.2.1.locked && !(r.surface == some e.1 && e.2.1.written))

theorem State.heldByLock_of_locked {s : State} {r : MemReq} {n off : Nat} {sf : Surf} (hw : r.write = true) (hat : s.surfAt r.addr = some (n, sf, off)) (hl : sf.locked = true)
    (href : r.surface ≠ some n ∨ sf.written = false) : s.heldByLock r = true := by
  rcases href with h | h <;> simp [State.heldByLock, hw, hat, hl, h]

theorem State.heldByLock_of_unlocked {s : State} {r : MemReq} (h : r.write = true → ∀ e, s.surfAt r.addr = some e → e.2.1.locked = false) : s.heldByLock r = false := by
  unfold State.heldByLock
  cases hw : r.write with
  | false => rfl
  | true =>
    cases hat : s.surfAt r.addr with
    | none => rfl
    | some e => simp [h hw e hat]

theorem State.memRequest_of_held {s : State} {r : MemReq} {n off : Nat} {sf : Surf} (hat : s.surfAt r.addr = some (n, sf, off)) (h : s.heldByLock r = true) :
    s.memRequest r =
      { s.lockDrop (r.inst.getD 0) r.slice n off 2 with mem := { (s.lockDrop (r.inst.getD 0) r.slice n off 2).mem with answer := some .dropped } } := by
  refine (if_pos h).trans ?_
  simp only [hat, Option.elim_some]

theorem State.memRequest_of_denied {s : State} {r : MemReq} (h : s.heldByLock r = false) (hp : s.permits r.port r.write r.addr = false) :
    s.memRequest r =
      { s.deny r.port r.inst r.slice r.write r.addr with mem := { (s.deny r.port r.inst r.slice r.write r.addr).mem with answer := some (if r.write then .dropped else .error) } } :=
  (if_neg (Bool.eq_false_iff.mp h)).trans (if_pos (by rw [hp]; rfl))

/-- A permitted read, or a write outside every surface or to one without a mirror, goes to its group. -/
theorem State.memRequest_of_plain {s : State} {r : MemReq} (h : s.heldByLock r = false) (hp : s.permits r.port r.write r.addr = true)
    (hplain : r.write = true → ∀ e, s.surfAt r.addr = some e → e.2.1.mirror = none) : s.memRequest r = s.toGroup r := by
  refine (if_neg (Bool.eq_false_iff.mp h)).trans ((if_neg (by rw [hp]; exact Bool.false_ne_true)).trans ?_)
  cases hw : r.write with
  | false => rfl
  | true =>
    cases hat : s.surfAt r.addr with
    | none => rfl
    | some e => simp only [hplain hw e hat]

/-- A write to a mirrored surface whose groups both serve goes to both (R174). -/
theorem State.memRequest_of_mirrored {s : State} {r : MemReq} {n off m : Nat} {sf : Surf} (h : s.heldByLock r = false) (hw : r.write = true) (hat : s.surfAt r.addr = some (n, sf, off))
    (hm : sf.mirror = some m) (hp : s.permits r.port true r.addr = true) (ha : (s.group sf.home).st.serves = true) (hb : (s.group (1 - sf.home)).st.serves = true) :
    s.memRequest r = (((s.enqueue { r with addr := sf.homeBase + off }).enqueue { r with addr := sf.mirrorBase m + off }).updSurf n (fun x => x)) := by
  refine (if_neg (Bool.eq_false_iff.mp h)).trans ((if_neg (by rw [hw, hp]; exact Bool.false_ne_true)).trans ?_)
  simp only [hw, hat, hm, ha, hb, if_true, Bool.or_self, Bool.not_true, Bool.false_and, Bool.or_false]

/-! ## What a refusal leaves -/

theorem State.updGroup_dram (s : State) (g : Nat) (f : MemGroup → MemGroup) : (s.updGroup g f).mem.dram = s.mem.dram := by
  unfold State.updGroup
  split <;> rfl

theorem State.lockDrop_dram (s : State) (inst slice n off path : Nat) : (s.lockDrop inst slice n off path).mem.dram = s.mem.dram := by
  unfold State.lockDrop
  split
  · rfl
  · dsimp only
    split
    · split <;> rfl
    · rfl

/-- Each write that the lock table drops on a registered surface is counted at its instance (R195). -/
theorem State.lockDrop_dropCount {s : State} (inst slice : Nat) {n : Nat} (off path : Nat) (h : Tbl.has s.srf.surfs n = true) :
    (s.lockDrop inst slice n off path).srf.dropCount = Tbl.inc s.srf.dropCount inst := by
  unfold State.lockDrop
  split
  next hnone => simp [Tbl.has, hnone] at h
  next =>
    dsimp only
    split
    · split <;> rfl
    · rfl

/-- A denied request changes its group alone, and the core that reports it. -/
theorem State.deny_mem (s : State) (port : Nat) (inst : Option Nat) (slice : Nat) (write : Bool) (addr : Nat) :
    (s.deny port inst slice write addr).mem =
      (s.updGroup (addrGroup addr) (fun m => { m with rgnViol := satInc m.rgnViol, rgnViolAddr := m.rgnViolAddr.or (some (reqWord addr port inst write)) })).mem := by
  unfold State.deny
  cases inst <;> dsimp only <;> split <;> rfl

theorem State.group_of_mem_eq {s t : State} (h : s.mem = t.mem) (g : Nat) : s.group g = t.group g := by
  unfold State.group
  rw [h]

theorem State.deny_dram (s : State) (port : Nat) (inst : Option Nat) (slice : Nat) (write : Bool) (addr : Nat) : (s.deny port inst slice write addr).mem.dram = s.mem.dram := by
  rw [State.deny_mem, State.updGroup_dram]

theorem State.deny_counts (s : State) (port : Nat) (inst : Option Nat) (slice : Nat) (write : Bool) (addr : Nat) :
    ((s.deny port inst slice write addr).group (addrGroup addr)).rgnViol = satInc (s.group (addrGroup addr)).rgnViol := by
  rw [State.group_of_mem_eq (State.deny_mem s port inst slice write addr), State.group_updGroup_same]

/-! ## The request itself -/

theorem exec_memoryRequest (port : Nat) (inst : Option Nat) (slice band : Nat) (write : Bool) (addr : Nat) (data : List Byte) (surface : Option Nat) (s : State) :
    exec (.memoryRequest port inst slice band write addr data surface) s =
      .next (s.kept (s.memRequest { port := port, inst := inst, slice := slice, band := band, write := write, addr := addr % 2 ^ 36, data := data, surface := surface })) := rfl

/-- Settles O24: the lock table, then the region controller, then the group decide the outcome. -/
theorem memoryRequestsComplete : Obligations.MemoryRequestsComplete := by
  unfold Obligations.MemoryRequestsComplete
  refine ⟨?_, ?_, ?_, ?_⟩
  · intro s port inst slice band addr data surface n off sf hat hlocked href
    refine ⟨?_, State.lockDrop_dram .., fun h => ?_⟩
    · rw [exec_memoryRequest, State.memRequest_of_held hat (State.heldByLock_of_locked rfl hat hlocked href)]
    · rw [State.lockDrop_dropCount _ _ _ _ h, Tbl.cnt_inc_same]
  · intro s port inst slice band write addr data surface hfree hdenied
    refine ⟨?_, State.deny_dram .., State.deny_counts ..⟩
    rw [exec_memoryRequest, State.memRequest_of_denied (r := ⟨port, inst, slice, band, write, addr % 2 ^ 36, data, surface⟩) (State.heldByLock_of_unlocked hfree) hdenied]
  · intro s port inst slice band write addr data surface hfree hpermits
    have hplain := State.memRequest_of_plain (r := ⟨port, inst, slice, band, write, addr % 2 ^ 36, data, surface⟩) (State.heldByLock_of_unlocked fun hw e he => (hfree hw e he).1) hpermits
      fun hw e he => (hfree hw e he).2
    constructor <;> intro hserves <;> rw [exec_memoryRequest, hplain, State.toGroup, hserves]
    · rfl
    · cases write <;> rfl
  · intro s port inst slice band addr data surface n off m sf hat hfree hm hpermits ha hb
    have hunlocked : ∀ e, s.surfAt (addr % 2 ^ 36) = some e → e.2.1.locked = false := fun e he => by
      obtain rfl := Option.some.inj (hat.symm.trans he)
      exact hfree
    rw [exec_memoryRequest, State.memRequest_of_mirrored (r := ⟨port, inst, slice, band, true, addr % 2 ^ 36, data, surface⟩) (State.heldByLock_of_unlocked fun _ => hunlocked) rfl hat hm hpermits ha hb]

end Sys2Proof.Machine
end

section
/-! # Surface commands

One lemma per branch of a surface command's meaning (R185 to R200). -/
namespace Sys2Proof.Machine

/-! ## Registration and mirrors -/

/-- A surface as it is registered: no reference, grant or palette, and its mirror where it has one (R186). -/
def Shape.registered (sh : Shape) (owner home first : Nat) (mirror : Option Nat) : Surf :=
  { owner := owner, format := sh.format, width := sh.width, height := sh.height, layout := sh.layout, stride := sh.stride, home := home, first := first, size := sh.units, mirror := mirror, mirrorStale := false, homeStale := false, palette := [], grants := [], refs := [], releasing := false }

/-- The state with a newly registered surface, cleared where asked (R186). -/
def State.withSurf (s : State) (n : Nat) (sf : Surf) (clear : Bool) : State :=
  let s1 : State := { s with srf := { s.srf with surfs := Tbl.put s.srf.surfs n sf } }
  if clear then s1.clearSurf n else s1

theorem State.register_of_fits {s : State} {owner home a n : Nat} {sh : Shape} (mirror clear : Bool) (ha : s.srf.firstFit owner home sh.units = some a) (hn : Tbl.lowestFree s.srf.surfs (2 ^ 20) 0 = some n) :
    (s.register owner sh home mirror clear).2 =
      .done (s.withSurf n (sh.registered owner home a (if mirror then s.srf.firstFit owner (1 - home) sh.units else none)) clear) (Rsp.ok (s.core.here (surfUnit n)) (home * 2 ^ 19 + a) sh.units) := by
  unfold State.register
  rw [ha, hn]
  rfl

theorem cmdSurfaceMirror_run_of_off {z : State} {p : Packet} (w : Who) (ht : (z.target p).isSome = true) (h0 : pkW p 0 = 0) :
    cmdSurfaceMirror.run z w p = .done (z.updSurf (uNum (pkUnit p)) (fun x => { x with mirror := none, mirrorStale := false })) (Rsp.plain .served) := by
  obtain ⟨sf, hsf⟩ := Option.isSome_iff_exists.mp ht
  simp [cmdSurfaceMirror, surfCmd, hsf, h0]

/-- The copy of a surface to its new mirror, as a unit of work (R200). -/
def State.startMirror (s : State) (n : Nat) (sf : Surf) : State :=
  let s1 := (s.mapCore (fun k => { k with nextWork := k.nextWork + 1 })).updSurf n (fun x => { x with mirror := s.srf.firstFit sf.owner (1 - sf.home) sf.size, mirrorStale := true })
  { s1 with srf := { s1.srf with mirrorCopies := s1.srf.mirrorCopies ++ [(s.core.nextWork, n)] } }

theorem cmdSurfaceMirror_run_of_on {z : State} {p : Packet} {sf : Surf} (w : Who) (h1 : pkW p 0 ≠ 0) (ht : z.target p = some sf) (hm : sf.mirror = none) :
    cmdSurfaceMirror.run z w p = .silent (z.startMirror (uNum (pkUnit p)) sf) (.work z.core.nextWork) := by
  simp [cmdSurfaceMirror, surfCmd, ht, h1, hm, State.startMirror, State.newWork]

/-! ## Palettes and grants -/

theorem cmdSurfacePalette_run_of_read {z z1 : State} {w : Who} {p : Packet} {bs : List Byte} (h : z.hostRead w (pkW p 0) 1024 = (z1, .ok bs)) :
    cmdSurfacePalette.run z w p = .done (z1.updSurf (uNum (pkUnit p)) (fun x => { x with palette := elemsOf 4 256 bs })) (Rsp.plain .served) := by
  simp [cmdSurfacePalette, surfCmd, h]

theorem cmdSurfaceGrant_run_of_nonzero {p : Packet} (z : State) (w : Who) (h : pkF p 0 5 0 ≠ 0) :
    cmdSurfaceGrant.run z w p = .done (z.updSurf (uNum (pkUnit p)) (fun x =>
      if pkF p 0 5 0 = x.owner then x else if pkF p 0 9 8 = 0 then { x with grants := Tbl.del x.grants (pkF p 0 5 0) } else { x with grants := Tbl.put x.grants (pkF p 0 5 0) (pkF p 0 9 8) })) (Rsp.plain .served) := by
  simp only [cmdSurfaceGrant, surfCmd, h, false_or]

/-- A read of host memory that succeeds, with the state it leaves. -/
theorem State.hostRead_of_ok {z : State} {w : Who} {a n : Nat} {bs : List Byte} (h : (z.hostRead w a n).2 = .ok bs) : z.hostRead w a n = ((z.hostRead w a n).1, .ok bs) := Prod.ext rfl h

/-- Settles O27: each guard opens the branch of its command's meaning that the clause names. -/
theorem surfaceCommandsComplete : Obligations.SurfaceCommandsComplete := by
  unfold Obligations.SurfaceCommandsComplete
  refine ⟨?_, ?_, ?_, ?_, ?_, ?_, ?_, ?_⟩
  · refine cmdSurfaceRegister.serves_of _ _ _ (fun _ _ => rfl) fun z w p hg _ => ?_
    obtain ⟨a, n, ha, hn⟩ := hg
    rw [ha, hn]
    exact ⟨State.register_of_fits _ _ ha hn, rfl⟩
  · exact cmdPoolSet.serves_of _ _ _ (fun _ _ => rfl) fun _ _ _ _ _ => ⟨rfl, rfl⟩
  · exact cmdSurfaceMap.serves_of _ _ _ (fun _ _ => rfl) fun _ _ _ _ _ => ⟨rfl, rfl⟩
  · exact cmdSurfaceUnmap.serves_of _ _ _ (fun _ _ => rfl) fun _ _ _ _ _ => ⟨rfl, rfl⟩
  · exact cmdSurfaceMirror.serves_of _ _ _ (fun _ _ => rfl) fun _ w _ hg _ => ⟨cmdSurfaceMirror_run_of_off w hg.1 hg.2, rfl⟩
  · refine cmdSurfaceMirror.starts_of _ _ _ (fun _ _ => rfl) fun z w p hg _ => ?_
    obtain ⟨h1, sf, hsf, hm⟩ := hg
    rw [hsf]
    exact cmdSurfaceMirror_run_of_on w h1 hsf hm
  · refine cmdSurfacePalette.serves_of _ _ _ (fun _ _ => rfl) fun z w p hg _ => ?_
    obtain ⟨bs, hbs⟩ := hg
    simp only [hbs]
    exact ⟨cmdSurfacePalette_run_of_read (State.hostRead_of_ok hbs), rfl⟩
  · exact cmdSurfaceGrant.serves_of _ _ _ (fun _ _ => rfl) fun z w _ hg _ => ⟨cmdSurfaceGrant_run_of_nonzero z w hg, rfl⟩

end Sys2Proof.Machine
end

section
/-! # Layer commands

One lemma per branch of LAYER_COMMIT, LAYER_POST, LAYER_REMOVE and FROND_APPLY (R214 to R218). -/
namespace Sys2Proof.Machine

/-- A source that is no surface, or whose lock table entry has room, does not hold a commit back (R206). -/
theorem State.source_not_full {z : State} {d : Desc} (h : uCls d.source = 0x11 → z.lockFull (uNum d.source) = false) : ¬ (decide (uCls d.source = 0x11) && z.lockFull (uNum d.source)) = true := by
  rw [Bool.and_eq_true, decide_eq_true_eq]
  exact fun ⟨hcls, hfull⟩ => Bool.false_ne_true ((h hcls).symm.trans hfull)

theorem cmdLayerCommit_run_of_slot {z : State} {w : Who} {p : Packet} {k : Nat} (hk : (pkSlot p).or (z.pickSlot (uIdx (pkUnit p)) (pkDesc p).scalable) = some k)
    (hfree : uCls (pkDesc p).source = 0x11 → z.lockFull (uNum (pkDesc p).source) = false) :
    cmdLayerCommit.run z w p =
      .silent (z.commit w (uIdx (pkUnit p)) k ((z.layer (pkUnit p)).elim w.inst Layer.owner) (pkSlot p).isNone (pkDesc p)).1
        (.work (z.commit w (uIdx (pkUnit p)) k ((z.layer (pkUnit p)).elim w.inst Layer.owner) (pkSlot p).isNone (pkDesc p)).2) := by
  refine (if_neg (State.source_not_full hfree)).trans ?_
  rw [hk]

theorem cmdLayerPost_run_of_room {z : State} {w : Who} {p : Packet} {l : Layer} (hl : z.layer (pkUnit p) = some l) (hr : l.removing = none) (hposts : l.posts.length < 4) (hfree : z.lockFull (uNum (pkW p 0)) = false) :
    cmdLayerPost.run z w p =
      .silent (z.addPost (subKey (pkUnit p)) (pkW p 0) w.inst w.slice false none).1 (.work (z.addPost (subKey (pkUnit p)) (pkW p 0) w.inst w.slice false none).2) := by
  simp [cmdLayerPost, hl, hr, hposts, hfree]

theorem cmdLayerRemove_run_of_present {z : State} {p : Packet} {l : Layer} (w : Who) (hl : z.layer (pkUnit p) = some l) (hr : l.removing = none) :
    cmdLayerRemove.run z w p =
      .silent ((z.newWork.1.updLayer (subKey (pkUnit p)) (fun l => { l with removing := some (z.core.nextWork, false) })).abortPosts (subKey (pkUnit p))) (.work z.core.nextWork) := by
  simp only [cmdLayerRemove, hl, hr]
  rfl

theorem cmdFrondApply_run_of_none {z : State} {w : Who} {p : Packet} (h : (z.frond (uIdx (pkUnit p))).elim [] (fun fr => fr.stagedBy w) = []) : cmdFrondApply.run z w p = .done z (Rsp.plain .served) :=
  if_pos (by rw [h]; rfl)

/-- The commit that stands for a FROND_APPLY in its frond's queue (R216). -/
def applyMark (w : Who) (n : Nat) : Commit := { layer := 0, desc := { w0 := 0, w1 := 0, w2 := 0, w3 := 0, w4 := 0 }, work := n, inst := w.inst, slice := w.slice, applied := true, creates := false }

theorem cmdFrondApply_run_of_staged {z : State} {w : Who} {p : Packet} (h : (z.frond (uIdx (pkUnit p))).elim [] (fun fr => fr.stagedBy w) ≠ [])
    (hok : z.stagedRefusal w ((z.frond (uIdx (pkUnit p))).elim [] (fun fr => fr.stagedBy w)) = none) :
    cmdFrondApply.run z w p =
      .silent (z.newWork.1.updFrond (uIdx (pkUnit p)) (fun fr =>
        { fr with staged := fr.staged.filter (fun c => !(c.inst == w.inst && c.slice == w.slice)), commits := fr.commits ++ (z.frond (uIdx (pkUnit p))).elim [] (fun fr => fr.stagedBy w) ++ [applyMark w z.core.nextWork] }))
        (.work z.core.nextWork) := by
  refine (if_neg (by rwa [List.isEmpty_iff])).trans ?_
  rw [hok]
  rfl

/-- Settles O29: each guard opens the branch of its command's meaning that the clause names. -/
theorem layerCommandsComplete : Obligations.LayerCommandsComplete := by
  unfold Obligations.LayerCommandsComplete
  refine ⟨?_, ?_, ?_, ?_, ?_, ?_⟩
  · refine cmdLayerCommit.starts_of _ _ _ (fun _ _ => rfl) fun z w p hg _ => ?_
    obtain ⟨k, hk, hfree⟩ := hg
    rw [cmdLayerCommit_run_of_slot (k := k) (by rw [hk]; rfl) hfree, hk]
    rfl
  · refine cmdLayerCommit.starts_of _ _ _ (fun _ _ => rfl) fun z w p hg _ => ?_
    obtain ⟨hnone, ⟨k, hk⟩, hfree⟩ := hg
    rw [cmdLayerCommit_run_of_slot (k := k) (by rw [hnone, hk]; rfl) hfree, hnone, hk]
    rfl
  · refine cmdLayerPost.starts_of _ _ _ (fun _ _ => rfl) fun z w p hg _ => ?_
    obtain ⟨⟨l, hl, hr, hposts⟩, hfree⟩ := hg
    rw [cmdLayerPost_run_of_room hl hr hposts hfree]
    rfl
  · refine cmdLayerRemove.starts_of _ _ _ (fun _ _ => rfl) fun z w p hg _ => ?_
    obtain ⟨l, hl, hr⟩ := hg
    rw [cmdLayerRemove_run_of_present w hl hr]
    rfl
  · refine cmdFrondApply.serves_of _ _ _ (fun _ _ => rfl) fun z w p hg _ => ?_
    obtain ⟨fr, hfr, hnone⟩ := hg
    exact ⟨cmdFrondApply_run_of_none (by rw [hfr]; exact hnone), rfl⟩
  · refine cmdFrondApply.starts_of _ _ _ (fun _ _ => rfl) fun z w p hg _ => ?_
    obtain ⟨fr, hfr, hsome, hok⟩ := hg
    have hcs : (z.frond (uIdx (pkUnit p))).elim [] (fun fr => fr.stagedBy w) = fr.stagedBy w := by rw [hfr]; rfl
    rw [cmdFrondApply_run_of_staged (by rwa [hcs]) (by rwa [hcs])]
    rfl

end Sys2Proof.Machine
end

section
/-! # Frond settings, banks and group layers

The branches of SCALER_COEF_LOAD, TONE_LOAD, GROUP_LAYER_SET, GROUP_LAYER_COMPOSE and GROUP_LAYER_PASS_DONE that the clauses name (R242 to R258). -/
namespace Sys2Proof.Machine

/-! ## Pending banks -/

/-- A load into an empty pending bank replaces no earlier one (R243). -/
theorem State.load_of_empty (s : State) (put : Option (List Byte × Nat × Nat) → State → State) (bs : List Byte) :
    s.load none put bs = .silent (put (some (bs, s.core.nextWork, s.core.now)) s.newWork.1) (.work s.core.nextWork) := rfl

theorem cmdScalerCoefLoad_run_of_default {z : State} (w : Who) {p : Packet} (h : bitOf (pkW p 1) 0 = true) (hempty : (Tbl.find z.frd.layers (subKey (pkUnit p))).bind (fun l => l.coef.pending) = none) :
    cmdScalerCoefLoad.run z w p =
      .silent (z.newWork.1.updLayer (subKey (pkUnit p)) (fun l => { l with coef := { l.coef with pending := some (defaultCoef, z.core.nextWork, z.core.now) } })) (.work z.core.nextWork) := by
  simp only [cmdScalerCoefLoad, h, if_true, hempty, State.load_of_empty]

theorem State.toneBank_hostRead (z : State) (w : Who) (addr n u : Nat) : (z.hostRead w addr n).1.toneBank u = z.toneBank u := State.part_hostRead (fun t => t.toneBank u) z w addr n fun _ => rfl

theorem cmdToneLoad_run_of_read {z z1 : State} {w : Who} {p : Packet} {bs : List Byte} (hleased : z.leased (pkUnit p) = false) (hread : z.hostRead w (pkW p 0) (toneLen p) = (z1, .ok bs))
    (hempty : (z.toneBank (pkUnit p)).bind Bank.pending = none) :
    cmdToneLoad.run z w p = .silent (z1.newWork.1.putTone (pkUnit p) (some (bs, z1.core.nextWork, z1.core.now))) (.work z1.core.nextWork) := by
  simp only [cmdToneLoad, hleased, Bool.and_false, Bool.false_and, Bool.false_eq_true, if_false, hread, hempty, State.load_of_empty]

/-! ## Group layers -/

/-- A group layer as GROUP_LAYER_SET makes it (R254). -/
def newGlayer (w : Who) (p : Packet) : GLayer := { owner := w.inst, width := pkF p 0 15 0, height := pkF p 0 31 16, inter := glInter p, members := [], done := 0, doneSize := 0 }

theorem cmdGroupLayerSet_run_of_new {z : State} (w : Who) {p : Packet} (h : Tbl.find z.frd.glayers (uIdx (pkUnit p)) = none) :
    cmdGroupLayerSet.run z w p = .done { z with frd := { z.frd with glayers := Tbl.put z.frd.glayers (uIdx (pkUnit p)) (newGlayer w p) } } (Rsp.plain .served) := by
  simp only [cmdGroupLayerSet, h, Option.elim_none, ite_self]
  rfl

/-- A compose pass charged and queued: its references, its work and its entry (R256, R258). -/
def State.queuePass (s : State) (w : Who) (u inter : Nat) (g : GLayer) : State :=
  let s1 := s.charge 1 g.owner (s.glBand u) g.cost
  let s2 := s1.newWork.1.passRefs g inter s1.core.nextWork
  { s2 with frd := { s2.frd with passes := s2.frd.passes ++ [{ work := s1.core.nextWork, gl := uIdx u, inter := inter, who := w, skipped := 0, nested := [], outer := 0 }] } }

theorem cmdGroupLayerCompose_run_of_fits {z : State} {w : Who} {p : Packet} {g : GLayer} {inter : Nat} (hone : bitOf (pkW p 0) 0 = false) (hg : z.glayer (uKey (pkUnit p)) = some g) (hbusy : z.memberBusy g = false)
    (hinter : z.freeInter g = some inter) (hfull : z.lockFull (uNum inter) = false) (hfits : z.engineFits 1 g.owner (z.glBand (uKey (pkUnit p))) g.cost = true) :
    cmdGroupLayerCompose.run z w p =
      .silent (z.queuePass w (uKey (pkUnit p)) inter g) (.work (z.charge 1 g.owner (z.glBand (uKey (pkUnit p))) g.cost).core.nextWork) := by
  simp only [cmdGroupLayerCompose, hg, hbusy, hinter, hfull, hfits, hone, Bool.false_eq_true, if_false, Bool.not_true]
  rfl

/-- The end of a pass without nested passes whose members can all be read (R256). -/
theorem exec_groupLayerPassDone_of_outer {s : State} {work : Nat} {ps : Pass} {g : GLayer} (hps : s.frd.passes.find? (fun p => p.work == work) = some ps) (hnested : ps.nested = [])
    (hg : Tbl.find s.frd.glayers ps.gl = some g)
    (hread : g.members.findSome? (fun e => (State.surf { s with frd := { s.frd with passes := s.frd.passes.filter (fun q => q.work != work) } } (memberUnit e.2)).bind
      (fun sf => if (State.readBase { s with frd := { s.frd with passes := s.frd.passes.filter (fun q => q.work != work) } } sf).isNone then some sf.home else none)) = none) :
    exec (.groupLayerPassDone work) s = .next (s.kept
      ((((State.passErrors { s with frd := { s.frd with passes := s.frd.passes.filter (fun q => q.work != work) } } g).storePass ps.gl ps.inter ps.who).dropWork work).finishLate work (s.glBand (uid 0xF2 ps.gl 0)) (Rsp.ok 0 ps.skipped 0))) := by
  change execGroupLayerPassDone work s = _
  simp only [execGroupLayerPassDone, hps, hnested, hg, Option.bind_some, hread, State.ends_eq]

/-- Settles O30: each guard opens the branch of its command's meaning that the clause names. -/
theorem frondCommandsComplete : Obligations.FrondCommandsComplete := by
  unfold Obligations.FrondCommandsComplete
  refine ⟨⟨?_, ?_, ?_, ?_, ?_⟩, ?_, ?_⟩
  · exact cmdFrondSet.serves_of _ _ _ (fun _ _ => rfl) fun _ _ _ _ _ => ⟨rfl, rfl⟩
  · exact cmdScalerCoefLoad.starts_of _ _ _ (fun _ _ => rfl) fun _ w _ hg _ => cmdScalerCoefLoad_run_of_default w hg.1 hg.2
  · refine cmdToneLoad.starts_of _ _ _ (fun _ _ => rfl) fun z w p hg _ => ?_
    obtain ⟨hleased, ⟨bs, hbs⟩, hempty⟩ := hg
    rw [State.toneBank_hostRead] at hempty
    simp only [hbs]
    exact cmdToneLoad_run_of_read hleased (State.hostRead_of_ok hbs) hempty
  · exact cmdGroupLayerSet.serves_of _ _ _ (fun _ _ => rfl) fun _ w _ hg _ => ⟨cmdGroupLayerSet_run_of_new w hg, rfl⟩
  · exact cmdGroupLayerMember.serves_of _ _ _ (fun _ _ => rfl) fun _ _ _ _ _ => ⟨rfl, rfl⟩
  · refine cmdGroupLayerCompose.starts_of _ _ _ (fun _ _ => rfl) fun z w p hg _ => ?_
    obtain ⟨hone, g, inter, hg, hbusy, hinter, hfull, hfits⟩ := hg
    simp only [hg, hinter]
    exact cmdGroupLayerCompose_run_of_fits hone hg hbusy hinter hfull hfits
  · exact fun _ _ _ _ hps hnested hg hread => exec_groupLayerPassDone_of_outer hps hnested hg hread

end Sys2Proof.Machine
end

section
/-! # Output commands, scan-out and link events

One lemma per branch of an output command's meaning (R264 to R291) and of the scan-out and link events (R262 to R281). -/
namespace Sys2Proof.Machine

/-! ## Output commands -/

theorem cmdOutputPrepare_run_of_some {z : State} {p : Packet} {o : Outp} (w : Who) (h : z.out (pkOut p) = some o) :
    cmdOutputPrepare.run z w p =
      .done (z.updOut (pkOut p) (fun x => { x with token := some (x.tokens + 1, pkMode p), tokens := x.tokens + 1 }))
        (Rsp.ok ((o.tokens + 1) % 2 ^ 32) (ceilDiv ((o.withMode (pkMode p)).pixelHz * (o.withMode (pkMode p)).bits16) (16 * 10 ^ 6)) (o.rateFor (pkMode p) * 16 + modeLanes (pkMode p))) := by
  simp only [cmdOutputPrepare, h]

/-- An output in the first stage of a modeset to the words of its token (R280). -/
def Outp.committing (y : Outp) (ws : List Nat) (work now : Nat) : Outp :=
  { y with token := none, modeset := some { words := ws, work := work, stage := 0, began := now }, link := if y.link = 2 then 4 else y.link }

theorem cmdOutputCommit_run_of_running {z : State} {p : Packet} {x : Outp} {t : Nat} {ws : List Nat} (w : Who) (hleased : z.leased (pkUnit p) = false) (hx : z.out (pkOut p) = some x) (hidle : x.modeset = none)
    (htoken : x.token = some (t, ws)) (hmode : x.mode ≠ []) :
    cmdOutputCommit.run z w p = .silent (z.newWork.1.updOut (pkOut p) (fun y => y.committing ws z.core.nextWork z.core.now)) (.work z.core.nextWork) := by
  simp only [cmdOutputCommit, hx, hleased, hidle, htoken, List.isEmpty_eq_false_iff.mpr hmode, Option.isSome_none, Bool.false_eq_true, if_false]
  rfl

theorem cmdOutputRefresh_run_of_none {z : State} {p : Packet} {x : Outp} (w : Who) (hx : z.out (pkOut p) = some x) (hnone : x.vtNew = none) :
    cmdOutputRefresh.run z w p = .silent (z.newWork.1.updOut (pkOut p) (fun x => { x with vtNew := some (pkW p 0, z.core.nextWork, false) })) (.work z.core.nextWork) := by
  simp only [cmdOutputRefresh, hx, Option.elim_some, hnone, Option.elim_none]
  rfl

/-- A writeback slot turned off: it drops the references of the targets that wait (R291). -/
theorem cmdWritebackSet_run_of_off {z : State} {p : Packet} {fr : Frond} (w : Who) (h0 : pkF p 0 39 32 = 0) (hfr : z.frond (uIdx (pkUnit p)) = some fr) :
    cmdWritebackSet.run z w p =
      .done (((z.wbDrop (uIdx (pkUnit p)) (wbSlotOf p) (((fr.wbSlot (wbSlotOf p)).pending.elim [] (fun x => x.2.1)).filter (fun u => !(fr.wbSlot (wbSlotOf p)).targets.contains u))).wbRefs (uIdx (pkUnit p)) (wbSlotOf p) []).updFrond
        (uIdx (pkUnit p)) (fun x => { x with wb := Tbl.put x.wb (wbSlotOf p) { fr.wbSlot (wbSlotOf p) with pending := some (pkW p 0, [], pkW p 2) } })) (Rsp.plain .served) := by
  simp [cmdWritebackSet, h0, hfr]

/-- Settles O31: each guard opens the branch of its command's meaning that the clause names. -/
theorem outputCommandsComplete : Obligations.OutputCommandsComplete := by
  unfold Obligations.OutputCommandsComplete
  refine ⟨?_, ?_, ?_, ?_, ?_, ?_, ?_, ?_⟩
  · refine cmdOutputPrepare.serves_of _ _ _ (fun _ _ => rfl) fun z w p hg _ => ?_
    obtain ⟨o, ho⟩ := Option.isSome_iff_exists.mp hg
    simp only [ho]
    exact ⟨cmdOutputPrepare_run_of_some w ho, rfl⟩
  · refine cmdOutputCommit.starts_of _ _ _ (fun _ _ => rfl) fun z w p hg _ => ?_
    obtain ⟨hleased, x, t, ws, hx, hidle, htoken, hmode⟩ := hg
    rw [cmdOutputCommit_run_of_running w hleased hx hidle htoken hmode, hx, Option.bind_some, htoken]
    rfl
  · exact cmdOutputCancel.serves_of _ _ _ (fun _ _ => rfl) fun _ _ _ _ _ => ⟨rfl, rfl⟩
  · refine cmdOutputRefresh.starts_of _ _ _ (fun _ _ => rfl) fun z w p hg _ => ?_
    obtain ⟨x, hx, hnone⟩ := hg
    exact cmdOutputRefresh_run_of_none w hx hnone
  · exact cmdOutputGenlock.serves_of _ _ _ (fun _ _ => rfl) fun _ _ _ _ _ => ⟨rfl, rfl⟩
  · refine cmdWritebackSet.serves_of _ _ _ (fun _ _ => rfl) fun z w p hg _ => ?_
    obtain ⟨fr, hfr⟩ := Option.isSome_iff_exists.mp hg.2
    simp only [hfr]
    exact ⟨cmdWritebackSet_run_of_off w hg.1 hfr, rfl⟩
  · exact cmdOutputStatus.answers_of _ _ _ (fun _ _ => rfl) fun _ _ _ _ _ => rfl
  · exact cmdPatrolStatus.answers_of _ _ _ (fun _ _ => rfl) fun _ _ _ _ _ => rfl

/-! ## Scan-out and the link -/

/-- In the third stage of a modeset no frame starts (Table 7.6). -/
theorem State.startFrame_of_training {s : State} {o : Nat} {x : Outp} (hx : s.out o = some x) (hstage : x.modeset.map Modeset.stage = some 2) : s.startFrame o = s := by
  unfold State.startFrame
  simp only [hx, hstage, ite_self]

/-- A line of a black output, but for the last, is all zeros (R280). -/
theorem State.lineDue_of_black {s : State} {f line : Nat} {fr : Frond} {o : Nat} {out : Outp} (missing : List Nat) (cushion : Nat) (full mis : Bool) (hfr : s.frond f = some fr) (hout : s.outOf f = some (o, out))
    (hblack : out.black = true) (hline : line + 1 < out.vActive) : s.lineDue f line missing cushion full mis = s.updOut o (fun x => { x with lineOut := List.replicate (3 * out.hActive) 0 }) := by
  have hlast : (line + 1 == out.vActive) = false := beq_false_of_ne hline.ne
  unfold State.lineDue
  simp only [hfr, hout, hblack, hlast, if_true, Bool.false_eq_true, if_false]

theorem exec_hpdLongPulse_gone {s : State} {o : Nat} {x : Outp} (hx : s.out o = some x) :
    exec (.hpdLongPulse o none) s =
      .next (s.kept ((s.updOut o (fun y => { y with hpd := false, sink := none, link := 0, rate := 0, lanes := 0, modeset := y.modeset.map (fun m => if m.stage = 2 then { m with stage := 3 } else m) })).linkEvent o)) := by
  change execHpdLongPulse o none s = _
  simp only [execHpdLongPulse, hx, State.ends_eq]

theorem exec_hpdShortPulse_of_unlocked {s : State} {o : Nat} {x : Outp} (hx : s.out o = some x) (hlink : x.link = 2) :
    exec (.hpdShortPulse o false) s = .next (s.kept ((s.updOut o (fun y => { y with link := 1 })).linkEvent o)) := by
  change execHpdShortPulse o false s = _
  simp [execHpdShortPulse, hx, hlink, State.ends_eq]

theorem exec_linkTrainingDone_of_none {s : State} {o : Nat} {x : Outp} (hx : s.out o = some x) (hlink : x.link = 1) (hmodeset : x.modeset = none) :
    exec (.linkTrainingDone o []) s = .next (s.kept ((s.updOut o (fun y => { y with link := 3, rate := 0, lanes := 0 })).linkEvent o)) := by
  have hfirst : (trainOrder (x.rateFor x.mode) (modeLanes x.mode) (x.sink.elim 6 Sink.rate)).find? (fun c => [].contains c && x.carries c.1 c.2 && decide (c.2 ≤ x.sink.elim 4 Sink.lanes)) = none :=
    List.find?_eq_none.mpr fun _ _ => by simp
  change execLinkTrainingDone o [] s = _
  simp only [execLinkTrainingDone, hx, hlink, hmodeset, hfirst, ne_eq, not_true_eq_false, if_false, State.ends_eq]

theorem exec_linkTrainingDone_of_some {s : State} {o r l : Nat} {x : Outp} {ts : List (Nat × Nat)} (hx : s.out o = some x) (hlink : x.link = 1) (hmodeset : x.modeset = none)
    (hfirst : (trainOrder (x.rateFor x.mode) (modeLanes x.mode) (x.sink.elim 6 Sink.rate)).find? (fun c => ts.contains c && x.carries c.1 c.2 && decide (c.2 ≤ x.sink.elim 4 Sink.lanes)) = some (r, l)) :
    exec (.linkTrainingDone o ts) s = .next (s.kept ((s.updOut o (fun y => { y with link := 2, rate := r, lanes := l })).linkEvent o)) := by
  change execLinkTrainingDone o ts s = _
  simp only [execLinkTrainingDone, hx, hlink, hmodeset, hfirst, ne_eq, not_true_eq_false, if_false, State.ends_eq]

/-- Settles O33: each event is an end of one function of the model, whose branch the clause's hypotheses decide. -/
theorem scanoutEventsComplete : Obligations.ScanoutEventsComplete := by
  unfold Obligations.ScanoutEventsComplete
  refine ⟨?_, ?_, ?_, ?_, ?_, ?_, ?_, ?_, ?_⟩
  · exact fun _ _ => rfl
  · exact fun _ _ _ hx _ _ hstage => State.startFrame_of_training hx hstage
  · intro s f line missing cushion full mis fr o out hfr hout hblack hline
    change s.ends _ = _
    rw [State.lineDue_of_black missing cushion full mis hfr hout hblack hline, State.ends_eq]
  · exact fun _ _ _ _ _ _ _ => rfl
  · exact fun _ _ _ => rfl
  · exact fun _ _ _ hx => exec_hpdLongPulse_gone hx
  · exact fun _ _ _ hx hlink => exec_hpdShortPulse_of_unlocked hx hlink
  · exact fun _ _ _ hx hlink hmodeset => exec_linkTrainingDone_of_none hx hlink hmodeset
  · exact fun _ _ _ _ _ _ hx hlink hmodeset hfirst => exec_linkTrainingDone_of_some hx hlink hmodeset hfirst

end Sys2Proof.Machine
end

section
/-! # Tag commands

One lemma per branch of a tag command's meaning (R316 to R319) and of LEDGER_STATUS. -/
namespace Sys2Proof.Machine

theorem cmdTagCreate_run_of_free {z : State} {w : Who} {p : Packet} {a : Nat} (hsec : pkF p 0 33 32 = 2 → z.sec.run ≠ .restarting) (ha : freeTagRun z.led.tags (pkF p 0 16 0) = some a) :
    cmdTagCreate.run z w p =
      .done { z with led := { z.led with tags := (List.range (pkF p 0 16 0)).foldl (fun m i => Tbl.put m (a + i)
          { last := 0, maxAge := pkW p 1, st := .unbound, path := pkF p 0 33 32, source := pkW p 2, remote := false, notify := bitOf (pkW p 0) 34, owner := w.inst }) z.led.tags } } (Rsp.ok (z.core.here (uidN 0x50 a)) 0 0) := by
  have hgo : (pkF p 0 33 32 == 2 && z.sec.run == .restarting) = false := by simpa using hsec
  refine (if_neg (Bool.eq_false_iff.mp hgo)).trans ?_
  rw [ha]

theorem cmdTagGroupSet_run_of_read {z z1 : State} {w : Who} {p : Packet} {bs : List Byte} (hread : z.hostRead w (pkW p 1) (4 * pkF p 0 10 0) = (z1, .ok bs)) :
    cmdTagGroupSet.run z w p = .done (z1.setTagGroup (pkUnit p) ((Tbl.find z.core.groups (uKey (pkUnit p))).elim w.inst Group.owner) (elemsOf 4 (pkF p 0 10 0) bs)) (Rsp.plain .served) := by
  simp only [cmdTagGroupSet, hread]

/-- The PF's counts are over every tag (Table 8.10). -/
theorem cmdLedgerStatus_ask_pf {z : State} {w : Who} {p : Packet} (h : w.inst = 0) :
    cmdLedgerStatus.ask z w p = (z, Rsp.ok z.led.tags.length z.ledStatus (Tbl.keep z.led.tags (fun _ t => t.st != .live)).length) := by
  simp [cmdLedgerStatus, h, Tbl.keep]

/-- Any other instance's counts are over its own tags and regions (Table 8.10). -/
theorem cmdLedgerStatus_ask_vf {z : State} {w : Who} {p : Packet} (h : w.inst ≠ 0) :
    cmdLedgerStatus.ask z w p =
      (z, Rsp.ok (Tbl.keep z.led.tags (fun _ t => t.owner == w.inst)).length (Tbl.keep z.led.regions (fun _ r => !r.secure && r.inst == w.inst)).length (Tbl.keep z.led.tags (fun _ t => t.owner == w.inst && t.st != .live)).length) := by
  have hpf : (w.inst == 0) = false := beq_false_of_ne h
  simp only [cmdLedgerStatus, if_neg h, hpf, Bool.false_or, Tbl.keep, List.filter_filter, Bool.and_comm]

/-- Settles O34: each guard opens the branch of its command's meaning that the clause names. -/
theorem tagCommandsComplete : Obligations.TagCommandsComplete := by
  unfold Obligations.TagCommandsComplete
  refine ⟨?_, ?_, ?_, ?_, ?_, ?_, ?_, ?_⟩
  · refine cmdTagCreate.serves_of _ _ _ (fun _ _ => rfl) fun z w p hg _ => ?_
    obtain ⟨a, ha⟩ := Option.isSome_iff_exists.mp hg.2
    rw [ha]
    exact ⟨cmdTagCreate_run_of_free hg.1 ha, rfl⟩
  · exact cmdTagSet.serves_of _ _ _ (fun _ _ => rfl) fun _ _ _ _ _ => ⟨rfl, rfl⟩
  · exact cmdTagSet.answers_of _ _ _ (fun _ _ => rfl) fun _ _ _ _ _ => rfl
  · exact cmdTagRetire.serves_of _ _ _ (fun _ _ => rfl) fun _ _ _ _ _ => ⟨rfl, rfl⟩
  · refine cmdTagGroupSet.serves_of _ _ _ (fun _ _ => rfl) fun z w p hg _ => ?_
    obtain ⟨bs, hbs⟩ := hg
    simp only [hbs]
    exact ⟨cmdTagGroupSet_run_of_read (State.hostRead_of_ok hbs), rfl⟩
  · exact cmdTagGroupSet.answers_of _ _ _ (fun _ _ => rfl) fun _ _ _ _ _ => rfl
  · exact cmdLedgerStatus.answers_of _ _ _ (fun _ _ => rfl) fun _ _ _ hg _ => cmdLedgerStatus_ask_pf hg
  · exact cmdLedgerStatus.answers_of _ _ _ (fun _ _ => rfl) fun _ _ _ hg _ => cmdLedgerStatus_ask_vf hg

end Sys2Proof.Machine
end

section
/-! # Refreshes, freezes and the expiry wheel

What one refresh makes of its tag (R308 to R313): it is newer than the last or not, late or not, and the tag frozen or not. -/
namespace Sys2Proof.Machine

/-! ## Changes of one tag -/

/-- A change of a listed entry says what it does to that entry's value. -/
theorem Tbl.upd_congr {α : Type} (t : Tbl α) {n : Nat} {v : α} {f g : α → α} (hfind : Tbl.find t n = some v) (hfg : f v = g v) : Tbl.upd t n f = Tbl.upd t n g := by
  induction t with
  | nil => rfl
  | cons e t ih =>
    obtain ⟨k, w⟩ := e
    by_cases hk : k = n
    · have hw : w = v := by simpa [Tbl.find, hk] using hfind
      simp [Tbl.upd, hk, hw, hfg]
    · simp only [Tbl.find, if_neg hk] at hfind
      simp only [Tbl.upd, if_neg hk, ih hfind]

theorem State.updTag_congr {s : State} {n : Nat} {t : Tag} {f g : Tag → Tag} (hfind : Tbl.find s.led.tags n = some t) (hfg : f t = g t) : s.updTag n f = s.updTag n g := by
  unfold State.updTag
  rw [hfind, Tbl.upd_congr s.led.tags hfind hfg]
  simp only [hfg]

/-! ## One refresh -/

/-- A stamp that the tag's MAX_AGE has passed (R311). -/
def State.lateFor (s : State) (t : Tag) (stamp : Nat) : Bool := atOrAfter s.ledgerNow ((stamp + 1000 * t.maxAge) % 2 ^ 48 + 1)

/-- A newer stamp that is not late makes a tag LIVE, but for a frozen one whose picture does not move (R311). -/
theorem State.applyRefresh_of_newer {s : State} {n stamp : Nat} {moving : Bool} {t : Tag} (ht : Tbl.find s.led.tags n = some t) (hst : ¬ (t.st = .frozen ∧ (!moving) = true)) (hnew : (t.st == .unbound || !atOrAfter t.last stamp) = true)
    (hlate : s.lateFor t stamp = false) : (s.applyRefresh n stamp moving).1 = s.updTag n (fun x => { x with last := stamp, st := .live }) := by
  simp only [State.lateFor] at hlate
  unfold State.applyRefresh
  simp only [ht, if_neg hst, hnew, hlate, Bool.not_true, Bool.false_and, Bool.false_eq_true, if_false, if_true]

/-- A frozen tag whose picture does not move takes a newer stamp and stays FROZEN (R307). -/
theorem State.applyRefresh_of_still {s : State} {n stamp : Nat} {t : Tag} (ht : Tbl.find s.led.tags n = some t) (hst : t.st = .frozen) (hlate : s.lateFor t stamp = false) :
    (s.applyRefresh n stamp false).1 = s.updTag n (fun x => if atOrAfter t.last stamp then x else { x with last := stamp }) := by
  have hbound : (t.st == .unbound) = false := by rw [hst]; rfl
  simp only [State.lateFor] at hlate
  unfold State.applyRefresh
  simp only [ht, hst, Bool.not_false, and_self, if_true, hlate, Bool.false_eq_true, if_false]
  refine State.updTag_congr ht ?_
  cases atOrAfter t.last stamp <;> rfl

theorem State.pathRefresh_of_match {s : State} {n path source stamp : Nat} {moving : Bool} {t : Tag} (ht : Tbl.find s.led.tags n = some t) (hpath : t.path = path) (hsource : t.source = source) (hst : t.st ≠ .retired) :
    s.pathRefresh n path source stamp moving = (s.applyRefresh n stamp moving).1 := by
  unfold State.pathRefresh
  simp only [ht]
  exact if_pos ⟨hpath, congrArg uKey hsource, hst⟩

theorem State.pathRefresh_of_other {s : State} {n path source stamp : Nat} {moving : Bool} {t : Tag} (ht : Tbl.find s.led.tags n = some t) (h : t.path ≠ path ∨ uKey t.source ≠ uKey source) :
    s.pathRefresh n path source stamp moving = { s with led := { s.led with refreshDrop := satInc s.led.refreshDrop } } := by
  unfold State.pathRefresh
  simp only [ht]
  exact if_neg fun ⟨hpath, hsource, _⟩ => h.elim (absurd hpath) (absurd hsource)

/-! ## Freezes and expiry -/

theorem exec_freezeReport_of_frozen {s : State} {n : Nat} {r : Recv} (hr : Tbl.find s.ing.recvs n = some r) (hst : r.st = 3) : exec (.freezeReport n) s = .next (s.kept (s.freezeTags n r.run)) := by
  change execFreezeReport n s = _
  simp only [execFreezeReport, hr, hst, if_true, State.ends_eq]

/-- One tag of a receiver that reports a freeze (R307). -/
def State.freezeTag (receiver count : Nat) (s : State) (n : Nat) : State :=
  if (Tbl.find s.led.tags n).elim true (fun x => x.st != .live && x.st != .stale) then s
  else (s.updTag n (fun x => { x with st := .frozen })).mapCore (fun k => k.event 0xFE33 0 (uidN 0x50 n) (uidN 0x50 n) (le 1 receiver ++ le 1 count))

theorem State.freezeTags_eq (s : State) (receiver count : Nat) : s.freezeTags receiver count = (s.tagsFrom 1 receiver).foldl (State.freezeTag receiver count) s := rfl

theorem State.freezeTag_of_live {s : State} {n : Nat} (receiver count : Nat) {t : Tag} (ht : Tbl.find s.led.tags n = some t) (hst : t.st = .live) :
    s.freezeTag receiver count n = (s.updTag n (fun x => { x with st := .frozen })).mapCore (fun k => k.event 0xFE33 0 (uidN 0x50 n) (uidN 0x50 n) (le 1 receiver ++ le 1 count)) := by
  have hlive : (Tbl.find s.led.tags n).elim true (fun x => x.st != .live && x.st != .stale) = false := by
    rw [ht, Option.elim_some, hst]
    rfl
  exact if_neg (Bool.eq_false_iff.mp hlive)

theorem State.expireTag_of_silent {s : State} {n : Nat} {t : Tag} (ht : Tbl.find s.led.tags n = some t) (h : t.notify = false) : s.expireTag n = s.updTag n (fun x => { x with st := .stale }) := by
  unfold State.expireTag
  rw [ht]
  exact if_pos (by rw [h]; rfl)

/-! ## Entries of REFRESH -/

/-- A REFRESH all of whose entries apply is SERVED with their number (R314). -/
theorem cmdRefresh_run_of_all {z : State} {w : Who} {p : Packet} (h : (z.refreshEntries w p).2.1 = pkF p 0 63 56) :
    cmdRefresh.run z w p = .done (z.refreshEntries w p).1 (Rsp.ok (pkF p 0 63 56) 0 (z.refreshEntries w p).2.2) := by
  simp only [cmdRefresh, h, Nat.sub_self, if_true]
  rfl

/-- Settles O35: the refreshed tag's path, state and times decide what a refresh makes of it. -/
theorem refreshesComplete : Obligations.RefreshesComplete := by
  unfold Obligations.RefreshesComplete
  refine ⟨?_, ?_, ?_, ?_, ?_, ?_, ?_, ?_, ?_⟩
  · exact cmdRefresh.serves_of _ _ _ (fun _ _ => rfl) fun _ _ _ hg _ => ⟨cmdRefresh_run_of_all hg, rfl⟩
  · intro s tag r stamp moving t ht hpath hsource hst hnew hlate
    change s.ends _ = _
    rw [State.pathRefresh_of_match ht hpath hsource (by rw [hst]; decide), State.applyRefresh_of_newer ht (by rw [hst]; simp) (by rw [hnew]; simp) hlate, State.ends_eq]
  · intro s tag r stamp moving t ht hother
    change s.ends _ = _
    rw [State.pathRefresh_of_other ht hother, State.ends_eq]
  · intro s tag r stamp t ht hpath hsource hst hlate
    change s.ends _ = _
    rw [State.pathRefresh_of_match ht hpath hsource (by rw [hst]; decide), State.applyRefresh_of_still ht hst hlate, State.ends_eq]
  · intro s tag region stamp t ht hpath hsource hst hlate
    change s.ends _ = _
    rw [State.pathRefresh_of_match ht hpath hsource (by rw [hst]; decide), State.applyRefresh_of_newer ht (by rw [hst]; simp) (by rw [hst]; rfl) hlate, State.ends_eq]
  · exact fun _ _ _ hr hst => exec_freezeReport_of_frozen hr hst
  · intro s n c tag t htags ht hst
    rw [State.freezeTags_eq, htags, List.foldl_cons, List.foldl_nil, State.freezeTag_of_live n c ht hst]
  · exact fun _ => rfl
  · exact fun _ _ _ ht h => State.expireTag_of_silent ht h

end Sys2Proof.Machine
end

section
/-! # Live regions and veil decisions

The branches of REGION_CREATE and REGION_BIND while the SEC runs, a region's new E_r, and the veil of one frame (R320 to R342). -/
namespace Sys2Proof.Machine

/-! ## Commands -/

/-- Nothing waits for the SEC while it is not restarting (R343). -/
theorem State.secDelay_of_not_restarting {s : State} (needs : Bool) (go : Verdict) (h : s.sec.run ≠ .restarting) : s.secDelay needs go = go :=
  if_neg fun hboth => h (beq_iff_eq.mp (Bool.and_eq_true_iff.mp hboth).2)

/-- A region as REGION_CREATE makes it, before its first E_r (R320). -/
def newRegion (w : Who) (p : Packet) (now : Nat) : LRegion :=
  { place := uKey (pkUnit p), rect := pkW p 1, size := pkF p 0 1 0, tied := bitOf (pkW p 0) 2, slots := pkSlots p, inst := w.inst, slice := w.slice, secure := w.secure, bandA := w.secure && uCls (pkUnit p) == 0x22,
    er := 0, erNow := true, erAt := now, erFrame := 0, frozenBadge := false, safetyAt := none, newPlace := none, removing := false, orphan := false, drawn := none, repeatedPx := 0, veil := noVeil }

/-- A new region enters the ledger, with its mirrors, and takes its first E_r (R320, R570). -/
def State.addRegion (s : State) (n inst : Nat) (r : LRegion) : State :=
  let s0 := s.addMirrors inst r.slots
  let s1 : State := { s0 with led := { s0.led with regions := Tbl.put s0.led.regions n r } }
  s1.updRegion n (fun x => { x with er := (s1.calcEr r).1, erNow := (s1.calcEr r).2.1, frozenBadge := (s1.calcEr r).2.2 })

theorem cmdRegionCreate_run_of_free {z : State} {w : Who} {p : Packet} {n : Nat} (hsec : z.sec.run ≠ .restarting) (hn : Tbl.lowestFree z.led.regions 65536 0 = some n) :
    cmdRegionCreate.run z w p = .done (z.addRegion n w.inst (newRegion w p z.core.now)) (Rsp.ok (z.core.here (uidN 0x51 n)) 0 0) := by
  refine (State.secDelay_of_not_restarting _ _ hsec).trans ?_
  rw [hn]
  rfl

theorem cmdRegionBind_ask_of_some {z : State} {p : Packet} {r : LRegion} (w : Who) (hr : z.region p = some r) :
    cmdRegionBind.ask z w p = (z.mapCore (fun k => k.useFree 1), Rsp.ok (b2n r.veil.veiled + r.veil.code * 2 + min r.veil.frames 0xFFFF * 0x10000) (z.shownEr r % 2 ^ 32) (r.veil.since % 2 ^ 32)) := by
  simp only [cmdRegionBind, hr]

/-! ## E_r -/

/-- An untied region takes the E_r of its bound tags when that changes (R321). -/
theorem State.sendEr_of_untied {s : State} {n : Nat} {r : LRegion} (hr : Tbl.find s.led.regions n = some r) (htied : r.tied = false) (hnew : s.calcEr r ≠ (r.er, r.erNow, r.frozenBadge)) :
    s.sendEr n = s.updRegion n (fun x => { x with er := (s.calcEr r).1, erNow := (s.calcEr r).2.1, frozenBadge := (s.calcEr r).2.2, erAt := s.core.now }) := by
  unfold State.sendEr
  rw [hr]
  simp only [htied, Bool.false_and, Bool.false_eq_true, if_false]
  exact if_neg hnew

/-! ## Veils -/

/-- A frame is veiled by a cause in force or by its E_r (R331). -/
theorem Veil.fixFrame_veiled (v : Veil) (latch frame : Nat) (held frozen : Bool) : (v.fixFrame latch frame held frozen).veiled = (v.causes.any (fun c => c.inForce latch) || held) := by
  unfold Veil.fixFrame
  cases hany : v.causes.any (fun c => c.inForce latch) with
  | false =>
    have hnone : v.causes.filter (fun c => c.inForce latch) = [] := List.filter_eq_nil_iff.mpr fun c hc => by simpa using List.any_eq_false.mp hany c hc
    rw [hnone]
    cases held <;> cases frozen <;> rfl
  | true =>
    obtain ⟨c, hc, hforce⟩ := List.any_eq_true.mp hany
    have hsome : (v.causes.filter (fun c => c.inForce latch)).isEmpty = false := List.isEmpty_eq_false_iff_exists_mem.mpr ⟨c, List.mem_filter.mpr ⟨hc, hforce⟩⟩
    dsimp only
    rw [hsome]
    cases (v.causes.filter (fun c => c.inForce latch)).any (fun c => c.kind.isFault) <;> rfl

/-- At the decision point of a region that was clear, the scan that is on decides (R329, R330). -/
theorem exec_veilDecision_of_clear {s : State} {region o : Nat} {r : LRegion} {fr : Frond} {sc : Scene} {out : Outp} {rc : Rect} (hcls : uCls region = 0x51) (hr : Tbl.find s.led.regions (uNum region) = some r)
    (hfr : s.frond (s.frondOfPlace r.place) = some fr) (hsc : fr.sceneFor r.veil.decided = some (sc, true)) (hout : s.outOf (s.frondOfPlace r.place) = some (o, out)) (hrc : sc.rectOf (uKey region) = some rc)
    (hclear : r.veil.veiled = false) :
    exec (.veilDecision region) s = .next (s.kept (
      let timed := r.erNow || atOrAfter ((out.sav + out.linesNs rc.2.1.toNat) / 1000 % 2 ^ 48) ((r.er + 50) % 2 ^ 48)
      let v := r.veil.fixFrame sc.latchDt sc.frame timed r.frozenBadge
      (s.updRegion (uNum region) (fun x => { x with veil := v })).noteVeil (uKey region) (s.frondOfPlace r.place) sc.frame (s.shownEr r) r.veil v (s.isBandA r || uCls r.place == 0x22) (s.isBandA r) r.inst)) := by
  change execVeilDecision region s = _
  unfold execVeilDecision
  rw [if_pos hcls]
  simp only [hr, hfr, Option.bind_some, hsc, hout, hrc, hclear, Bool.false_and, Bool.or_false, if_true]
  rw [State.ends_eq]

/-! ## The host link -/

/-- The PCIe link's change (R342): the event's record is next in the journal and the ledger's tags stay. -/
theorem exec_hostLink_of_change {s : State} {up : Bool} (h : s.led.hostLink ≠ up) :
    exec (.hostLink up) s = .next (s.kept (State.mapCore { s with led := { s.led with hostLink := up }, pwr := { s.pwr with pcieUp := up, pcieTraining := s.pwr.pcieTraining && !up } } fun k => k.event 0xFE32 0 0 (b2n up) (le 8 k.now))) :=
  s.ends_ite_neg h

/-- Settles O36: commands of a running SEC, the untied E_r, one frame's veil and the host link. -/
theorem liveRegionsComplete : Obligations.LiveRegionsComplete := by
  unfold Obligations.LiveRegionsComplete
  refine ⟨?_, ?_, ?_, ?_, ?_, ?_, ?_, ?_⟩
  · refine cmdRegionCreate.serves_of _ _ _ (fun _ _ => rfl) fun z w p hg _ => ?_
    obtain ⟨n, hn⟩ := Option.isSome_iff_exists.mp hg.2
    rw [hn]
    exact ⟨cmdRegionCreate_run_of_free hg.1 hn, rfl⟩
  · exact cmdRegionBind.serves_of _ _ _ (fun _ _ => rfl) fun _ _ _ hg _ => ⟨State.secDelay_of_not_restarting _ _ hg, rfl⟩
  · refine cmdRegionBind.answers_of _ _ _ (fun _ _ => rfl) fun z w p hg _ => ?_
    obtain ⟨r, hr⟩ := hg
    rw [cmdRegionBind_ask_of_some w hr, hr]
    rfl
  · exact cmdRegionRemove.serves_of _ _ _ (fun _ _ => rfl) fun _ _ _ _ _ => ⟨rfl, rfl⟩
  · intro s n r hr htied hnew
    change s.ends _ = _
    rw [State.sendEr_of_untied hr htied hnew, State.ends_eq]
  · intro s region f o r fr sc out rc hcls hr hplace hfr hsc hout hrc hclear
    subst hplace
    exact exec_veilDecision_of_clear hcls hr hfr hsc hout hrc hclear
  · exact Veil.fixFrame_veiled
  · exact fun s up h => ⟨_, exec_hostLink_of_change h, rfl, rfl, rfl⟩

end Sys2Proof.Machine
end

section
/-! # Register writes, 64-bit reads and the debug port

Where an offset leads (R620), then what the one register there does (R621 to R629). -/
namespace Sys2Proof.Machine

/-! ## Where an access goes -/

/-- The element of an array at its own offset (R622). -/
theorem arr_of_mul {base stride n k : Nat} (hs : 0 < stride) (hk : k < n) : arr (base + stride * k) base stride n = some k := by
  unfold arr
  rw [Nat.add_sub_cancel_left, Nat.mul_mod_right, Nat.mul_div_cancel_left k hs]
  exact if_pos ⟨Nat.le_add_right .., rfl, hk⟩

theorem arr_of_lt {o base stride n : Nat} (h : o < base) : arr o base stride n = none := if_neg fun hin => absurd hin.1 (not_le.mpr h)

theorem placeOf_pf {off : Nat} (h : off < 0x800000) : placeOf .pf off = .canvas off := if_pos h

/-- No write of 4 bytes or more acts on a byte area of the PF (R621). -/
theorem State.writeArea_pf (s : State) {off size : Nat} (data : Nat) (h : 4 ≤ size) : s.writeArea .pf off size data = none := by
  unfold State.writeArea placeOf
  by_cases hc : off < 0x800000
  · simp only [if_pos hc]
  · by_cases hw : off < 0x1000000
    · simp only [if_neg hc, if_pos hw]
      exact if_neg fun hin => absurd hin.2.2 (not_lt.mpr h)
    · simp only [if_neg hc, if_neg hw]

/-- A write of the PF to a Canvas register that it may write, and that is no region entry, reaches it (Table 20.3). -/
theorem State.write32_pf_canvas {s : State} {off : Nat} (v : Nat) (hoff : off < 0x800000) (hpf : pfWrites off = true) (hrgn : rgnEntry off = none) : s.write32 .pf off v = s.canvasWrite .pf off v := by
  unfold State.write32
  simp only [placeOf_pf hoff, State.canvasStore, State.regWrite, hpf, hrgn, Bool.false_eq_true, if_false, if_true]

/-! ## Writes -/

/-- An aligned write of 4 bytes outside the byte areas (R621). -/
theorem exec_registerWrite_of_four {s : State} {req : Requester} {off v : Nat} (harea : s.writeArea req off 4 v = none) (halign : off % 4 = 0) (hv : v < 2 ^ 32) :
    exec (.registerWrite req off 4 v) s = .next (s.kept (s.write32 req off v)) := by
  change execRegisterWrite req off 4 v s = _
  unfold execRegisterWrite
  rw [harea]
  simp only [halign, ne_eq, not_true_eq_false, if_false, if_true, Nat.mod_eq_of_lt hv, State.ends_eq]

/-- A write of 8 bytes is two of 4, the lower first (R621). -/
theorem exec_registerWrite_of_eight {s : State} {req : Requester} {off lo hi : Nat} (harea : s.writeArea req off 8 (hi * 2 ^ 32 + lo) = none) (halign : off % 4 = 0) (hlo : lo < 2 ^ 32) (hhi : hi < 2 ^ 32) :
    exec (.registerWrite req off 8 (hi * 2 ^ 32 + lo)) s = .next (s.kept ((s.write32 req off lo).write32 req (off + 4) hi)) := by
  have hlow : (hi * 2 ^ 32 + lo) % 2 ^ 32 = lo := by rw [Nat.mul_add_mod_self_right, Nat.mod_eq_of_lt hlo]
  have hhigh : (hi * 2 ^ 32 + lo) / 2 ^ 32 % 2 ^ 32 = hi := by
    rw [Nat.mul_comm, Nat.mul_add_div (by decide), Nat.div_eq_of_lt hlo, Nat.add_zero, Nat.mod_eq_of_lt hhi]
  change execRegisterWrite req off 8 _ s = _
  unfold execRegisterWrite
  rw [harea, hlow, hhigh]
  exact s.ends_ite_neg (not_not_intro halign)

theorem exec_registerWrite_of_misaligned {s : State} {req : Requester} {off size v : Nat} (harea : s.writeArea req off size v = none) (h : off % 4 ≠ 0) : exec (.registerWrite req off size v) s = .next (s.kept s) := by
  change execRegisterWrite req off size v s = _
  unfold execRegisterWrite
  rw [harea]
  exact s.ends_ite_pos h

/-- The SEC's write of an unlocked entry of the veil's palette (R340). -/
theorem State.write32_sec_palette {s : State} {n : Nat} (v : Nat) (hn : n < 16) (hopen : s.led.veilLock = false) :
    s.write32 .sec (0x400 + 4 * n) v = { s with led := { s.led with palRgb := Tbl.put s.led.palRgb n (v % 2 ^ 30) } } := by
  have hplace : placeOf .sec (0x400 + 4 * n) = .warden (0x400 + 4 * n) := if_pos (by omega)
  have hmod : (0x400 + 4 * n) % 0x10000 = 0x400 + 4 * n := Nat.mod_eq_of_lt (by omega)
  have hdiv : (0x400 + 4 * n) / 0x10000 = 0 := Nat.div_eq_of_lt (by omega)
  have hlock : ¬ 0x400 + 4 * n = 8 := by omega
  have hosu : (osuReg (0x400 + 4 * n) && (Requester.sec == .pf || Requester.sec == .dispatch)) = false := by rw [Bool.and_eq_false_iff]; exact Or.inr rfl
  unfold State.write32
  simp only [hplace, State.wardenStore, hosu, Bool.false_eq_true, if_false, State.regWrite_sec, State.wardenWrite, hmod, hdiv, if_neg hlock, State.veilWrite, hopen, arr_of_mul (show 0 < 4 by decide) hn]

/-- A device's bandwidth weight (Table 20.5). -/
theorem State.write32_pf_devWeight (s : State) {k : Nat} (v : Nat) (hk : k < 7) : s.write32 .pf (0x7F100 + 4 * k) v = { s with mem := { s.mem with devWeight := Tbl.put s.mem.devWeight k v } } := by
  have hmod : (0x7F100 + 4 * k) % 0x10000 = 0xF100 + 4 * k := by omega
  have hdiv : (0x7F100 + 4 * k) / 0x10000 = 7 := by omega
  have harr : arr (0xF100 + 4 * k) 0xF100 4 7 = some k := arr_of_mul (by decide) hk
  have hpf : pfWrites (0x7F100 + 4 * k) = true := by
    unfold pfWrites
    simp only [hmod, hdiv, harr, Option.isSome_some, Bool.or_true]
  have hrgn : rgnEntry (0x7F100 + 4 * k) = none := by
    unfold rgnEntry
    rw [hdiv]
    rfl
  have hother : ¬ 0xF100 + 4 * k = 0xF000 := by omega
  rw [State.write32_pf_canvas v (by omega) hpf hrgn]
  unfold State.canvasWrite
  simp only [hmod, hdiv, if_neg hother, harr]

/-! ## Reads and the debug port -/

/-- The low word of a 64-bit Canvas register is read and its upper word latched (R621). -/
theorem State.read32_pf_of_64 {s : State} {off v : Nat} (hoff : off < 0x800000) (hchk : off / 0x10000 ≠ 12) (hopen : s.canvasSecure off = false) (h64 : s.canvas64 off = some v) :
    s.read32 .pf off = ({ s with reg := { s.reg with latch := Tbl.put s.reg.latch (off + 4) (v / 2 ^ 32 % 2 ^ 32) } }, v % 2 ^ 32) := by
  have hlink : overLink .pf = false := rfl
  unfold State.read32
  simp only [placeOf_pf hoff, hlink, hopen, hchk, h64, Bool.false_and, Bool.false_eq_true, false_and, if_false]

/-- The enables of a debug access to the Canvas (R629). -/
theorem debugNeeds_canvas {off : Nat} (write : Bool) (hlo : 0x10000000 ≤ off) (hhi : off < 0x10800000) : debugNeeds write off = some (if write then 1 else 0) := by
  unfold debugNeeds
  rw [if_neg (by omega), if_neg (by omega)]

theorem exec_debugAccess_read_of_closed {s : State} {off : Nat} (data : Nat) (hlo : 0x10000000 ≤ off) (hhi : off < 0x10800000) (hclosed : bitOf s.sec.dbgEnables 0 = false) :
    exec (.debugAccess false off data) s = .next (s.kept { s with sec := { s.sec with dbgAccessFail := min 0xFFFF (s.sec.dbgAccessFail + 1) }, core := { s.core with rdData := le 4 0 } }) := by
  change execDebugAccess false off data s = _
  unfold execDebugAccess
  rw [debugNeeds_canvas false hlo hhi]
  exact s.ends_ite_pos (by rw [if_neg Bool.false_ne_true, hclosed]; rfl)

theorem exec_debugAccess_write_of_open {s : State} {off : Nat} (data : Nat) (hlo : 0x10000000 ≤ off) (hhi : off < 0x10800000) (hopen : bitOf s.sec.dbgEnables 1 = true) :
    exec (.debugAccess true off data) s = .next (s.kept (s.write32 .dispatch (off - 0x10000000) (data % 2 ^ 32))) := by
  have hmod : off % 0x10000000 = off - 0x10000000 := by omega
  have has : debugAs off = .dispatch := if_pos (by omega)
  change execDebugAccess true off data s = _
  unfold execDebugAccess
  rw [debugNeeds_canvas true hlo hhi]
  refine (s.ends_ite_neg (by rw [if_pos rfl, hopen]; exact Bool.false_ne_true)).trans ?_
  rw [if_neg (by omega), if_pos rfl, has, hmod]

/-- Settles O37: the offset decides the register, and the register what the access does. -/
theorem registersComplete : Obligations.RegistersComplete := by
  unfold Obligations.RegistersComplete
  refine ⟨?_, ?_, ?_, ?_, ?_, ?_, ?_, ?_, ?_⟩
  · intro s n v hn hv hopen
    have harea : s.writeArea .sec (0x400 + 4 * n) 4 v = none := by
      have hplace : placeOf .sec (0x400 + 4 * n) = .warden (0x400 + 4 * n) := if_pos (by omega)
      unfold State.writeArea
      rw [hplace]
      exact if_neg (by omega)
    rw [exec_registerWrite_of_four harea (by omega) hv, State.write32_sec_palette v hn hopen]
  · intro s v hv
    constructor
    · exact exec_registerWrite_of_four (State.writeArea_pf s v le_rfl) rfl hv
    · exact exec_registerWrite_of_four (State.writeArea_pf s v le_rfl) rfl hv
  · intro s k v hk hv
    rw [exec_registerWrite_of_four (State.writeArea_pf s v le_rfl) (by omega) hv, State.write32_pf_devWeight s v hk]
  · exact fun s _ _ _ halign _ hlo hhi => exec_registerWrite_of_eight (State.writeArea_pf s _ (by decide)) halign hlo hhi
  · exact fun s _ v h => exec_registerWrite_of_misaligned (State.writeArea_pf s v le_rfl) h
  · intro s off v hoff hchk hopen h64
    change s.ends (((s.read32 .pf off).1).mapCore fun c => { c with rdData := le 4 (s.read32 .pf off).2 }) = _
    rw [State.read32_pf_of_64 hoff hchk hopen h64, State.ends_eq]
    rfl
  · exact fun _ _ data hlo hhi hclosed => exec_debugAccess_read_of_closed data hlo hhi hclosed
  · exact fun _ _ data hlo hhi hopen => exec_debugAccess_write_of_open data hlo hhi hopen
  · exact fun _ _ => rfl

end Sys2Proof.Machine
end

section
/-! # Check engines

The branches of CHK_SCAN and CHK_CANCEL on an engine that is idle, periodic or running, and the ends of runs (R362 to R365). -/
namespace Sys2Proof.Machine

/-! ## Commands -/

/-- The surface a scan reads, where it reads one (R362). -/
def State.scanned (s : State) (p : Packet) : Option Surf := if scanSpace p = 0 then s.surf (pkF p 1 31 0) else none

theorem State.scanned_isSome (s : State) (p : Packet) : (s.scanned p).isSome = true ↔ scanSpace p = 0 ∧ (s.surf (pkF p 1 31 0)).isSome = true := by
  unfold State.scanned
  by_cases h : scanSpace p = 0 <;> simp [h]

/-- A scan on an idle engine whose surface, if it reads one, is not written and has room in the lock table (R362). -/
theorem cmdChkScan_run_of_idle {z : State} (w : Who) {p : Packet} (hmode : (z.engine (uIdx (pkUnit p))).mode = 0)
    (hsf : ∀ sf, z.scanned p = some sf → sf.written = false ∧ z.lockFull (uNum (pkF p 1 31 0)) = false) :
    cmdChkScan.run z w p =
      .silent ((if (z.scanned p).isSome then z.newWork.1.takeRef (uNum (pkF p 1 31 0)) false (.work z.core.nextWork) else z.newWork.1).startScan (uIdx (pkUnit p)) { work := z.core.nextWork, who := w, pk := p }) (.work z.core.nextWork) := by
  have hwritten : (z.scanned p).elim false Surf.written = false := by
    cases h : z.scanned p with
    | none => rfl
    | some sf => exact (hsf sf h).1
  have hfull : ((z.scanned p).isSome && z.lockFull (uNum (pkF p 1 31 0))) = false := by
    cases h : z.scanned p with
    | none => rfl
    | some sf => exact (hsf sf h).2
  refine (if_neg (Bool.eq_false_iff.mp hwritten)).trans ((if_neg (Bool.eq_false_iff.mp hfull)).trans ((if_pos (by rw [hmode]; rfl)).trans ?_))
  exact if_pos hmode

theorem cmdChkCancel_run_of_running {z : State} (w : Who) {p : Packet} (hmode : (z.engine (uIdx (pkUnit p))).mode = 2) (hrun : (z.engine (uIdx (pkUnit p))).running = true) :
    cmdChkCancel.run z w p = .done (z.putEngine (uIdx (pkUnit p)) { z.engine (uIdx (pkUnit p)) with cancel := true }) (Rsp.plain .served) := by
  simp only [cmdChkCancel, hmode, hrun, ne_eq, not_true_eq_false, if_false, if_true]

theorem cmdChkCancel_run_of_between {z : State} (w : Who) {p : Packet} (hmode : (z.engine (uIdx (pkUnit p))).mode = 2) (hrun : (z.engine (uIdx (pkUnit p))).running = false) :
    cmdChkCancel.run z w p = .done (z.idle (uIdx (pkUnit p))) (Rsp.plain .served) := by
  simp only [cmdChkCancel, hmode, hrun, ne_eq, not_true_eq_false, Bool.false_eq_true, if_false]

theorem cmdChkCancel_run_of_single {z : State} (w : Who) {p : Packet} (hmode : (z.engine (uIdx (pkUnit p))).mode ≠ 2) : cmdChkCancel.run z w p = .done z (Rsp.plain .served) := by
  simp only [cmdChkCancel, hmode, ne_eq, not_false_eq_true, if_true]

/-! ## Ends of runs -/

theorem exec_chkScanDone_of_bytes {s : State} {e : Nat} {c : Scan} {bs : List Byte} (hscan : (s.engine e).scan = some c) (hrun : (s.engine e).running = true) (hbytes : (s.scanBytes c).2 = .ok bs) :
    exec (.chkScanDone e) s = .next (s.kept (
      let v := (s.scanBytes c).1.scanValue e c.pk bs
      let cmp := bitOf (pkW c.pk 0) 4 && bitOf (pkW c.pk 0) 2
      let flags := (s.engine e).runFlags + b2n cmp + b2n (cmp && v.2.2) * 2
      v.1.scanEnds e c flags (Rsp.ok (v.2.1 % 2 ^ 32) (v.2.1 / 2 ^ 32) flags))) := by
  have hpair : s.scanBytes c = ((s.scanBytes c).1, .ok bs) := Prod.ext rfl hbytes
  change execChkScanDone e s = _
  unfold execChkScanDone
  simp only [hscan, hrun]
  rw [hpair, State.ends_eq]

theorem exec_chkScanDone_of_failure {s : State} {e : Nat} {c : Scan} {r : Rsp} (hscan : (s.engine e).scan = some c) (hrun : (s.engine e).running = true) (hbytes : (s.scanBytes c).2 = .error r) :
    exec (.chkScanDone e) s = .next (s.kept ((s.scanBytes c).1.scanEnds e c (s.engine e).runFlags r)) := by
  have hpair : s.scanBytes c = ((s.scanBytes c).1, .error r) := Prod.ext rfl hbytes
  change execChkScanDone e s = _
  unfold execChkScanDone
  simp only [hscan, hrun]
  rw [hpair, State.ends_eq]

/-- A CRC from its initial value over a run's bytes (R363). -/
theorem State.scanValue_of_crc {s : State} {e : Nat} {p : Packet} {bs : List Byte} (hcrc : pkF p 0 1 0 ≠ 3) (hfresh : bitOf (pkW p 0) 3 = false) :
    s.scanValue e p bs =
      (let r := crcFeed (pkF p 0 1 0) (crcInit (pkF p 0 1 0)) bs
       let v := if bitOf (pkW p 0) 4 then r ^^^ crcXor (pkF p 0 1 0) else r
       (s.putEngine e { s.engine e with run := r, bytes := bs.length }, v, pkW p 4 != v)) := by
  unfold State.scanValue
  simp only [if_neg hcrc, hfresh, Bool.false_eq_true, if_false, Nat.zero_add]

/-! ## Periodic runs -/

/-- The guard of CHK_PERIODIC_RUN: a periodic scan between two runs whose period is over (R365). -/
theorem periodic_due {s : State} {e : Nat} {c : Scan} (hmode : (s.engine e).mode = 2) (hrun : (s.engine e).running = false) (hdue : (s.engine e).began + pkF c.pk 3 47 32 * 10 ^ 6 ≤ s.core.now) :
    ((s.engine e).mode ≠ 2 || (s.engine e).running || decide (s.core.now < (s.engine e).began + pkF c.pk 3 47 32 * 10 ^ 6)) = false := by
  rw [decide_eq_false (not_not_intro hmode), hrun, decide_eq_false (not_lt.mpr hdue)]
  rfl

theorem exec_chkPeriodicRun_of_queued {s : State} {e : Nat} {c q : Scan} (hscan : (s.engine e).scan = some c) (hmode : (s.engine e).mode = 2) (hrun : (s.engine e).running = false)
    (hdue : (s.engine e).began + pkF c.pk 3 47 32 * 10 ^ 6 ≤ s.core.now) (hq : (s.engine e).queued = some q) :
    exec (.chkPeriodicRun e) s = .next (s.kept (((s.dropWork c.work).putEngine e { s.engine e with queued := none }).startScan e q)) := by
  change execChkPeriodicRun e s = _
  unfold execChkPeriodicRun
  simp only [hscan, hq]
  exact s.ends_ite_neg (Bool.eq_false_iff.mp (periodic_due hmode hrun hdue))

theorem exec_chkPeriodicRun_of_starved {s : State} {e : Nat} {c : Scan} (hscan : (s.engine e).scan = some c) (hmode : (s.engine e).mode = 2) (hrun : (s.engine e).running = false)
    (hdue : (s.engine e).began + pkF c.pk 3 47 32 * 10 ^ 6 ≤ s.core.now) (hq : (s.engine e).queued = none) :
    exec (.chkPeriodicRun e) s = .next (s.kept (s.putEngine e { s.engine e with running := true, runFlags := 16, began := s.core.now })) := by
  change execChkPeriodicRun e s = _
  unfold execChkPeriodicRun
  simp only [hscan, hq]
  exact s.ends_ite_neg (Bool.eq_false_iff.mp (periodic_due hmode hrun hdue))

/-- Settles O39: the engine's mode and run decide each branch. -/
theorem checkEnginesComplete : Obligations.CheckEnginesComplete := by
  unfold Obligations.CheckEnginesComplete
  refine ⟨?_, ?_, ?_, ?_, ?_, ?_, ?_, ?_, ?_, ?_⟩
  · refine cmdChkScan.starts_of _ _ _ (fun _ _ => rfl) fun z w p hg _ => ?_
    obtain ⟨hmode, hfree⟩ := hg
    rw [cmdChkScan_run_of_idle w hmode fun sf hsf => ?_]
    · simp only [State.scanned_isSome]
      rfl
    · by_cases hspace : scanSpace p = 0
      · rw [State.scanned, if_pos hspace] at hsf
        exact hfree hspace sf hsf
      · rw [State.scanned, if_neg hspace] at hsf
        exact absurd hsf (by simp)
  · exact cmdChkCancel.serves_of _ _ _ (fun _ _ => rfl) fun _ w _ hg _ => ⟨cmdChkCancel_run_of_running w hg.1 hg.2, rfl⟩
  · exact cmdChkCancel.serves_of _ _ _ (fun _ _ => rfl) fun _ w _ hg _ => ⟨cmdChkCancel_run_of_between w hg.1 hg.2, rfl⟩
  · exact cmdChkCancel.serves_of _ _ _ (fun _ _ => rfl) fun _ w _ hg _ => ⟨cmdChkCancel_run_of_single w hg, rfl⟩
  · exact cmdChkStatus.answers_of _ _ _ (fun _ _ => rfl) fun _ _ _ _ _ => rfl
  · exact fun _ _ _ _ hscan hrun hbytes => exec_chkScanDone_of_bytes hscan hrun hbytes
  · exact fun _ _ _ _ hscan hrun hbytes => exec_chkScanDone_of_failure hscan hrun hbytes
  · exact fun _ _ _ _ hcrc hfresh => State.scanValue_of_crc hcrc hfresh
  · exact fun _ _ _ _ hscan hmode hrun hdue hq => exec_chkPeriodicRun_of_queued hscan hmode hrun hdue hq
  · exact fun _ _ _ hscan hmode hrun hdue hq => exec_chkPeriodicRun_of_starved hscan hmode hrun hdue hq

end Sys2Proof.Machine
end

section
/-! # Raster jobs

A job by its number through the steps of its admission, and the ends of passes and jobs (R370 to R400). -/
namespace Sys2Proof.Machine

/-! ## A job by its number -/

/-- A change of one job that keeps its number is what that number finds. -/
theorem State.rjob_updJob (s : State) (n : Nat) {f : RJob → RJob} (hf : ∀ j, (f j).work = j.work) : (s.updJob n f).rjob n = (s.rjob n).map f := by
  unfold State.updJob State.rjob
  induction s.ras.jobs with
  | nil => rfl
  | cons j js ih =>
    by_cases hj : j.work = n
    · simp [hj, hf]
    · simpa [hj] using ih

/-- A job appended under a number that no other job has. -/
theorem List.find?_append_job {js : List RJob} {j : RJob} {n : Nat} (hnone : js.find? (fun k => k.work == n) = none) (hj : j.work = n) : (js ++ [j]).find? (fun k => k.work == n) = some j := by
  rw [List.find?_append, hnone, Option.none_or, List.find?_cons_of_pos (by simpa using hj)]

theorem State.bindJob_eq (s : State) (j : RJob) : ∃ b ps qs, s.bindJob j = { j with bound := b, programs := ps, palettes := qs } := by
  unfold State.bindJob
  split
  · exact ⟨_, _, _, rfl⟩
  · exact ⟨_, _, _, rfl⟩

/-! ## Admission (R372 to R374) -/

theorem State.takeRef_ras (s : State) (n : Nat) (write : Bool) (h : Holder) : (s.takeRef n write h).ras = s.ras := rfl

/-- A job that may take its references holds them. -/
theorem State.rjob_takeJob {s : State} {n : Nat} {j : RJob} (hj : s.rjob n = some j) (hfree : j.holds = false) (hcan : s.canHold j = true) : (s.takeJob n).rjob n = some { j with holds := true } := by
  have hras (l : List Nat) (t : State) (f : State → Nat → State) (hf : ∀ t u, (f t u).ras = t.ras) : (l.foldl f t).ras = t.ras := foldl_keeps State.ras hf l t
  unfold State.takeJob
  simp only [hj, hfree, hcan, Bool.not_true, Bool.or_self, Bool.false_eq_true, if_false]
  refine Eq.trans (State.rjob_updJob _ _ (by intro _; rfl)) ?_
  rw [State.rjob, hras, hras]
  · rw [← State.rjob, hj]
    rfl
  · exact fun _ _ => rfl
  · intro t u
    split <;> rfl

/-- A job that holds its references and whose cost fits is admitted. -/
theorem State.rjob_admitJob {s : State} {n : Nat} {j : RJob} (hj : s.rjob n = some j) (hholds : j.holds = true) (hnew : j.admitted = false) (hfits : s.engineFits 0 j.who.inst j.band j.cost = true) :
    (s.admitJob n).rjob n = some { j with admitted := true } := by
  unfold State.admitJob
  simp only [hj, hholds, hnew, hfits, Bool.not_false, Bool.and_self, if_true]
  refine Eq.trans (State.rjob_updJob _ _ (by intro _; rfl)) ?_
  change (s.rjob n).map _ = _
  simp only [hj, Option.map_some, hholds]

/-- The state with a new job in the queue (R371). -/
def State.withJob (s : State) (w : Who) (p : Packet) : State :=
  { s with core := { s.core with nextWork := s.core.nextWork + 1 }, ras := { s.ras with jobs := s.ras.jobs ++ [s.bindJob (jobOf s.core.nextWork w p)] } }

/-- A RASTER_JOB whose surfaces are free and whose cost fits is admitted at once. -/
theorem cmdRasterJob_run_of_fits {z : State} {w : Who} {p : Packet} (hnew : z.rjob z.core.nextWork = none) (hcan : (z.withJob w p).canHold (z.bindJob (jobOf z.core.nextWork w p)) = true)
    (hfits : ((z.withJob w p).takeJob z.core.nextWork).engineFits 0 w.inst (z.bindJob (jobOf z.core.nextWork w p)).band (z.bindJob (jobOf z.core.nextWork w p)).cost = true) :
    cmdRasterJob.run z w p = .silent (((z.withJob w p).takeJob z.core.nextWork).admitJob z.core.nextWork) (.work z.core.nextWork) := by
  obtain ⟨b, ps, qs, hbind⟩ := z.bindJob_eq (jobOf z.core.nextWork w p)
  have hj : (z.withJob w p).rjob z.core.nextWork = some (z.bindJob (jobOf z.core.nextWork w p)) := List.find?_append_job hnew (by rw [hbind]; rfl)
  have htaken := State.rjob_takeJob hj (by rw [hbind]; rfl) hcan
  have hadmitted := State.rjob_admitJob htaken rfl (by rw [hbind]; rfl) (by rw [hbind] at hfits ⊢; exact hfits)
  change (match (((z.withJob w p).takeJob z.core.nextWork).admitJob z.core.nextWork).rjob z.core.nextWork with | none => _ | some j => _) = _
  rw [hadmitted]
  rfl

/-! ## Combiner programs (R393) -/

theorem cmdRasterCombinerLoad_run_of_idle {z z1 : State} {w : Who} {p : Packet} {bs : List Byte} (hread : z.hostRead w (pkW p 1) 72 = (z1, .ok bs)) (hidle : z1.ras.jobs.any (fun j => j.who.inst == w.inst && j.bound) = false) :
    cmdRasterCombinerLoad.run z w p = .done { z1 with ras := { z1.ras with programs := Tbl.put z1.ras.programs (w.inst * 16 + pkW p 0) (progWords bs) } } (Rsp.plain .served) := by
  simp only [cmdRasterCombinerLoad, hread, hidle, Bool.false_eq_true, if_false]

theorem cmdRasterCombinerLoad_run_of_busy {z z1 : State} {w : Who} {p : Packet} {bs : List Byte} (hread : z.hostRead w (pkW p 1) 72 = (z1, .ok bs)) (hbusy : z1.ras.jobs.any (fun j => j.who.inst == w.inst && j.bound) = true) :
    cmdRasterCombinerLoad.run z w p =
      .delayed { z1.newWork.1 with ras := { z1.newWork.1.ras with loads := z1.newWork.1.ras.loads ++ [(w.inst, pkW p 0, progWords bs, z1.core.nextWork)] } } (Rsp.plain .delayedUnitBusy) (.work z1.core.nextWork) true := by
  simp only [cmdRasterCombinerLoad, hread, hbusy, if_true]
  rfl

/-! ## Starts, passes and ends -/

/-- The only job, admitted and not started, starts (R373). -/
theorem exec_rasterJobStart_of_single {s : State} {j : RJob} (hjobs : s.ras.jobs = [j]) (hholds : j.holds = true) (hadmitted : j.admitted = true) (hnew : j.started = false) (hgo : j.stopped = false) :
    exec .rasterJobStart s = .next (s.kept (s.beginJob j)) := by
  have hj : s.rjob j.work = some j := by simp [State.rjob, hjobs]
  have hadmit : s.admitJob j.work = s := by
    unfold State.admitJob
    simp only [hj, hadmitted, Bool.not_true, Bool.and_false, Bool.false_and, Bool.false_eq_true, if_false]
  change execRasterJobStart s = _
  unfold execRasterJobStart
  simp only [hjobs, List.map_cons, List.map_nil, List.foldl_cons, List.foldl_nil, hj, hholds, if_true, List.mergeSort_singleton, hadmit, hadmitted, hnew, hgo, Bool.not_false, Bool.and_self, List.find?_cons, State.ends_eq]

/-- The item up to which a pass renders its tile: the round's end, or after some items where the pass is split (R370, R400). -/
def RJob.passUpto (j : RJob) (tile : Nat) : Option Nat → Nat
  | some k => min j.roundEnd (Tbl.at j.done 0 tile + k)
  | none => j.roundEnd

/-- The pixels a pass may store: its tile, cut to the target (R370). -/
theorem State.passEnd_of_target {s : State} {core : Nat} {c : RCore} {j : RJob} {sf : Surf} (us skipped : Nat) (items : Option Nat) (hc : Tbl.find s.ras.cores core = some c) (hj : s.rjob c.work = some j) (hsf : s.surf j.target = some sf) :
    s.passEnd core us skipped items = (
      let x := c.tile % s.perRow j * 32
      let y := c.tile / s.perRow j * 32
      let upto := j.passUpto c.tile items
      let s1 := (s.passTbc j upto x y (min 32 (sf.width - x)) (min 32 (sf.height - y))).renderRect j upto x y (min 32 (sf.width - x)) (min 32 (sf.height - y))
      let s2 : State := { s1 with ras := { s1.ras with cores := Tbl.del s1.ras.cores core, hsrSkip := satAdd s1.ras.hsrSkip skipped, passSplit := if items.isSome then satInc s1.ras.passSplit else s1.ras.passSplit } }
      (((s2.updJob j.work (fun k => { k with done := Tbl.put k.done c.tile upto, used := k.used + us, splits := k.splits + b2n items.isSome })).nextRound j.work).endStopped j.work).takeTiles) := by
  unfold State.passEnd
  simp only [hc, hj, Option.bind_some, hsf]
  cases items <;> rfl

/-- A started job ends: what no pass rendered is rendered now (R374, R398). -/
theorem exec_rasterJobDone_of_started {s : State} {work : Nat} {j : RJob} (us : Nat) (hj : s.rjob work = some j) (hstarted : j.started = true) (hgo : j.stopped = false) :
    exec (.rasterJobDone work us) s = .next (s.kept (
      let sc := j.scissor
      let n := j.items.length
      let s1 := if (boxTiles (s.perRow j) sc).any (fun t => (j.todo t n).any (fun it => boxHas (s.perRow j) it.box t)) then
          (s.passTbc j n sc.1 sc.2.1 (sc.2.2.1 + 1 - sc.1) (sc.2.2.2 + 1 - sc.2.1)).renderRect j n sc.1 sc.2.1 (sc.2.2.1 + 1 - sc.1) (sc.2.2.2 + 1 - sc.2.1) else s
      let s2 : State := { s1 with ras := { s1.ras with flushCount := satAdd s1.ras.flushCount (j.rounds.length - 1 - j.round) } }
      (s2.endJob j { j with used := j.used + us }.rsp).takeTiles)) := by
  change execRasterJobDone work us s = _
  unfold execRasterJobDone
  simp only [hj, hstarted, hgo, Bool.not_true, Bool.or_self, Bool.false_eq_true, if_false, State.ends_eq]

/-- Settles O40: the job's number finds it through each step, and its flags decide each branch. -/
theorem rasterComplete : Obligations.RasterComplete := by
  unfold Obligations.RasterComplete
  refine ⟨?_, ?_, ?_, ?_, ?_, ?_, ?_, ?_, ?_⟩
  · refine cmdRasterJob.starts_of _ _ _ (fun _ _ => rfl) fun z w p hg _ => ?_
    obtain ⟨hnew, hcan, hfits⟩ := hg
    exact cmdRasterJob_run_of_fits hnew hcan hfits
  · exact cmdRasterCancel.serves_of _ _ _ (fun _ _ => rfl) fun _ _ _ _ _ => ⟨rfl, rfl⟩
  · refine cmdRasterCombinerLoad.serves_of _ _ _ (fun _ _ => rfl) fun z w p hg _ => ?_
    obtain ⟨⟨bs, hbs⟩, hidle⟩ := hg
    simp only [hbs]
    exact ⟨cmdRasterCombinerLoad_run_of_idle (State.hostRead_of_ok hbs) hidle, rfl⟩
  · refine cmdRasterCombinerLoad.delays_of _ _ _ _ _ (fun _ _ => rfl) fun z w p hg _ => ?_
    obtain ⟨⟨bs, hbs⟩, hbusy⟩ := hg
    simp only [hbs]
    exact cmdRasterCombinerLoad_run_of_busy (State.hostRead_of_ok hbs) hbusy
  · exact cmdRasterStatus.answers_of _ _ _ (fun _ _ => rfl) fun _ _ _ _ _ => rfl
  · exact fun _ _ hjobs hholds hadmitted hnew hgo => exec_rasterJobStart_of_single hjobs hholds hadmitted hnew hgo
  · intro s core us skipped c j sf hc hj hsf
    constructor
    · change s.ends _ = _
      rw [State.passEnd_of_target us skipped none hc hj hsf, State.ends_eq]
      rfl
    · intro k
      change s.ends _ = _
      rw [State.passEnd_of_target us skipped (some k) hc hj hsf, State.ends_eq]
      rfl
  · intro s work us j hj hstarted hgo hnone
    rw [exec_rasterJobDone_of_started us hj hstarted hgo]
    simp only [hnone, List.any_nil, List.any_eq_false.mpr, Bool.false_eq_true, not_false_eq_true, implies_true, if_false]
  · intro s work us j hj hstarted hgo hleft
    rw [exec_rasterJobDone_of_started us hj hstarted hgo]
    simp only [hleft, if_true]

end Sys2Proof.Machine
end

section
/-! # Ingest ports, receivers and routes

The branches of INGEST_PORT_SET, INGEST_ASSIGN, STREAM_CLOSE and STREAM_ROUTE that the clauses name (R411 to R433). -/
namespace Sys2Proof.Machine

/-! ## Receivers -/

theorem State.recv_updRecv (s : State) (r : Nat) (f : Recv → Recv) : (s.updRecv r f).recv r = (s.recv r).map f := Tbl.find_upd_same _ _ _

theorem pkRecv_of_some {z : State} {p : Packet} {x : Recv} (hx : z.recv (uIdx (pkUnit p)) = some x) : pkRecv z p = x := by
  unfold pkRecv
  rw [hx, Option.getD_some]

theorem State.stopRecv_of_closed {s : State} {r : Nat} {x : Recv} (withdraw : Bool) (hx : s.recv r = some x) (hst : x.st = 0) :
    s.stopRecv r withdraw = if withdraw then s.updRecv r (fun y => { y with owner := none }) else s := by
  unfold State.stopRecv
  simp only [hx, hst, if_true]

theorem State.stopRecv_of_idle {s : State} {r : Nat} {x : Recv} (withdraw : Bool) (hx : s.recv r = some x) (hst : x.st ≠ 0) (hframes : x.frames = []) : s.stopRecv r withdraw = s.closeRecv r withdraw := by
  unfold State.stopRecv
  simp only [hx, hst, hframes, List.isEmpty_nil, if_true, if_false]

theorem State.stopRecv_of_busy {s : State} {r : Nat} {x : Recv} (withdraw : Bool) (hx : s.recv r = some x) (hst : x.st ≠ 0) (hframes : x.frames ≠ []) :
    s.stopRecv r withdraw = s.updRecv r (fun y => { y with closing := some ((y.closing.elim s.core.now Prod.fst), withdraw || (y.closing.elim false Prod.snd)) }) := by
  unfold State.stopRecv
  simp only [hx, hst, List.isEmpty_eq_false_iff.mpr hframes, Bool.false_eq_true, if_false]

/-! ## Commands -/

/-- A change of a port with no open path leaves its link where ENABLE stays set (R411). -/
theorem cmdIngestPortSet_run_of_closed {z : State} (w : Who) {p : Packet} (hclosed : z.portOpen (uIdx (pkUnit p)) = false) (hen : bitOf (pkW p 0) 16 = true) :
    cmdIngestPortSet.run z w p =
      .done { z with ing := { z.ing with ports := Tbl.put z.ing.ports (uIdx (pkUnit p)) { w0 := pkW p 0, w1 := pkW p 1, link := (Tbl.find z.ing.ports (uIdx (pkUnit p))).elim false EthPort.link } } } (Rsp.plain .served) := by
  have hlink : (Tbl.at z.ing.ports { w0 := 0, w1 := 0, link := false } (uIdx (pkUnit p))).link = (Tbl.find z.ing.ports (uIdx (pkUnit p))).elim false EthPort.link := by
    unfold Tbl.at
    cases Tbl.find z.ing.ports (uIdx (pkUnit p)) <;> rfl
  simp only [cmdIngestPortSet, hclosed, hen, Bool.not_true, Bool.or_self, Bool.and_false, Bool.not_false, Bool.and_true, Bool.false_eq_true, if_false, hlink]

/-- A closed receiver is withdrawn from its instance at once, and closes for nobody (R414). -/
theorem State.stopRecv_withdraw_closed {z : State} {r : Nat} {x : Recv} (hx : z.recv r = some x) (hst : x.st = 0) (hclosing : x.closing = none) :
    z.stopRecv r true = z.updRecv r (fun y => { y with owner := none }) ∧ ((z.stopRecv r true).recv r).elim false (fun x => x.closing.isSome) = false := by
  have hstop : z.stopRecv r true = z.updRecv r (fun y => { y with owner := none }) := State.stopRecv_of_closed true hx hst
  refine ⟨hstop, ?_⟩
  rw [hstop, State.recv_updRecv, hx, Option.map_some, Option.elim_some, hclosing]
  rfl

theorem cmdIngestAssign_run_of_new {z : State} (w : Who) {p : Packet} {x : Recv} (hop : pkF p 0 6 6 = 0) (hx : z.recv (uIdx (pkUnit p)) = some x) (hst : x.st = 0) (hclosing : x.closing = none) (howner : x.owner ≠ some (pkF p 0 5 0)) :
    cmdIngestAssign.run z w p =
      .done ((z.updRecv (uIdx (pkUnit p)) (fun y => { y with owner := none })).updRecv (uIdx (pkUnit p)) (fun y => { y with owner := some (pkF p 0 5 0) })) (Rsp.plain .served) := by
  obtain ⟨hstop, hopen⟩ := State.stopRecv_withdraw_closed hx hst hclosing
  have hother : ((pkRecv z p).owner == some (pkF p 0 5 0) && pkF p 0 6 6 == 0) = false := by
    rw [pkRecv_of_some hx, beq_false_of_ne howner]
    rfl
  refine (if_neg (Bool.eq_false_iff.mp hother)).trans ((if_neg (Bool.eq_false_iff.mp hopen)).trans ?_)
  rw [if_neg (by rw [hop]; decide), hstop]

theorem cmdIngestAssign_run_of_withdrawal {z : State} (w : Who) {p : Packet} {x : Recv} (hop : pkF p 0 6 6 = 1) (hx : z.recv (uIdx (pkUnit p)) = some x) (hst : x.st = 0) (hclosing : x.closing = none) :
    cmdIngestAssign.run z w p = .done (z.updRecv (uIdx (pkUnit p)) (fun y => { y with owner := none })) (Rsp.plain .served) := by
  obtain ⟨hstop, hopen⟩ := State.stopRecv_withdraw_closed hx hst hclosing
  have hother : ((pkRecv z p).owner == some (pkF p 0 5 0) && pkF p 0 6 6 == 0) = false := by
    rw [hop]
    exact Bool.and_false _
  refine (if_neg (Bool.eq_false_iff.mp hother)).trans ((if_neg (Bool.eq_false_iff.mp hopen)).trans ?_)
  rw [if_pos hop, hstop]

theorem cmdStreamClose_run_of_stopped {z : State} (w : Who) {p : Packet} (h : ((z.stopRecv (uIdx (pkUnit p)) false).recv (uIdx (pkUnit p))).elim false (fun x => x.closing.isSome) = false) :
    cmdStreamClose.run z w p = .done (z.stopRecv (uIdx (pkUnit p)) false) (Rsp.plain .served) := if_neg (Bool.eq_false_iff.mp h)

theorem cmdStreamClose_run_of_closing {z : State} (w : Who) {p : Packet} (h : ((z.stopRecv (uIdx (pkUnit p)) false).recv (uIdx (pkUnit p))).elim false (fun x => x.closing.isSome) = true) :
    cmdStreamClose.run z w p = .silent (z.stopRecv (uIdx (pkUnit p)) false) (.unit (recvUnit (uIdx (pkUnit p)))) := if_pos h

/-- A route to a layer that no receiver routes to yet is active at once (R428, R431). -/
theorem cmdStreamRoute_run_of_new {z : State} {w : Who} {p : Packet} (hop : pkF p 0 32 32 = 0) (hmine : ∀ o ∈ (pkRecv z p).routes, o.layer ≠ pkF p 0 31 0) (hnone : ∀ e ∈ z.ing.recvs, ∀ o ∈ e.2.routes, o.layer ≠ pkF p 0 31 0) :
    cmdStreamRoute.run z w p = .done (z.updRecv (uIdx (pkUnit p)) (fun x => { x with routes := x.routes ++ [routeOf w p true 0] })) (Rsp.plain .served) := by
  have hfind : (pkRecv z p).routes.find? (fun o => o.layer == pkF p 0 31 0 && !o.removing) = none := List.find?_eq_none.mpr fun o ho => by simp [hmine o ho]
  have hany : z.ing.recvs.any (fun e => e.2.routes.any (fun o => o.layer == pkF p 0 31 0)) = false :=
    List.any_eq_false.mpr fun e he => by simpa using hnone e he
  simp only [cmdStreamRoute, hop, hfind, hany, Option.isSome_none, Bool.false_eq_true, and_false, if_false, show ¬ (0 : Nat) = 1 by decide]

/-- Settles O41: each guard opens the branch of its command's meaning that the clause names. -/
theorem ingestCommandsComplete : Obligations.IngestCommandsComplete := by
  unfold Obligations.IngestCommandsComplete
  refine ⟨?_, ?_, ?_, ?_, ?_, ?_, ?_, ?_, ?_, ?_, ?_⟩
  · exact cmdIngestPortSet.serves_of _ _ _ (fun _ _ => rfl) fun _ w _ hg _ => ⟨cmdIngestPortSet_run_of_closed w hg.1 hg.2, rfl⟩
  · refine cmdIngestAssign.serves_of _ _ _ (fun _ _ => rfl) fun z w p hg _ => ?_
    obtain ⟨hop, x, hx, hst, hclosing, howner⟩ := hg
    exact ⟨cmdIngestAssign_run_of_new w hop hx hst hclosing howner, rfl⟩
  · refine cmdIngestAssign.serves_of _ _ _ (fun _ _ => rfl) fun z w p hg _ => ?_
    obtain ⟨hop, x, hx, hst, hclosing⟩ := hg
    exact ⟨cmdIngestAssign_run_of_withdrawal w hop hx hst hclosing, rfl⟩
  · exact cmdStreamOpen.serves_of _ _ _ (fun _ _ => rfl) fun _ _ _ _ _ => ⟨rfl, rfl⟩
  · refine cmdStreamClose.serves_of _ _ _ (fun _ _ => rfl) fun z w p hg _ => ?_
    obtain ⟨x, hx, hst, hclosing⟩ := hg
    have hstop : z.stopRecv (uIdx (pkUnit p)) false = z := State.stopRecv_of_closed false hx hst
    have hrun := cmdStreamClose_run_of_stopped (z := z) w (p := p) (by rw [hstop, hx, Option.elim_some, hclosing]; rfl)
    rw [hstop] at hrun
    exact ⟨hrun, rfl⟩
  · refine cmdStreamClose.serves_of _ _ _ (fun _ _ => rfl) fun z w p hg _ => ?_
    obtain ⟨⟨x, hx, hst, hframes⟩, hclosing⟩ := hg
    have hstop := State.stopRecv_of_idle false hx hst hframes
    have hrun := cmdStreamClose_run_of_stopped (z := z) w (p := p) (by rw [hstop]; exact hclosing)
    rw [hstop] at hrun
    exact ⟨hrun, rfl⟩
  · refine cmdStreamClose.starts_of _ _ _ (fun _ _ => rfl) fun z w p hg _ => ?_
    obtain ⟨x, hx, hst, hframes, hclosing⟩ := hg
    have hstop := State.stopRecv_of_busy false hx hst hframes
    have hrun := cmdStreamClose_run_of_closing (z := z) w (p := p) (by rw [hstop, State.recv_updRecv, hx]; rfl)
    rw [hstop] at hrun
    exact hrun
  · exact cmdStreamDeclare.serves_of _ _ _ (fun _ _ => rfl) fun _ _ _ _ _ => ⟨rfl, rfl⟩
  · exact cmdStreamRoute.serves_of _ _ _ (fun _ _ => rfl) fun _ _ _ hg _ => ⟨cmdStreamRoute_run_of_new hg.1 hg.2.1 hg.2.2, rfl⟩
  · exact cmdStreamStatus.answers_of _ _ _ (fun _ _ => rfl) fun _ _ _ _ _ => rfl
  · exact cmdPtpSet.serves_of _ _ _ (fun _ _ => rfl) fun _ _ _ _ _ => ⟨rfl, rfl⟩

end Sys2Proof.Machine
end

section
/-! # Touch commands

A surface after changes of its own, and the branches of TOUCH_HANDOVER and TOUCH_REBASE (R437 to R457). -/
namespace Sys2Proof.Machine

/-! ## Changes of one surface -/

@[simp] theorem State.tsurf_updTsurf_same (s : State) (t : Nat) (f : TSurf → TSurf) : (s.updTsurf t f).tsurf t = f (s.tsurf t) := by
  unfold State.updTsurf State.tsurf Tbl.at
  rw [Tbl.find_put_same]
  rfl

/-- A change of a surface says what it does to that surface. -/
theorem State.updTsurf_congr {s : State} {t : Nat} {f g : TSurf → TSurf} (h : f (s.tsurf t) = g (s.tsurf t)) : s.updTsurf t f = s.updTsurf t g := by
  unfold State.updTsurf
  rw [h]

/-! ## Commands -/

/-- The surface with a hand-over that waits (R456). -/
def State.askHandover (s : State) (p : Packet) (force : Bool) : State :=
  s.newWork.1.updTsurf (uIdx (pkUnit p)) (fun x => { x with handover := x.handover ++ [(pkF p 0 5 0, pkF p 0 13 8, force, s.core.nextWork)] })

theorem cmdTouchHandover_run_of_off {z : State} (w : Who) {p : Packet} (hst : (z.tsurf (uIdx (pkUnit p))).st = 0) :
    cmdTouchHandover.run z w p = .done (((z.askHandover p (bitOf (pkW p 0) 16)).handOver (uIdx (pkUnit p)) (pkF p 0 5 0) (pkF p 0 13 8) z.core.nextWork).1) (Rsp.plain .served) := if_pos hst

theorem cmdTouchHandover_run_of_forced {z : State} (w : Who) {p : Packet} (hst : (z.tsurf (uIdx (pkUnit p))).st ≠ 0) (hforce : bitOf (pkW p 0) 16 = true) :
    cmdTouchHandover.run z w p = .silent (z.askHandover p true) (.work z.core.nextWork) := by
  refine (if_neg hst).trans ((if_pos hforce).trans ?_)
  rw [hforce]
  rfl

theorem cmdTouchHandover_run_of_waiting {z : State} (w : Who) {p : Packet} (hst : (z.tsurf (uIdx (pkUnit p))).st ≠ 0) (hforce : bitOf (pkW p 0) 16 = false) :
    cmdTouchHandover.run z w p = .delayed (z.askHandover p false) (Rsp.plain .delayedUnitBusy) (.work z.core.nextWork) true := by
  refine (if_neg hst).trans ((if_neg (Bool.eq_false_iff.mp hforce)).trans ?_)
  rw [hforce]
  rfl

/-- A REBASE with FORCE, or of an ACTIVE surface without a contact, waits for its frames (R457). -/
theorem cmdTouchRebase_run_of_starts {z : State} (w : Who) {p : Packet} (hnone : (z.tsurf (uIdx (pkUnit p))).rebase = none)
    (hgo : bitOf (pkW p 0) 0 = true ∨ ((z.tsurf (uIdx (pkUnit p))).contacts = [] ∧ (z.tsurf (uIdx (pkUnit p))).st = 2)) :
    cmdTouchRebase.run z w p =
      .silent (z.newWork.1.updTsurf (uIdx (pkUnit p)) (fun y => if bitOf (pkW p 0) 0 then { y with rebase := some (true, z.core.nextWork) } else { y.beginRebase with rebase := some (false, z.core.nextWork) })) (.work z.core.nextWork) := by
  have hready : (bitOf (pkW p 0) 0 || ((z.tsurf (uIdx (pkUnit p))).contacts.isEmpty && (z.tsurf (uIdx (pkUnit p))).st == 2)) = true := by
    rcases hgo with h | ⟨hcontacts, hst⟩
    · rw [h]; rfl
    · rw [hcontacts, hst]; exact Bool.or_true _
  refine (if_neg (by rw [pkSurf, hnone]; exact Bool.false_ne_true)).trans ((if_pos hready).trans ?_)
  congr 1
  refine State.updTsurf_congr ?_
  change (if (bitOf (pkW p 0) 0 || !((z.tsurf (uIdx (pkUnit p))).contacts.isEmpty && (z.tsurf (uIdx (pkUnit p))).st == 2)) = true then _ else _) = _
  cases hbit : bitOf (pkW p 0) 0 with
  | true => rfl
  | false =>
    rw [hbit, Bool.false_or] at hready
    rw [hready]
    rfl

/-- Settles O43: the surface's state and FORCE decide each branch. -/
theorem touchCommandsComplete : Obligations.TouchCommandsComplete := by
  unfold Obligations.TouchCommandsComplete
  refine ⟨?_, ?_, ?_, ?_, ?_, ?_, ?_, ?_⟩
  · exact cmdTouchSurfaceSet.serves_of _ _ _ (fun _ _ => rfl) fun _ _ _ _ _ => ⟨rfl, rfl⟩
  · exact cmdTouchRegionSet.serves_of _ _ _ (fun _ _ => rfl) fun _ _ _ _ _ => ⟨rfl, rfl⟩
  · exact cmdTouchHandover.starts_of _ _ _ (fun _ _ => rfl) fun _ w _ hg _ => cmdTouchHandover_run_of_forced w hg.1 hg.2
  · exact cmdTouchHandover.delays_of _ _ _ _ _ (fun _ _ => rfl) fun _ w _ hg _ => cmdTouchHandover_run_of_waiting w hg.1 hg.2
  · exact cmdTouchHandover.serves_of _ _ _ (fun _ _ => rfl) fun _ w _ hg _ => ⟨cmdTouchHandover_run_of_off w hg, rfl⟩
  · exact cmdTouchSubscribe.serves_of _ _ _ (fun _ _ => rfl) fun _ _ _ _ _ => ⟨rfl, rfl⟩
  · exact cmdTouchRebase.starts_of _ _ _ (fun _ _ => rfl) fun _ w _ hg _ => cmdTouchRebase_run_of_starts w hg.1 hg.2
  · exact cmdTouchStatus.answers_of _ _ _ (fun _ _ => rfl) fun _ _ _ _ _ => rfl

end Sys2Proof.Machine
end

section
/-! # Touch frames, states and line faults

A frame begins with every transition that is due; the lemmas here say when none is (R440 to R458). -/
namespace Sys2Proof.Machine

/-! ## One surface through several changes -/

theorem Tbl.put_put {α : Type} (t : Tbl α) (n : Nat) (v w : α) : Tbl.put (Tbl.put t n v) n w = Tbl.put t n w := by
  induction t with
  | nil => simp [Tbl.put]
  | cons e t ih =>
    obtain ⟨k, u⟩ := e
    by_cases hlt : n < k
    · simp [Tbl.put, hlt]
    · by_cases heq : n = k <;> simp [Tbl.put, hlt, heq, ih]

theorem State.updTsurf_updTsurf (s : State) (t : Nat) (f g : TSurf → TSurf) : (s.updTsurf t f).updTsurf t g = s.updTsurf t (fun x => g (f x)) := by
  change ({ s.updTsurf t f with tch := { (s.updTsurf t f).tch with surfs := Tbl.put (s.updTsurf t f).tch.surfs t (g ((s.updTsurf t f).tsurf t)) } } : State) = _
  rw [State.tsurf_updTsurf_same]
  change ({ s with tch := { s.tch with surfs := Tbl.put (Tbl.put s.tch.surfs t _) t _ } } : State) = _
  rw [Tbl.put_put]
  rfl

@[simp] theorem State.kept_tsurf (s u : State) (t : Nat) : (s.kept u).tsurf t = u.tsurf t := rfl

@[simp] theorem State.mapCore_tsurf (s : State) (f : Core → Core) (t : Nat) : (s.mapCore f).tsurf t = s.tsurf t := rfl

theorem State.touchReports_nil (s : State) (t frame : Nat) (ends : Bool) : s.touchReports t frame ends [] = s := rfl

theorem range_map_getD (l : List Nat) : (List.range l.length).map (fun i => l.getD i 0) = l :=
  List.ext_getElem (by simp) fun i h _ => by simp at h; simp [h]

/-! ## Transitions that are not due -/

theorem State.startupDone_of_not_due {s : State} {t : Nat} (h : (s.tsurf t).st ≠ 1 ∨ (s.tsurf t).taken < 8) : s.startupDone t = s := if_pos h

theorem State.rebaseDone_of_not_rebase {s : State} {t : Nat} (h : (s.tsurf t).st ≠ 3) : s.rebaseDone t = s := if_pos (Or.inl h)

/-- No line is new to be declared where none is out of line and the front end reports none (R458). -/
theorem TSurf.newFaults_of_clean {x : TSurf} (hbad : x.lineBad = []) (hreported : x.reported = []) : x.newFaults = [] := by
  unfold TSurf.newFaults
  rw [hbad, hreported, List.filter_eq_nil_iff]
  intro l _
  simp [Tbl.cnt, Tbl.at, Tbl.find]

theorem State.lineFaults_of_clean {s : State} {t : Nat} (hbad : (s.tsurf t).lineBad = []) (hreported : (s.tsurf t).reported = []) : s.lineFaults t = s := by
  unfold State.lineFaults
  rw [TSurf.newFaults_of_clean hbad hreported, List.foldl_nil]

theorem State.lineRecovers_of_none {s : State} {t : Nat} (h : (s.tsurf t).lines = []) : s.lineRecovers t = s := by
  unfold State.lineRecovers
  dsimp only
  rw [h, List.filter_nil, List.foldl_nil]

theorem State.handOvers_of_none {s : State} {t : Nat} (all : Bool) (h : (s.tsurf t).handover = []) : s.handOvers t all = (s, []) := by
  unfold State.handOvers
  dsimp only
  rw [h, List.filter_nil, List.foldl_nil]

/-- Nodes learn only in the table of learning nodes (R445, R453). -/
theorem TSurf.learnt_of_none {x : TSurf} (need : Nat) (h : x.learn = []) : x.learnt need = x := by
  have hbase : (List.range x.base.length).map (fun i => x.baseOf i) = x.base := range_map_getD x.base
  have hsuspect : Tbl.keep x.suspect (fun _ _ => true) = x.suspect := List.filter_eq_self.mpr fun _ _ => rfl
  unfold TSurf.learnt
  simp only [h, Tbl.keep, List.filter_nil, Tbl.find, Tbl.has, Option.isSome_none, Bool.not_false] at hsuspect ⊢
  rw [hbase, hsuspect, ← h]

/-! ## A scan frame -/

/-- A frame of an integrated front end on a surface with no transition due (R441). -/
theorem exec_touchScanFrame_of_settled {s : State} {t : Nat} {cs own : List Nat} (ht : t < 2) (hon : (s.tsurf t).st ≠ 0) (hfound : (s.tsurf t).st ≠ 4) (hstartup : (s.tsurf t).st ≠ 1 ∨ (s.tsurf t).taken < 8)
    (hrebase : (s.tsurf t).st ≠ 3) (hlines : (s.tsurf t).lines = []) (hbad : (s.tsurf t).lineBad = []) (hreported : (s.tsurf t).reported = []) :
    exec (.touchScanFrame t cs own) s = .next (s.kept (
      let s2 := s.updTsurf t (fun x => { (x.learnt 2).learnt 4 with self := some own, counts := none })
      let b := if (s2.tsurf t).st = 2 then s2.frameBegins t else (s2.updTsurf t TSurf.applyRegions, [])
      let s4 := if (b.1.tsurf t).st = 2 then b.1.activeFrame t cs b.2 else
        (let h := (b.1.updTsurf t (fun x => x.sumFrame cs)).handOvers t true; h.1.touchReports t (s.tsurf t).frame true (b.2 ++ h.2))
      s4.updTsurf t (fun x => { x with frame := (x.frame + 1) % 2 ^ 32, self := none }))) := by
  have hraw : decide (2 ≤ t) = false := decide_eq_false (not_le.mpr ht)
  have hguard : ¬ (8 ≤ t ∨ (s.tsurf t).st = 0 ∨ (s.tsurf t).st = 4 ∨ ((s.tsurf t).hasSelf && (some own).isNone) = true) := by
    simp only [hon, hfound, Option.isNone_some, Bool.and_false, Bool.false_eq_true, or_false]
    omega
  change execTouchScanFrame t cs own s = _
  unfold execTouchScanFrame
  simp only [hraw, Bool.false_eq_true, if_false, if_neg hguard, State.startupDone_of_not_due hstartup, State.rebaseDone_of_not_rebase hrebase, State.lineFaults_of_clean hbad hreported, State.lineRecovers_of_none hlines,
    State.updTsurf_updTsurf, State.ends_eq]

/-- A surface after a frame of STARTUP (R444). -/
def TSurf.startupFrame (x : TSurf) (cs own : List Nat) : TSurf :=
  let y := ({ (x.learnt 2).learnt 4 with self := some own, counts := none } : TSurf).applyRegions.sumFrame cs
  { y with frame := (y.frame + 1) % 2 ^ 32, self := none }

/-- A frame of STARTUP adds its counts, and the surface stays in STARTUP. -/
theorem TSurf.startupFrame_adds (x : TSurf) (cs own : List Nat) :
    (x.startupFrame cs own).st = x.st ∧ (x.startupFrame cs own).taken = x.taken + 1 ∧ (x.startupFrame cs own).frame = (x.frame + 1) % 2 ^ 32 ∧
      (x.startupFrame cs own).sums = (List.range x.nodes).map (fun i => x.sums.getD i 0 + cs.getD i 0) := ⟨rfl, rfl, rfl, rfl⟩

theorem State.kept_updTsurf_core (s : State) (t : Nat) (f : TSurf → TSurf) : (s.kept (s.updTsurf t f)).core = s.core := rfl

theorem exec_touchScanFrame_of_startup {s : State} {t : Nat} {cs own : List Nat} (ht : t < 2) (hst : (s.tsurf t).st = 1) (htaken : (s.tsurf t).taken < 8) (hlines : (s.tsurf t).lines = []) (hbad : (s.tsurf t).lineBad = [])
    (hreported : (s.tsurf t).reported = []) (hhandover : (s.tsurf t).handover = []) : exec (.touchScanFrame t cs own) s = .next (s.kept (s.updTsurf t (fun x => x.startupFrame cs own))) := by
  have hone : ¬ (1 : Nat) = 2 := by decide
  have hst2 : (((s.tsurf t).learnt 2).learnt 4).st = 1 := hst
  have hnone : ((s.updTsurf t (fun x => ({ (x.learnt 2).learnt 4 with self := some own, counts := none } : TSurf).applyRegions.sumFrame cs)).tsurf t).handover = [] := by
    rw [State.tsurf_updTsurf_same]
    exact hhandover
  rw [exec_touchScanFrame_of_settled ht (by rw [hst]; decide) (by rw [hst]; decide) (Or.inr htaken) (by rw [hst]; decide) hlines hbad hreported]
  simp only [State.tsurf_updTsurf_same, hst2, if_neg hone, State.updTsurf_updTsurf]
  rw [if_neg (by exact hone), State.handOvers_of_none true hnone]
  dsimp only
  rw [List.append_nil, State.touchReports_nil, State.updTsurf_updTsurf]
  rfl

/-- Nothing waits for the beginning of a frame (R454, R456, R457). -/
theorem State.frameBegins_of_none {s : State} {t : Nat} (hregions : (s.tsurf t).nextRegions = []) (hhandover : (s.tsurf t).handover = []) (hrebase : (s.tsurf t).rebase = none) :
    s.frameBegins t = (s.updTsurf t (fun x => x), []) := by
  have hsame : s.updTsurf t TSurf.applyRegions = s.updTsurf t (fun x => x) := by
    refine State.updTsurf_congr ?_
    unfold TSurf.applyRegions
    rw [hregions, List.foldl_nil, ← hregions]
  unfold State.frameBegins
  rw [hsame]
  simp only [State.tsurf_updTsurf_same, hhandover, List.filter_nil, List.foldl_nil, hrebase]

theorem exec_touchScanFrame_of_active {s : State} {t : Nat} {cs own : List Nat} (ht : t < 2) (hst : (s.tsurf t).st = 2) (hlines : (s.tsurf t).lines = []) (hbad : (s.tsurf t).lineBad = []) (hreported : (s.tsurf t).reported = [])
    (hlearn : (s.tsurf t).learn = []) (hregions : (s.tsurf t).nextRegions = []) (hhandover : (s.tsurf t).handover = []) (hrebase : (s.tsurf t).rebase = none) :
    exec (.touchScanFrame t cs own) s =
      .next (s.kept (((s.updTsurf t (fun y => { y with self := some own, counts := none })).activeFrame t cs []).updTsurf t (fun y => { y with frame := (y.frame + 1) % 2 ^ 32, self := none }))) := by
  have hlearnt : s.updTsurf t (fun x => { (x.learnt 2).learnt 4 with self := some own, counts := none }) = s.updTsurf t (fun y => { y with self := some own, counts := none }) :=
    State.updTsurf_congr (by rw [TSurf.learnt_of_none 2 hlearn, TSurf.learnt_of_none 4 hlearn])
  have hbegins : (s.updTsurf t (fun y => { y with self := some own, counts := none })).frameBegins t = (s.updTsurf t (fun y => { y with self := some own, counts := none }), []) := by
    rw [State.frameBegins_of_none (by rw [State.tsurf_updTsurf_same]; exact hregions) (by rw [State.tsurf_updTsurf_same]; exact hhandover) (by rw [State.tsurf_updTsurf_same]; exact hrebase), State.updTsurf_updTsurf]
  have hactive : ((s.updTsurf t (fun y => { y with self := some own, counts := none })).tsurf t).st = 2 := by
    rw [State.tsurf_updTsurf_same]
    exact hst
  rw [exec_touchScanFrame_of_settled ht (by rw [hst]; decide) (by rw [hst]; decide) (Or.inl (by rw [hst]; decide)) (by rw [hst]; decide) hlines hbad hreported]
  simp only [hlearnt, hactive, if_true, hbegins]

/-! ## Ends of STARTUP and REBASE, learning -/

/-- Without a stored baseline the mean of 8 frames is the baseline and no node is suspect (R444). -/
theorem State.startupDone_of_fresh {s : State} {t : Nat} (hst : (s.tsurf t).st = 1) (htaken : 8 ≤ (s.tsurf t).taken) (hnone : Tbl.find s.peat.baselines t = none) :
    s.startupDone t = (s.updTsurf t (fun y => { y with st := 2, base := (s.tsurf t).sums.map (· / 8), suspect := [], sums := [], taken := 0, cleanSince := s.core.now })).mapCore
      (fun c => c.event 0xFE62 0 (uid 0x60 t 0) t (le 2 0 ++ le 1 0)) := by
  have hguard : ¬ ((s.tsurf t).st ≠ 1 ∨ (s.tsurf t).taken < 8) := by
    rw [hst]
    omega
  refine (if_neg hguard).trans ?_
  simp only [hnone, Tbl.has, Tbl.find, Option.isSome_none, Bool.false_eq_true, if_false, range_map_getD]
  rfl

theorem State.rebaseDone_of_due {s : State} {t : Nat} (hst : (s.tsurf t).st = 3) (htaken : 4 ≤ (s.tsurf t).taken) :
    s.rebaseDone t = (s.tsurf t).rebase.elim (s.updTsurf t (fun y => { y with st := 2, base := (s.tsurf t).sums.map (· / 4), suspect := [], learn := [], sums := [], taken := 0, rebase := none }))
      (fun r => (s.updTsurf t (fun y => { y with st := 2, base := (s.tsurf t).sums.map (· / 4), suspect := [], learn := [], sums := [], taken := 0, rebase := none })).finishWork r.2 (Rsp.plain .served)) := by
  have hguard : ¬ ((s.tsurf t).st ≠ 3 ∨ (s.tsurf t).taken < 4) := by
    rw [hst]
    omega
  exact if_neg hguard

/-- The one learning node whose frames are complete takes their mean (R445). -/
theorem TSurf.learnt_of_single {x : TSurf} {i : Nat} {l : TLearn} (hi : i < x.base.length) (hlearn : x.learn = [(i, l)]) (hneed : l.need = 2) (hseen : 2 ≤ l.seen) :
    (x.learnt 2).base.getD i 0 = l.sum / l.seen ∧ (x.learnt 2).learn = [] ∧ Tbl.find (x.learnt 2).suspect i = none := by
  have hdone : Tbl.keep x.learn (fun _ l => l.need == 2 && decide (l.need ≤ l.seen)) = [(i, l)] := by simp [Tbl.keep, hlearn, hneed, hseen]
  have hgone (v : Tbl Int) : Tbl.find (Tbl.keep v (fun j _ => !Tbl.has [(i, l)] j)) i = none := by
    induction v with
    | nil => rfl
    | cons e v ih =>
      obtain ⟨k, w⟩ := e
      by_cases hk : i = k
      · simpa [Tbl.keep, Tbl.has, Tbl.find, hk] using ih
      · simpa [Tbl.keep, Tbl.has, Tbl.find, hk, Ne.symm hk] using ih
  unfold TSurf.learnt
  rw [hdone]
  refine ⟨?_, ?_, hgone _⟩
  · simp [List.getD_eq_getElem?_getD, hi, Tbl.find]
  · simp [hlearn, Tbl.keep, Tbl.has, Tbl.find]

/-! ## Lines, resting contacts, baselines and lost surfaces -/

theorem State.lineRecovers_of_single {s : State} {t l : Nat} (h : (s.tsurf t).lines.filter (fun l => decide (16 ≤ Tbl.cnt (s.tsurf t).lineFit l)) = [l]) :
    s.lineRecovers t = ((s.updTsurf t (fun y => { y with lines := y.lines.filter (· != l), noInterp := y.noInterp.filter (· != l), lineBad := Tbl.put y.lineBad l 0 })).anomaly t 1 (l + 0x4000)).touchReports t (s.tsurf t).frame false
      [touchEvent none t 1 (l + 0x4000) (s.tsurf t).frame s.core.now] := by
  unfold State.lineRecovers
  dsimp only
  rw [h, List.foldl_cons, List.foldl_nil]

/-- Without ABSORB a contact due to rest is marked and reports nothing (R452). -/
theorem State.restContacts_of_kept {s : State} {t : Nat} (h : (s.tsurf t).absorb = false) :
    s.restContacts t = (s.updTsurf t (fun y => { y with contacts := (s.tsurf t).contacts.map (fun c =>
      if (s.tsurf t).restNs ≠ 0 ∧ c.resting = false ∧ c.hover = 0 ∧ (s.tsurf t).restNs ≤ s.core.now - c.since then { c with resting := true } else c) }), []) := by
  have hdue (c : TContact) : (decide ((s.tsurf t).restNs ≠ 0) && !c.resting && c.hover == 0 && decide ((s.tsurf t).restNs ≤ s.core.now - c.since)) = true ↔
      (s.tsurf t).restNs ≠ 0 ∧ c.resting = false ∧ c.hover = 0 ∧ (s.tsurf t).restNs ≤ s.core.now - c.since := by simp [and_assoc]
  unfold State.restContacts
  simp only [h, Bool.not_false, if_true, hdue]

theorem exec_touchBaselineStore_of_due {s : State} {t : Nat} (hst : (s.tsurf t).st = 2) (hcontacts : (s.tsurf t).contacts = []) (hsuspect : (s.tsurf t).suspect = []) (hdue : (s.tsurf t).cleanSince + 600 * 10 ^ 9 ≤ s.core.now) :
    exec (.touchBaselineStore t) s = .next (s.kept (s.storeBaseline t)) := by
  change execTouchBaselineStore t s = _
  unfold execTouchBaselineStore
  exact s.ends_ite_pos ⟨hst, List.isEmpty_iff.mpr hcontacts, List.isEmpty_iff.mpr hsuspect, hdue⟩

/-! ## Raw frames -/

theorem exec_rawFrameReceive_of_bad {s : State} {i span : Nat} {fr : List Byte} (hi : i < 6) (hbad : ofBe (fr.take 2) ≠ 0x7E5A) :
    exec (.rawFrameReceive i fr span) s = .next (s.kept { s with tch := { s.tch with rfErr := Tbl.inc s.tch.rfErr i } }) := by
  change s.ends _ = _
  rw [if_neg (not_le.mpr hi), State.ends_eq]
  simp only [beq_false_of_ne hbad, Bool.false_and, Bool.not_false, if_true]

/-- A raw frame of node counts that passes its checks on an ACTIVE surface without an earlier frame (R439). -/
theorem exec_rawFrameReceive_of_good {s : State} {i : Nat} {fr : List Byte} (hi : i < 6) (hst : (s.tsurf (i + 2)).st = 2) (hdrive : (s.tsurf (i + 2)).drive = (fr.getD 6 0).toNat)
    (hsense : (s.tsurf (i + 2)).sense = (fr.getD 7 0).toNat) (hlen : fr.length = 14 + 2 * (s.tsurf (i + 2)).nodes) (hmagic : ofBe (fr.take 2) = 0x7E5A) (hversion : (fr.getD 2 0).toNat = 0x10) (htype : (fr.getD 3 0).toNat = 0)
    (hcrc : ofBe ((fr.drop (fr.length - 2)).take 2) = crc16 (fr.take (fr.length - 2))) (hfirst : (s.tsurf (i + 2)).lastCount = none) :
    exec (.rawFrameReceive i fr fr.length) s = .next (s.kept (s.updTsurf (i + 2) (fun _ =>
      { s.tsurf (i + 2) with counts := some ((List.range (s.tsurf (i + 2)).nodes).map (fun k => ofBe ((fr.drop (12 + 2 * k)).take 2))), lastCount := some (ofBe ((fr.drop 4).take 2)),
                             reported := if bitOf (ofBe ((fr.drop 8).take 2)) 2 then [lineKey (bitOf (ofBe ((fr.drop 10).take 2)) 15) (ofBe ((fr.drop 10).take 2) % 256)] else [], lastRf := s.core.now }))) := by
  have hzero : ¬ (0 : Nat) = 1 := by decide
  have htwo : ¬ (2 : Nat) = 0 := by decide
  have hfour : ¬ (2 : Nat) = 4 := by decide
  rw [hlen] at hcrc
  change s.ends _ = _
  rw [if_neg (not_le.mpr hi), State.ends_eq]
  simp only [htype, if_neg hzero, hmagic, hversion, hdrive, hsense, hlen, hcrc, hst, if_neg htwo, if_neg hfour, hfirst, Option.elim_none, Bool.false_eq_true, if_false, beq_self_eq_true, Bool.and_true, decide_true, Bool.not_true, Nat.zero_le]

/-- Settles O44: each event is an end of one function of the model, whose branch the clause's hypotheses decide. -/
theorem touchEventsComplete : Obligations.TouchEventsComplete := by
  unfold Obligations.TouchEventsComplete
  refine ⟨?_, ?_, ?_, ?_, ?_, ?_, ?_, ?_, ?_, ?_, ?_, ?_, ?_⟩
  · rintro s t cs own x ht rfl hst htaken hlines hbad hreported hhandover
    refine ⟨_, _, exec_touchScanFrame_of_startup ht hst htaken hlines hbad hreported hhandover, rfl, ?_⟩
    rw [State.kept_tsurf, State.tsurf_updTsurf_same, State.kept_updTsurf_core]
    obtain ⟨hkeep, htaken', hframe, hsums⟩ := (s.tsurf t).startupFrame_adds cs own
    exact ⟨hkeep.trans hst, htaken', hframe, hsums, rfl⟩
  · rintro s t cs own x ht rfl hst hlines hbad hreported hlearn hregions hhandover hrebase
    exact exec_touchScanFrame_of_active ht hst hlines hbad hreported hlearn hregions hhandover hrebase
  · rintro s t x rfl hst htaken hnone
    have hend : exec (.touchStartupDone t) s = .next (s.kept (s.startupDone t)) := rfl
    rw [State.startupDone_of_fresh hst htaken hnone] at hend
    refine ⟨_, hend, ?_⟩
    rw [State.kept_tsurf, State.mapCore_tsurf, State.tsurf_updTsurf_same]
    exact ⟨rfl, rfl, rfl⟩
  · rintro s t x rfl hst htaken
    change s.ends _ = _
    rw [State.rebaseDone_of_due hst htaken, State.ends_eq]
  · exact fun _ _ => ⟨rfl, rfl⟩
  · exact fun _ _ _ hi hlearn hneed hseen => TSurf.learnt_of_single hi hlearn hneed hseen
  · rintro s t l x rfl hfaults
    change s.ends (s.lineFaults t) = _
    rw [State.lineFaults, hfaults, List.foldl_cons, List.foldl_nil, State.ends_eq]
  · rintro s t l x rfl hfit
    change s.ends (s.lineRecovers t) = _
    rw [State.lineRecovers_of_single hfit, State.ends_eq]
  · rintro s t x rfl habsorb
    change s.ends ((s.restContacts t).1.touchReports t (s.tsurf t).frame false (s.restContacts t).2) = _
    rw [State.restContacts_of_kept habsorb, State.touchReports_nil, State.ends_eq]
  · rintro s t x rfl hst hcontacts hsuspect hdue
    exact exec_touchBaselineStore_of_due hst hcontacts hsuspect hdue
  · rintro s t x hlo hhi rfl hon hfound hrate hdue
    refine s.ends_ite_neg ?_
    rintro (h | h | h | h | h | h)
    · exact absurd h (not_lt.mpr hlo)
    · exact absurd h (not_le.mpr hhi)
    · exact hon h
    · exact hfound h
    · exact hrate h
    · exact absurd h (not_lt.mpr hdue)
  · exact fun _ _ _ _ hi hbad => exec_rawFrameReceive_of_bad hi hbad
  · rintro s i fr x hi rfl hst hdrive hsense hlen hmagic hversion htype hcrc hfirst
    refine ⟨_, _, exec_rawFrameReceive_of_good hi hst hdrive hsense hlen hmagic hversion htype hcrc hfirst, rfl, ?_⟩
    rw [State.kept_tsurf, State.tsurf_updTsurf_same]
    exact ⟨rfl, rfl, rfl, hst, rfl⟩

end Sys2Proof.Machine
end

section
/-! # Haptics

A channel after changes of its own, and the branches of a pulse's end, a listen window and HAP_PLAY (R459 to R471). -/
namespace Sys2Proof.Machine

/-! ## Changes of one channel -/

@[simp] theorem State.chan_updChan_same (s : State) (c : Nat) (f : HChan → HChan) : (s.updChan c f).chan c = f (s.chan c) := by
  unfold State.updChan State.chan Tbl.at
  rw [Tbl.find_put_same]
  rfl

theorem State.updChan_updChan (s : State) (c : Nat) (f g : HChan → HChan) : (s.updChan c f).updChan c g = s.updChan c (fun h => g (f h)) := by
  have hput : (Tbl.put (Tbl.put s.hap.chans c (f (s.chan c))) c (g ((s.updChan c f).chan c))) = Tbl.put s.hap.chans c (g (f (s.chan c))) := by
    rw [Tbl.put_put, State.chan_updChan_same]
  exact congrArg (fun t => { s with hap := { s.hap with chans := t } }) hput

theorem State.kept_chan (s u : State) (c : Nat) : (s.kept u).chan c = u.chan c := by
  unfold State.chan
  rw [State.kept_hap]

/-! ## Pulses and windows (R464, R469, R470) -/

/-- The channel after a pulse it drove for an effect. -/
def HChan.drove (h : HChan) : HChan := { h with driven := h.driven + 1, sinceListen := h.sinceListen + 1 }

/-- The channel that listens after its pulse. -/
def HChan.opens (h : HChan) : HChan := { h with listening := true, sinceListen := 0 }

/-- A pulse of an effect that nothing cuts ends in a window where one is due, else in the next pulse. -/
theorem exec_hapPulseEnd_of_effect {s : State} {c : Nat} {t : HTrig} (hquiet : (s.chan c).listening = false) (hlo : 2 ≤ (s.chan c).st) (hhi : (s.chan c).st < 5) (hcur : (s.chan c).cur = some t)
    (hcut : (s.chan c).cut = none) :
    exec (.hapPulseEnd c) s = .next (s.kept (
      if (s.chan c).idx = t.count (s.chan c).st ∨ (s.chan c).every ≤ (s.chan c).sinceListen + 1 ∨ ((s.chan c).stop = true ∧ (s.chan c).st ≠ 4) then (s.updChan c HChan.drove).updChan c HChan.opens
      else (s.updChan c HChan.drove).updChan c (fun x => x.pulse t x.st (x.idx + 1)))) := by
  have hrun : ¬ ((s.chan c).listening = true ∨ (!(decide (2 ≤ (s.chan c).st) && decide ((s.chan c).st ≤ 5))) = true) := by
    rw [hquiet, decide_eq_true hlo, decide_eq_true hhi.le]
    decide
  change s.ends _ = _
  rw [State.ends_eq, if_neg hrun, if_neg (Nat.ne_of_lt hhi)]
  simp only [hcur, State.chan_updChan_same, hcut, Option.isSome_none, Bool.false_eq_true, if_false]
  rfl

theorem HChan.window_idle_bad (h : HChan) {peak : Nat} (hamp : 20 ≤ h.amp) (hbad : 1 ≤ h.openBad) : 2 ≤ (h.window none peak).openBad := by
  have hcount : (h.window none peak).openBad = h.openBad + 1 := if_pos (by simp [hamp])
  omega

/-- A window of an effect records, and the second bad one in a row is a fault. -/
theorem exec_hapListenClose_of_effect {s : State} {c peak : Nat} {crossing : Option Nat} (hlisten : (s.chan c).listening = true) (hst : (s.chan c).st ≠ 5) :
    exec (.hapListenClose c crossing peak) s = .next (s.kept (
      if 2 ≤ ((s.chan c).window crossing peak).openBad then (s.updChan c (fun x => x.window crossing peak)).hapFault c 1
      else if 2 ≤ ((s.chan c).window crossing peak).stallBad then (s.updChan c (fun x => x.window crossing peak)).hapFault c 2
      else (s.updChan c (fun x => x.window crossing peak)).afterWindow c)) := by
  change s.ends _ = _
  rw [State.ends_eq, if_neg (by rw [hlisten]; decide), if_neg hst]
  simp only [State.chan_updChan_same]

/-! ## HAP_PLAY and HAP_SCAN -/

/-- An effect with a pulse in some phase has a first phase. -/
theorem HTrig.phaseFrom_two_ne_five {t : HTrig} (h : t.attackN ≠ 0 ∨ t.sustainN ≠ 0 ∨ t.brakeN ≠ 0) : t.phaseFrom 2 ≠ 5 := by
  change (if t.attackN ≠ 0 then 2 else if t.sustainN ≠ 0 then 3 else if t.brakeN ≠ 0 then 4 else 5) ≠ 5
  split_ifs with hattack hsustain hbrake
  · decide
  · decide
  · decide
  · exact absurd h (by simp only [hattack, hsustain, hbrake, or_self, not_false_eq_true])

theorem cmdHapPlay_run_of_pulses {z : State} (w : Who) {p : Packet} {h : HSlot} (hoff : (z.chan (uIdx (pkUnit p))).st ≠ 0) (hfault : (z.chan (uIdx (pkUnit p))).st ≠ 6)
    (hslot : Tbl.find z.hap.slots (pkF p 0 7 0) = some h) (hpulse : fld h.w0 3 0 ≠ 0 ∨ fld h.w0 15 8 ≠ 0 ∨ fld h.w0 19 16 ≠ 0) :
    cmdHapPlay.run z w p =
      .silent (z.newWork.1.trigger (uIdx (pkUnit p)) { slot := pkF p 0 7 0, owner := h.owner, w0 := h.w0, w1 := h.w1, preempt := bitOf (pkW p 0) 8, work := z.core.nextWork }) (.work z.core.nextWork) := by
  refine (if_neg (not_or.mpr ⟨hoff, hfault⟩)).trans ?_
  simp only [State.trigOf, hslot, Option.map_some]
  exact if_neg fun hempty => HTrig.phaseFrom_two_ne_five (by exact hpulse) hempty.1

/-- Settles O45: the commands are the branches of their meanings, and each event is one step of the channel it names. -/
theorem hapticsComplete : Obligations.HapticsComplete := by
  unfold Obligations.HapticsComplete
  refine ⟨?_, ?_, ?_, ?_, ?_, ?_, ?_, ?_, ?_, ?_, ?_, ?_, ?_⟩
  · exact cmdHapChannelSet.serves_of _ _ _ (fun _ _ => rfl) fun _ _ _ _ _ => ⟨rfl, rfl⟩
  · exact cmdHapEffectSet.serves_of _ _ _ (fun _ _ => rfl) fun _ _ _ _ _ => ⟨rfl, rfl⟩
  · refine cmdHapPlay.starts_of _ _ _ (fun _ _ => rfl) fun z w p hg _ => ?_
    obtain ⟨hoff, hfault, h, hslot, hpulse⟩ := hg
    simp only [hslot, Option.getD_some]
    exact cmdHapPlay_run_of_pulses w hoff hfault hslot hpulse
  · exact cmdHapStop.serves_of _ _ _ (fun _ _ => rfl) fun _ _ _ _ _ => ⟨rfl, rfl⟩
  · exact cmdHapTouchBind.serves_of _ _ _ (fun _ _ => rfl) fun _ _ _ _ _ => ⟨rfl, rfl⟩
  · exact cmdHapScan.starts_of _ _ _ (fun _ _ => rfl) fun _ _ _ hidle _ => if_neg (not_not.mpr hidle)
  · exact cmdHapClear.serves_of _ _ _ (fun _ _ => rfl) fun _ _ _ _ _ => ⟨rfl, rfl⟩
  · exact cmdHapStatus.answers_of _ _ _ (fun _ _ => rfl) fun _ _ _ _ _ => rfl
  · rintro s c h t rfl hquiet hst hcur hcut hstop hmore hnone
    have hgo : ¬ ((s.chan c).idx = t.count (s.chan c).st ∨ (s.chan c).every ≤ (s.chan c).sinceListen + 1 ∨ ((s.chan c).stop = true ∧ (s.chan c).st ≠ 4)) := by
      rw [hstop]
      rintro (hlast | hdue | ⟨hfalse, -⟩)
      · exact hmore hlast
      · omega
      · exact Bool.false_ne_true hfalse
    have hend := exec_hapPulseEnd_of_effect hquiet (by omega) (by omega) hcur hcut
    rw [if_neg hgo] at hend
    refine ⟨_, hend, ?_⟩
    rw [State.kept_chan, State.chan_updChan_same, State.chan_updChan_same, HChan.pulse, HChan.drove, hquiet]
    rfl
  · rintro s c h t rfl hquiet hst hcur hcut hdue
    have hend := exec_hapPulseEnd_of_effect hquiet (by omega) (by omega) hcur hcut
    rw [if_pos (hdue.imp_right Or.inl)] at hend
    refine ⟨_, hend, ?_⟩
    rw [State.kept_chan, State.chan_updChan_same, State.chan_updChan_same]
    rfl
  · rintro s c peak crossing h rfl hlisten hst hopen hstall
    rw [exec_hapListenClose_of_effect hlisten hst, if_neg (not_le.mpr hopen), if_neg (not_le.mpr hstall)]
  · rintro s c peak h rfl hlisten hst hamp hbad
    rw [exec_hapListenClose_of_effect hlisten hst, if_pos ((s.chan c).window_idle_bad hamp hbad)]
  · rintro s c h rfl hst hcut hdue
    exact s.ends_ite_pos ⟨hst, by rw [hcut]; rfl, hdue⟩

end Sys2Proof.Machine
end

section
/-! # Device time and the journal under the slices' rings

An entry of a slice's rings, and what it may bring (a fault record, a halted slice and its notification), leave device time and the journal alone (R57, R65, R119). -/
namespace Sys2Proof.Machine

/-- Device time and the journal. -/
def Core.clockJrn (c : Core) : BitVec 64 × Jrn := (c.dt, c.jrn)

theorem clockJrn_ite {α : Type} {p : Prop} [Decidable p] {x y : Core × α} {c : Core} (hx : x.1.clockJrn = c.clockJrn) (hy : y.1.clockJrn = c.clockJrn) : (if p then x else y).1.clockJrn = c.clockJrn := by
  split
  · exact hx
  · exact hy

section
variable (c : Core) (inst idx : Nat)

theorem Core.stage2Of_clockJrn (a : Nat) (write : Bool) : (c.stage2Of inst a write).1.clockJrn = c.clockJrn := by
  obtain ⟨_, h⟩ := c.stage2Of_eq inst a write
  rw [h]
  rfl

theorem Core.translate_clockJrn (sl : Slice) (a : Nat) (write : Bool) : (c.translate inst sl a write).1.clockJrn = c.clockJrn := by
  have after2 {d e : Core} {b : Nat} {o : Option Nat} (h : d.stage2Of inst b write = (e, o)) : e.clockJrn = d.clockJrn := by
    rw [← d.stage2Of_clockJrn inst b write, h]
  unfold Core.translate
  refine clockJrn_ite ?_ ?_
  · dsimp only
    split <;> exact after2 ‹_›
  refine clockJrn_ite ?_ ?_
  · rfl
  · generalize c.tlbFind inst sl.pasid 1 (a / 4096) = cached
    cases cached with
    | some e =>
      refine clockJrn_ite ?_ ?_
      · dsimp only
        split <;> exact after2 ‹_›
      · rfl
    | none =>
      dsimp only
      generalize walk _ _ _ _ _ = leaf
      rcases leaf with _ | ⟨page, r, w⟩
      · rfl
      · have hadd (x : TlbEntry) : (c.tlbAdd x).clockJrn = c.clockJrn := by unfold Core.tlbAdd Core.clockJrn; rfl
        refine clockJrn_ite ?_ (hadd _)
        rw [← hadd]
        split <;> exact after2 ‹_›

theorem Core.dmaWrite_clockJrn (sl : Slice) (bs : List Byte) (a : Nat) : (Core.dmaWrite inst sl bs c a).1.clockJrn = c.clockJrn := by
  induction bs generalizing c a with
  | nil => rfl
  | cons v vs ih =>
    have htr := c.translate_clockJrn inst sl a true
    rw [Core.dmaWrite]
    split
    · rename_i c1 st h
      rw [h] at htr
      exact htr
    · rename_i c1 b h
      rw [h] at htr
      exact (ih _ _).trans htr

theorem Core.raise_clockJrn (vec : Nat) : (c.raise inst vec).clockJrn = c.clockJrn := by
  obtain ⟨_, _, h⟩ := c.raise_eq inst vec
  rw [h]
  rfl

theorem Core.syncCb_clockJrn : (c.syncCb inst idx).clockJrn = c.clockJrn := by
  unfold Core.syncCb
  split
  · rfl
  · obtain ⟨_, _, _, h⟩ := Core.wr2_eq inst _ c _
    rw [h]
    rfl

theorem Core.stopSlice_clockJrn : (c.stopSlice inst idx).clockJrn = c.clockJrn := by
  unfold Core.stopSlice
  split
  · rfl
  · split
    · rfl
    · rw [Core.syncCb_clockJrn]
      change (Core.notify _ _ _ _ _).clockJrn = _
      obtain ⟨_, _, _, _, _, _, _, h⟩ := Core.notify_eq (c.updSlice inst idx fun s => { s with st := .halted }) 0x0002 inst (sliceUnit inst idx) (c.freeBytes 48)
      rw [h]
      rfl

theorem Core.writeEntry_clockJrn (sl : Slice) (k : RingKind) (e : List Byte) : (c.writeEntry inst idx sl k e).1.clockJrn = c.clockJrn := by
  have hdma := Core.dmaWrite_clockJrn c inst sl (withPhase (ringPos sl k).phase (fit 32 e)) (ringBase sl.rings k + (ringPos sl k).next)
  unfold Core.writeEntry
  dsimp only
  split
  · rename_i c1 h
    rw [h] at hdma
    exact (Core.raise_clockJrn _ _ _).trans hdma
  · rename_i c1 f h
    rw [h] at hdma
    exact hdma

theorem Core.faultRec_clockJrn (type addr unit detail : Nat) : (c.faultRec inst idx type addr unit detail).clockJrn = c.clockJrn := by
  unfold Core.faultRec
  split
  · rfl
  · split
    · rfl
    · rename_i sl _ _
      have hentry := c.writeEntry_clockJrn inst idx sl .flt (le 2 type ++ le 2 (c.genOf (sliceUnit inst idx)).toNat ++ [0, 0, 0, 0] ++ le 8 c.now ++ le 8 addr ++ le 4 (if unit = 0 then 0 else c.here unit) ++ le 4 detail)
      split
      · rename_i c1 h
        rw [h] at hentry
        exact hentry
      · rename_i c1 f h
        rw [h] at hentry
        exact (c1.stopSlice_clockJrn inst idx).trans hentry

theorem Core.halt_clockJrn (off : Nat) : (c.halt inst idx off).clockJrn = c.clockJrn := (Core.stopSlice_clockJrn _ _ _).trans (c.faultRec_clockJrn _ _ _ _ _ _)

theorem Core.putEntry_clockJrn (sl : Slice) (k : RingKind) (e : List Byte) : (c.putEntry inst idx sl k e).clockJrn = c.clockJrn := by
  have hentry := c.writeEntry_clockJrn inst idx sl k e
  unfold Core.putEntry
  split
  · rename_i c1 h
    rw [h] at hentry
    exact hentry
  · rename_i c1 f h
    rw [h] at hentry
    have hrec : (c1.dtuRec inst idx f.1 f.2 true).clockJrn = c1.clockJrn := c1.faultRec_clockJrn _ _ _ _ _ _
    dsimp only
    split
    · exact hrec.trans hentry
    · exact ((Core.halt_clockJrn _ _ _ _).trans hrec).trans hentry

theorem Core.countOldGen_clockJrn (u : Nat) : (c.countOldGen u).clockJrn = c.clockJrn := by
  unfold Core.countOldGen
  dsimp only
  split <;> rfl

end

/-- A completion leaves device time and the journal alone. -/
theorem Core.complete_clockJrn (c : Core) (w : Who) (p : Packet) (r : Rsp) (final durable : Bool) (jseq : Nat) : (c.complete w p r final durable jseq).clockJrn = c.clockJrn := by
  unfold Core.complete
  split
  · rfl
  · extract_lets counted
    have hcounted : counted.clockJrn = c.clockJrn := rfl
    refine Eq.trans ?_ hcounted
    clear_value counted
    split
    · split <;> rfl
    · split
      · exact Core.countOldGen_clockJrn _ _
      · rename_i sl _
        split
        · exact Core.countOldGen_clockJrn _ _
        · extract_lets completed
          have hput : completed.clockJrn = counted.clockJrn := counted.putEntry_clockJrn _ _ sl .cmp _
          refine Eq.trans ?_ hput
          clear_value completed
          split <;> rfl

end Sys2Proof.Machine
end

section
/-! # Sound

A bus after a change of its own, a bus's mix, and the branches of the jack's events (R472 to R493). -/
namespace Sys2Proof.Machine

@[simp] theorem State.abus_updBus_same (s : State) (b : Nat) (f : ABus → ABus) : (s.updBus b f).abus b = f (s.abus b) := by
  unfold State.updBus State.abus Tbl.at
  rw [Tbl.find_put_same]
  rfl

/-- A change of a bus says what it does to that bus. -/
theorem State.updBus_congr {s : State} {b : Nat} {f g : ABus → ABus} (h : f (s.abus b) = g (s.abus b)) : s.updBus b f = s.updBus b g := by
  unfold State.updBus
  rw [h]

/-- A bus that is set mixes its enabled inputs, saturated, under its fade (R480). -/
theorem State.mixBus_out {s : State} (blocks : Tbl (List (List Int))) {b : Nat} {x : ABus} (hx : (s.abus b).release s.aud = x) (hset : x.set = true) :
    ((s.mixBus blocks b).abus b).out =
      fadeBlock x.dip ((List.range 8).map (fun n => (List.range (fld x.w0 2 0 + 1)).map (fun c =>
        (saturate ((((x.inputs.filter (fun i => inEnable i.word)).filter (fun i => fld i.word 14 12 == c)).map (fun i => s.inputAt blocks x.duck i n)).foldl (· + ·) 0)).1))) := by
  unfold State.mixBus
  rw [hx, if_neg (by rw [hset]; decide)]
  simp only [State.updBus, State.abus, Tbl.at, Tbl.find_put_same, Option.getD_some, List.map_map, Function.comp_def]

theorem ABus.release_of_due {x : ABus} {a : Aud} (hduck : x.ducking = true) (hdue : x.lastActive + a.rate / 5 ≤ a.k) :
    x.release a = { x with ducking := false, duck := x.duck.to 0 (fld x.w0 41 31 * a.rate / 1000) } := if_pos (by rw [hduck, decide_eq_true hdue]; rfl)

theorem State.abus_of_find {s : State} {b : Nat} {x : ABus} (h : Tbl.find s.aud.buses b = some x) : s.abus b = x := by
  rw [State.abus, Tbl.at, h]
  rfl

theorem State.updBus_release_of_due {s : State} {b : Nat} {x : ABus} (hfind : Tbl.find s.aud.buses b = some x) (hduck : x.ducking = true) (hdue : x.lastActive + s.aud.rate / 5 ≤ s.aud.k) :
    s.updBus b (fun y => y.release s.aud) = s.updBus b (fun y => { y with ducking := false, duck := y.duck.to 0 (fld y.w0 41 31 * s.aud.rate / 1000) }) := by
  refine State.updBus_congr ?_
  rw [State.abus_of_find hfind]
  exact ABus.release_of_due hduck hdue

/-! ## Commands -/

theorem cmdAudHeadsetSet_run_of_normal (z : State) {w : Who} (p : Packet) (hsecure : w.secure = false) :
    cmdAudHeadsetSet.run z w p = .done { z with aud := { z.aud with hsOwner := pkF p 0 5 0 } } (Rsp.plain .served) := if_pos (by rw [hsecure]; rfl)

/-- HP_LOCK set by the secure firmware, where the headset's sink was never set. -/
theorem cmdAudHeadsetSet_run_of_locks {z : State} {w : Who} {p : Packet} (hsecure : w.secure = true) (hunset : (z.asink 10).words = []) (hlock : bitOf (pkW p 0) 32 = true) :
    cmdAudHeadsetSet.run z w p = .done (({ z with aud := { z.aud with hpLimit := pkF p 0 31 16, hpLock := true } } : State).extend 10 (le 4 5)) (Rsp.plain .served) := by
  have hempty : ((({ z with aud := { z.aud with hpLimit := pkF p 0 31 16, hpLock := true } } : State).asink 10).words).isEmpty = true := List.isEmpty_iff.mpr hunset
  refine (if_neg (by rw [hsecure]; decide)).trans ?_
  simp only [hlock, hempty, if_true]

theorem cmdAudStatus_ask_of_status (z : State) (w : Who) {p : Packet} (hcls : uCls (pkUnit p) = 0x70 ∨ uCls (pkUnit p) = 0x73) :
    cmdAudStatus.ask z w p =
      (z.mapCore (fun c => c.useFree 3), Rsp.ok (if uCls (pkUnit p) = 0x70 then z.srcStatus (uIdx (pkUnit p)) else z.aud.hsStatus)
        ((Config.freeValue (z.core.freeCtr + 1)).toNat % 2 ^ 32) ((Config.freeValue (z.core.freeCtr + 2)).toNat % 2 ^ 32)) := by
  have hother : ¬ (0x73 : Nat) = 0x70 := by decide
  rcases hcls with h | h
  · simp only [cmdAudStatus, h, if_true]
  · simp only [cmdAudStatus, h, if_neg hother]

/-! ## Blocks and the jack -/

/-- An instant that is past, where there is one, is not awaited. -/
theorem not_before_of_due {o : Option Nat} {now : Nat} (h : ∀ t, o = some t → t ≤ now) : ¬ (o.elim false fun t => decide (now < t)) = true := by
  cases o with
  | none => exact Bool.false_ne_true
  | some t => exact fun hearly => absurd (h t rfl) (not_le.mpr (of_decide_eq_true hearly))

theorem exec_audioBlock_of_due {s : State} (tdm0 tdm1 : Option (List Int)) (mic : List Int) (slips : List (Nat × Bool)) (hon : s.isActive (uid 0x73 0 0) = true) (hdue : ∀ t, s.aud.sampleDt s.aud.k = some t → t ≤ s.core.now) :
    exec (.audioBlock tdm0 tdm1 mic slips) s = .next (s.kept (
      let r := s.swapSets.srcBlocks { tdm0 := tdm0, tdm1 := tdm1, mic := mic, slips := slips }
      let s3 := (List.range 32).foldl State.feedSink ((List.range 16).foldl (fun a b => a.mixBus r.2 b) r.1)
      { s3 with aud := { s3.aud with k := s3.aud.k + 8 } })) := by
  have hgo : ¬ ((!s.isActive (uid 0x73 0 0)) = true ∨ ((s.aud.sampleDt s.aud.k).elim false fun t => decide (s.core.now < t)) = true) := by
    rw [hon]
    exact not_or.mpr ⟨by decide, not_before_of_due hdue⟩
  change execAudioBlock tdm0 tdm1 mic slips s = _
  unfold execAudioBlock
  rw [State.ends_eq, if_neg hgo]

theorem exec_hsButtonChange_of_press {s : State} {mv ms b : Nat} (hjack : s.aud.jack = 4) (hheld : 20 ≤ ms) (hbutton : buttonOf mv = some b) (hpress : b ≠ 4) (hup : s.aud.pressed = false) :
    exec (.hsButtonChange mv ms) s = .next (s.kept (({ s with aud := { s.aud with micMv := min mv 4095, pressed := true, button := b } } : State).jackEvent 3)) := by
  have hgo : ¬ ((s.aud.jack ≠ 4 ∧ s.aud.jack ≠ 5) ∨ ms < 20) := by omega
  change s.ends _ = _
  rw [State.ends_eq, if_neg hgo]
  simp only [hbutton, hup, Bool.false_eq_true, false_and, if_false]

/-- A reading above every button lets go of the one that was pressed (R491). -/
theorem exec_hsButtonChange_of_release {s : State} {mv ms : Nat} (hjack : s.aud.jack = 5) (hheld : 20 ≤ ms) (hmv : 1150 < mv) (hdown : s.aud.pressed = true) :
    exec (.hsButtonChange mv ms) s = .next (s.kept { ({ s with aud := { s.aud with micMv := min mv 4095 } } : State).jackEvent 4 with aud := { s.aud with micMv := min mv 4095, pressed := false, button := 0 } }) := by
  have hgo : ¬ ((s.aud.jack ≠ 4 ∧ s.aud.jack ≠ 5) ∨ ms < 20) := by omega
  have hbutton : buttonOf mv = some 4 := by
    unfold buttonOf
    rw [if_neg (by omega), if_neg (by omega), if_neg (by omega), if_neg (by omega), if_pos hmv]
  change s.ends _ = _
  rw [State.ends_eq, if_neg hgo]
  simp only [hbutton, hdown, if_true]

/-- Settles O46: the commands are the branches of their meanings; a bus's mix and each event is one end of its function. -/
theorem audioComplete : Obligations.AudioComplete := by
  unfold Obligations.AudioComplete
  refine ⟨⟨?_, ?_, ?_, ?_, ?_, ?_, ?_, ?_, ?_, ?_, ?_⟩, ?_, ?_, ?_, ?_, ?_, ?_, ?_, ?_, ?_⟩
  · exact cmdAudModeSet.serves_of _ _ _ (fun _ _ => rfl) fun _ _ _ _ _ => ⟨rfl, rfl⟩
  · exact cmdAudSourceOpen.serves_of _ _ _ (fun _ _ => rfl) fun _ _ _ _ _ => ⟨rfl, rfl⟩
  · exact cmdAudSourceClose.serves_of _ _ _ (fun _ _ => rfl) fun _ _ _ _ _ => ⟨rfl, rfl⟩
  · exact cmdAudBusSet.starts_of _ _ _ (fun _ _ => rfl) fun _ _ _ _ _ => rfl
  · exact cmdAudSinkSet.starts_of _ _ _ (fun _ _ => rfl) fun _ _ _ _ _ => rfl
  · exact cmdAudApply.starts_of _ _ _ (fun _ _ => rfl) fun _ _ _ _ _ => rfl
  · exact cmdAudTdmSet.serves_of _ _ _ (fun _ _ => rfl) fun _ _ _ _ _ => ⟨rfl, rfl⟩
  · exact cmdAudAssign.serves_of _ _ _ (fun _ _ => rfl) fun _ _ _ _ _ => ⟨rfl, rfl⟩
  · exact cmdAudHeadsetSet.serves_of _ _ _ (fun _ _ => rfl) fun z _ p hsecure _ => ⟨cmdAudHeadsetSet_run_of_normal z p hsecure, rfl⟩
  · refine cmdAudHeadsetSet.serves_of _ _ _ (fun _ _ => rfl) fun z w p hg _ => ?_
    obtain ⟨hsecure, hunset, hlock⟩ := hg
    exact ⟨cmdAudHeadsetSet_run_of_locks hsecure hunset hlock, rfl⟩
  · exact cmdAudStatus.answers_of _ _ _ (fun _ _ => rfl) fun z w _ hcls _ => cmdAudStatus_ask_of_status z w hcls
  · exact fun _ tdm0 tdm1 mic slips hon hdue => exec_audioBlock_of_due tdm0 tdm1 mic slips hon hdue
  · exact fun _ blocks _ hset => State.mixBus_out blocks rfl hset
  · intro s b x hfind hduck hdue
    refine (s.ends_ite_pos (by rw [Tbl.has, hfind]; rfl)).trans ?_
    rw [State.updBus_release_of_due hfind hduck hdue]
  · intro s hout hjack
    change s.ends _ = _
    rw [State.ends_eq, if_neg (by rw [hout]; decide), if_pos rfl, if_pos hjack]
  · intro s hin
    change s.ends _ = _
    rw [State.ends_eq, if_neg (by rw [hin]; decide), if_neg Bool.false_ne_true]
  · exact fun s hjack hdue => s.ends_ite_pos ⟨hjack, hdue⟩
  · exact fun s _ _ _ hjack => s.ends_ite_neg (not_not.mpr hjack)
  · exact fun _ _ _ _ hjack hheld hbutton hpress hup => exec_hsButtonChange_of_press hjack hheld hbutton hpress hup
  · intro s mv ms hjack hheld hmv hdown
    refine ⟨_, exec_hsButtonChange_of_release hjack hheld hmv hdown, ?_⟩
    rw [State.kept_aud, State.kept_core]
    refine ⟨rfl, ?_⟩
    have hdt : (({ s with aud := { s.aud with micMv := min mv 4095 } } : State).jackEvent 4).core.dt = s.core.dt := congrArg Prod.fst (Core.faultRec_clockJrn _ _ _ _ _ _ _)
    rw [← hdt]

end Sys2Proof.Machine
end

section
/-! # Power, sensors and islands

What a cold reset leaves, and the branches of the power commands, the AVS loop and the sensors' events (R575 to R593). -/
namespace Sys2Proof.Machine

/-! ## What a cold reset leaves (Table 18.7) -/

/-- The state that a cold reset clears to, before components 1 and 2 that were activated come into force. -/
def State.cleared (s : State) : State :=
  { fix := s.fix, core := Core.cold s.core.dt s.core.freeCtr s.core.host s.core.jrn.kept, lnk := Lnk.cold, sec := Sec.cold s.fix s.sec.tamperLatched s.sec.tamperHeld s.sec.bootCount s.sec.rollback,
    pwr := { Pwr.cold s.fix with perstHigh := s.pwr.perstHigh }, mem := MemSys.cold [], srf := Srf.cold, frd := Frd.cold, led := Led.cold, chk := Chk.cold, ras := Ras.cold, ing := Ing.cold false, rhz := Rhz.cold, tch := Tch.cold, hap := Hap.cold,
    aud := Aud.cold, peat := s.peat.kept, reg := Regs.cold, pending := s.pending }

/-- Outside the core and the peat store a cold reset clears. -/
theorem State.coldReset_part {α : Type} (part : State → α) (hcore : ∀ s f, part (State.mapCore s f) = part s) (hpeat : ∀ (s : State) (q : Peat), part { s with peat := q } = part s) (s : State) :
    part s.coldReset = part s.cleared :=
  ((s.cleared.activateAtReset s.peat 1).activateAtReset_part part hcore hpeat s.peat 2).trans (s.cleared.activateAtReset_part part hcore hpeat s.peat 1)

@[simp] theorem State.coldReset_mem (s : State) : s.coldReset.mem = MemSys.cold [] := State.coldReset_part State.mem (fun _ _ => rfl) (fun _ _ => rfl) s

@[simp] theorem State.coldReset_led (s : State) : s.coldReset.led = Led.cold := State.coldReset_part State.led (fun _ _ => rfl) (fun _ _ => rfl) s

/-! ## Commands -/

section
variable {z : State} (w : Who) {p : Packet}

theorem cmdPwrDomainSet_run_of_there
    (hg : (bitOf (pkW p 0) 0 = true ∧ z.domSt (uIdx (pkUnit p)) = .on) ∨ (bitOf (pkW p 0) 0 = false ∧ (z.domSt (uIdx (pkUnit p)) = .off ∨ z.domSt (uIdx (pkUnit p)) = .shed))) :
    cmdPwrDomainSet.run z w p = .done z (Rsp.plain .served) := by
  rcases hg with ⟨hon, hst⟩ | ⟨hoff, hst | hst⟩
  · simp only [cmdPwrDomainSet, hon, hst, if_true]
  all_goals simp only [cmdPwrDomainSet, hoff, hst, Bool.false_eq_true, if_false]

theorem cmdPwrDomainSet_run_of_wakes (hon : bitOf (pkW p 0) 0 = true) (hst : z.domSt (uIdx (pkUnit p)) = .off ∨ z.domSt (uIdx (pkUnit p)) = .shed) :
    cmdPwrDomainSet.run z w p = .silent (z.setDom (uIdx (pkUnit p)) .waking) (.unit (uid 0xA0 (uIdx (pkUnit p)) 0)) := by
  rcases hst with hst | hst
  all_goals simp only [cmdPwrDomainSet, hon, hst, if_true]

theorem cmdPwrDomainSet_run_of_drains (hoff : bitOf (pkW p 0) 0 = false) (hst : z.domSt (uIdx (pkUnit p)) = .on) (hfree : z.domainLeased (uIdx (pkUnit p)) = false) :
    cmdPwrDomainSet.run z w p =
      .silent ((z.setDom (uIdx (pkUnit p)) .draining).setTr (uid 0xA0 (uIdx (pkUnit p)) 0) { phase := .draining, kind := .powerDown, queued := [], discarded := 0, began := z.core.now }) (.unit (uid 0xA0 (uIdx (pkUnit p)) 0)) := by
  simp only [cmdPwrDomainSet, hoff, hst, hfree, Bool.false_eq_true, if_false]

/-- A reading that some sample or excursion has brought. -/
theorem cmdPwrSensorRead_ask_of_read (hsensor : uIdx (pkUnit p) < 40) (hhas : Tbl.has z.pwr.sensor (uIdx (pkUnit p)) = true) :
    cmdPwrSensorRead.ask z w p = (z, Rsp.ok (Tbl.cnt z.pwr.sensor (uIdx (pkUnit p))) 0 0) := by
  refine (if_neg ?_).trans ?_
  · rintro ⟨-, -, hnone⟩
    rw [hhas] at hnone
    exact absurd hnone (by decide)
  · rw [State.sensorValue, if_pos hsensor]

theorem cmdPwrShutdown_run_of_unleased (hfree : ∀ e ∈ z.sec.leases, e.2 = false) :
    cmdPwrShutdown.run z w p = .silent { z with pwr := { z.pwr with shutdown := true, standby := bitOf (pkW p 0) 0, shutdownBegan := z.core.now, admitStopped := true } } (.unit 0) := by
  refine if_neg ?_
  rw [List.any_eq_true]
  rintro ⟨e, he, hleased⟩
  rw [hfree e he] at hleased
  exact Bool.false_ne_true hleased

end

/-- What PWR_RESET does before the reset: its journaled and durable event, its completion and the reset it asks for (R584). -/
def State.asksReset (z : State) (w : Who) (p : Packet) : State × Wait :=
  let z1 := z.resetEvent (bitOf (pkW p 0) 0) 1
  let z2 := z1.allDurable.mapCore (fun c => c.complete w p (Rsp.plain .served) true true (z1.core.jrn.nextJseq - 1))
  ({ z2 with pwr := { z2.pwr with resetAsked := some (pkW p 0) } }, .unit 0)

theorem exec_pwrReset_of_acts {s t : State} {port : Port} {w : Who} {p : Packet} (hready : cmdPwrReset.ready s port = some (t, w, p)) (hacts : cmdPwrReset.acts t p = true) :
    exec (.pwrReset port) s = .next (s.kept (((cmdPwrReset.waits t w p (fun z => z.asksReset w p)).ported port).takeReset)) := by
  change s.ends (cmdPwrReset.exec port s).takeReset = _
  rw [cmdPwrReset.exec_of_ready s port t w p hready, cmdPwrReset.execute_silent t w p (fun z => z.asksReset w p) hacts rfl rfl, State.ends_eq]

/-! ## The AVS loop (R588) -/

theorem exec_avsTick_of_running {s : State} {vread p : Nat} (hpace : s.lnk.average = some p) (hon : s.pwr.avsEnable = true) (hmgmt : s.pwr.mgmtRestarting = false) (hdom : s.domSt 8 = .on) (hset : s.pwr.vset ≠ 0) :
    exec (.avsTick vread) s = .next (s.kept { s with pwr := { s.pwr with vread := vread % 1024, vset := avsNext s.pwr p s.pwr.vset } }) := by
  change s.ends _ = _
  rw [State.ends_eq, hpace]
  have hgo : ¬ ((!s.pwr.avsEnable) = true ∨ s.pwr.mgmtRestarting = true ∨ s.domSt 8 ≠ .on) := by
    rw [hon, hmgmt, hdom]
    decide
  simp only [if_neg hgo, if_neg hset]

/-! ## Sensors (R589, R590) -/

section
variable {s : State} {n : Nat} {r : Int}

theorem exec_thermalSample_of_cool (hn : n < 16) (hheld : s.pwr.held = false) (hwarn : r < (s.pwr.warnC : Int) * 4) (htrip : r < (s.pwr.tripC : Int) * 4) :
    exec (.thermalSample n r) s =
      .next (s.kept { s with pwr := { s.pwr with sensor := Tbl.put s.pwr.sensor n (enc 16 r), warned := s.pwr.warned.filter (· != n), tripped := s.pwr.tripped.filter (· != n), trippedAt := Tbl.del s.pwr.trippedAt n } }) := by
  have hgo : ¬ (16 ≤ n ∨ s.pwr.held = true) := not_or.mpr ⟨not_le.mpr hn, Bool.eq_false_iff.mp hheld⟩
  change s.ends _ = _
  rw [State.ends_eq, if_neg hgo]
  simp only [decide_eq_false (not_le.mpr hwarn), decide_eq_false (not_le.mpr htrip), Bool.false_and, Bool.false_eq_true, if_false]

theorem exec_thermalSample_of_trip (hn : n < 16) (hheld : s.pwr.held = false) (hwarn : (s.pwr.warnC : Int) * 4 ≤ r) (htrip : (s.pwr.tripC : Int) * 4 ≤ r) (hwarned : n ∈ s.pwr.warned) (hnew : n ∉ s.pwr.tripped) :
    exec (.thermalSample n r) s =
      .next (s.kept (({ s with pwr := { s.pwr with sensor := Tbl.put s.pwr.sensor n (enc 16 r), tripped := s.pwr.tripped ++ [n], trippedAt := Tbl.put s.pwr.trippedAt n s.core.now } } : State).trip n)) := by
  have hgo : ¬ (16 ≤ n ∨ s.pwr.held = true) := not_or.mpr ⟨not_le.mpr hn, Bool.eq_false_iff.mp hheld⟩
  have hin : s.pwr.warned.contains n = true := List.contains_iff_mem.mpr hwarned
  have hout : s.pwr.tripped.contains n = false := by rw [List.contains_eq_mem, decide_eq_false hnew]
  change s.ends _ = _
  rw [State.ends_eq, if_neg hgo]
  simp only [decide_eq_true hwarn, decide_eq_true htrip, hin, hout, Bool.not_true, Bool.not_false, Bool.and_true, Bool.and_false, Bool.false_eq_true, if_false, if_true]

theorem exec_thermalCritical_of_sensor (hsensor : s.criticalSensor = some n) (hheld : s.pwr.held = false) :
    exec .thermalCritical s = .next (s.kept { (s.thermEvent n 3 0).flushed.coldReset with pwr := { (s.thermEvent n 3 0).flushed.coldReset.pwr with thermTripLow := true, held := true, sensor := s.pwr.sensor } }) := by
  change s.ends _ = _
  rw [State.ends_eq, hsensor]
  simp only [hheld, Bool.false_eq_true, if_false]

theorem exec_vmonExcursion_of_high {m mv : Nat} (hm : m < 24) (hhigh : fld (Tbl.cnt s.pwr.vmonLim m) 31 16 < mv) :
    exec (.vmonExcursion m mv) s =
      .next (s.kept (({ s with pwr := { s.pwr with sensor := Tbl.put s.pwr.sensor (16 + m) (mv % 65536) } } : State).mapCore (fun c => (c.irq .mgmtVmon).event 0xFEC3 0 0 m (le 2 mv ++ le 1 1)))) := by
  change s.ends _ = _
  rw [State.ends_eq]
  simp only [decide_eq_true hhigh, Bool.not_true, Bool.false_eq_true, false_and, or_false, if_neg (not_le.mpr hm)]
  rfl

theorem exec_islandStop_of_idle {i : Nat} (hisland : i = 26 ∨ i = 27) (hruns : s.islandRuns i = true) (hidle : (s.island i).lastUse + 10 ^ 6 ≤ s.core.now) (hflush : s.peat.flushing = false) (hjrn : s.core.jrn.flushing = []) :
    exec (.islandStop i) s = .next (s.kept { s with pwr := { s.pwr with islands := Tbl.put s.pwr.islands i { s.island i with running := false } } }) := by
  refine s.ends_ite_neg ?_
  rintro (⟨h26, h27⟩ | hstopped | hearly | hpeat | hbusy)
  · exact hisland.elim h26 h27
  · rw [hruns] at hstopped
    exact absurd hstopped (by decide)
  · exact absurd hidle (not_le.mpr hearly)
  · rw [hflush] at hpeat
    exact Bool.false_ne_true hpeat
  · rw [hjrn] at hbusy
    exact absurd hbusy (by decide)

end

/-- Settles O47: the commands are the branches of their meanings, and each event is one end of its function. -/
theorem powerAndIslandsComplete : Obligations.PowerAndIslandsComplete := by
  unfold Obligations.PowerAndIslandsComplete
  refine ⟨⟨?_, ?_, ?_, ?_, ?_, ?_, ?_, ?_, ?_, ?_⟩, ?_, ?_, ?_, ?_, ?_, ?_, ?_⟩
  · exact cmdPwrDomainSet.serves_of _ _ _ (fun _ _ => rfl) fun _ w _ hg _ => ⟨cmdPwrDomainSet_run_of_there w hg, rfl⟩
  · exact cmdPwrDomainSet.starts_of _ _ _ (fun _ _ => rfl) fun _ w _ hg _ => cmdPwrDomainSet_run_of_wakes w hg.1 hg.2
  · refine cmdPwrDomainSet.starts_of _ _ _ (fun _ _ => rfl) fun _ w _ hg _ => ?_
    obtain ⟨hoff, hst, hfree⟩ := hg
    exact cmdPwrDomainSet_run_of_drains w hoff hst hfree
  · exact fun _ _ _ _ _ hready hacts => exec_pwrReset_of_acts hready hacts
  · exact cmdPwrAvsSet.serves_of _ _ _ (fun _ _ => rfl) fun _ _ _ _ _ => ⟨rfl, rfl⟩
  · exact cmdPwrThermalSet.serves_of _ _ _ (fun _ _ => rfl) fun _ _ _ hnormal _ => ⟨congrArg (Verdict.done · _) (if_neg (Bool.eq_false_iff.mp hnormal)), rfl⟩
  · exact cmdPwrThermalSet.serves_of _ _ _ (fun _ _ => rfl) fun _ _ _ hsecure _ => ⟨congrArg (Verdict.done · _) (if_pos hsecure), rfl⟩
  · exact cmdPwrStatus.answers_of _ _ _ (fun _ _ => rfl) fun _ _ _ _ _ => rfl
  · exact cmdPwrSensorRead.answers_of _ _ _ (fun _ _ => rfl) fun _ w _ hg _ => cmdPwrSensorRead_ask_of_read w hg.1 hg.2
  · exact cmdPwrShutdown.starts_of _ _ _ (fun _ _ => rfl) fun _ w _ hfree _ => cmdPwrShutdown_run_of_unleased w hfree
  · intro s vread p hpace hon hmgmt hdom hset
    have htick := exec_avsTick_of_running (vread := vread) hpace hon hmgmt hdom hset
    refine ⟨fun hfast hmax => ?_, fun hslow hmin => ?_, fun hle hge => ?_⟩
    · rw [htick, avsNext, if_pos ⟨hfast, hmax⟩]
    · rw [htick, avsNext, if_neg (by omega), if_pos ⟨hslow, hmin⟩]
    · rw [htick, avsNext, if_neg (by omega), if_neg (by omega)]
  · exact fun _ _ _ hn hheld hwarn htrip => exec_thermalSample_of_cool hn hheld hwarn htrip
  · exact fun _ _ _ hn hheld hwarn htrip hwarned hnew => exec_thermalSample_of_trip hn hheld hwarn htrip hwarned hnew
  · intro s n hsensor hheld
    refine ⟨_, exec_thermalCritical_of_sensor hsensor hheld, ?_⟩
    rw [State.kept_pwr, State.kept_mem, State.kept_led]
    exact ⟨rfl, rfl, rfl, congrArg MemSys.dram (State.coldReset_mem _), State.coldReset_led _⟩
  · exact fun _ _ _ hm hhigh => exec_vmonExcursion_of_high hm hhigh
  · exact fun s i hi hon => s.ends_ite_neg (by rintro (h | h); exacts [absurd hi (not_lt.mpr h), h hon])
  · exact fun _ _ hisland hruns hidle hflush hjrn => exec_islandStop_of_idle hisland hruns hidle hflush hjrn

end Sys2Proof.Machine
end

section
/-! # Resets and the boot

What a cold reset keeps, what measuring and powering on leave alone, and the boot's stages (R513, R579 to R587). -/
namespace Sys2Proof.Machine

/-! ## The journal's partition under an event -/

@[simp] theorem Jrn.push_part (j : Jrn) (r : JRec) : (j.push r).part = j.part := rfl

theorem Jrn.event_part (j : Jrn) (now : Nat) (e : JEvent) : (j.event now e).part = j.part := by
  unfold Jrn.event
  split_ifs
  · rfl
  · rfl
  · unfold Jrn.pushLost
    split_ifs <;> rfl
  · rfl

/-- A component that comes into force at a reset touches the journal, not its partition, and its slot. -/
theorem State.activateAtReset_eq (s : State) (q : Peat) (component : Nat) :
    ∃ j sl, s.activateAtReset q component = { s with core := { s.core with jrn := j }, peat := { s.peat with slots := sl } } ∧ j.part = s.core.jrn.part := by
  unfold State.activateAtReset
  split
  · exact ⟨_, _, rfl, Jrn.event_part _ _ _⟩
  · exact ⟨_, _, rfl, rfl⟩

/-- A cold reset clears, but for the journal's events and the slots of what comes into force. -/
theorem State.coldReset_eq (s : State) :
    ∃ j sl, s.coldReset = { s.cleared with core := { s.cleared.core with jrn := j }, peat := { s.cleared.peat with slots := sl } } ∧ j.part = s.core.jrn.part := by
  obtain ⟨j, sl, h, hpart⟩ := s.cleared.activateAtReset_eq s.peat 1
  obtain ⟨j', sl', h', hpart'⟩ := (s.cleared.activateAtReset s.peat 1).activateAtReset_eq s.peat 2
  refine ⟨j', sl', h'.trans ?_, hpart'.trans ?_⟩
  · rw [h]
  · rw [h]
    exact hpart

/-! ## The power-fail flush before a reset -/

/-- The flush touches admission, the peat store and the core. -/
theorem State.part_flushed {α : Type} (part : State → α) (hcore : ∀ s f, part (State.mapCore s f) = part s) (hpeat : ∀ (s : State) (q : Peat), part { s with peat := q } = part s)
    (hpwr : ∀ (s : State) (q : Pwr), part { s with pwr := q } = part s) (s : State) : part s.flushed = part s := by
  have hdone (t : State) : part (t.flushDone []) = part t := by
    unfold State.flushDone
    split
    · rfl
    · exact (hcore _ _).trans (hpeat _ _)
  have hfail : part s.powerFail = part s := by
    unfold State.powerFail
    split
    · rfl
    · exact (hcore _ _).trans ((hpeat { s with pwr := { s.pwr with admitStopped := true } } _).trans (hpwr _ _))
  unfold State.flushed
  rw [hdone]
  split
  · rfl
  · exact hfail

@[simp] theorem State.flushed_mem (s : State) : s.flushed.mem = s.mem := State.part_flushed State.mem (fun _ _ => rfl) (fun _ _ => rfl) (fun _ _ => rfl) s

@[simp] theorem State.flushed_sec (s : State) : s.flushed.sec = s.sec := State.part_flushed State.sec (fun _ _ => rfl) (fun _ _ => rfl) (fun _ _ => rfl) s

/-! ## The three resets -/

theorem State.resetEvent_eq (s : State) (cold : Bool) (cause : Nat) : ∃ j, s.resetEvent cold cause = { s with core := { s.core with jrn := j } } ∧ j.part = s.core.jrn.part := ⟨_, rfl, Jrn.event_part _ _ _⟩

theorem exec_coldReset_eq (s : State) :
    ∃ j sl, exec .coldReset s = .next (s.kept { s.cleared with core := { s.cleared.core with jrn := j }, peat := { s.cleared.peat with slots := sl } }) ∧ j.part = s.core.jrn.part := by
  obtain ⟨j, sl, h, hpart⟩ := s.coldReset_eq
  obtain ⟨j', h', hpart'⟩ := s.coldReset.resetEvent_eq true 2
  refine ⟨j', sl, ?_, hpart'.trans ?_⟩
  · change s.ends (s.coldReset.resetEvent true 2) = _
    rw [h', h, State.ends_eq]
  · rw [h]
    exact hpart

theorem exec_warmReset_of_not_held {s : State} (hheld : s.pwr.held = false) : exec .warmReset s = .next (s.kept (s.flushed.warmReset.resetEvent false 2)) :=
  s.ends_ite_neg (Bool.eq_false_iff.mp hheld)

/-- What a warm reset keeps and what it clears (Table 18.7, R586). -/
theorem State.warmReset_keeps (s : State) :
    s.warmReset.mem.dram = dramKept s.mem.dram ∧ s.warmReset.sec.meas = s.sec.meas ∧ s.warmReset.sec.measCount = s.sec.measCount ∧ s.warmReset.mem.a = s.mem.a.warm ∧ s.warmReset.mem.b = s.mem.b.warm ∧
      s.warmReset.srf = Srf.cold ∧ s.warmReset.led = Led.cold ∧ s.warmReset.core.ready = false ∧ s.warmReset.peat.flushing = false := by
  obtain ⟨j, sl, h, -⟩ := s.coldReset_eq
  unfold State.warmReset
  rw [h]
  exact ⟨rfl, rfl, rfl, rfl, rfl, rfl, rfl, rfl, rfl⟩

/-! ## Measuring -/

section
variable (s : State) (n : Nat)

/-- Extending a register touches the measurements. -/
theorem State.extend_eq (bs : List Byte) : ∃ a b c, s.extend n bs = { s with sec := { s.sec with meas := a, measCount := b, measLog := c } } := ⟨_, _, _, rfl⟩

theorem State.extendDigest_eq (d : List Byte) : ∃ a b c, s.extendDigest n d = { s with sec := { s.sec with meas := a, measCount := b, measLog := c } } := ⟨_, _, _, rfl⟩

/-- A region that the ROM locks touches the regions and the measurements. -/
theorem State.romRegion_eq (first last read write : Nat) : ∃ a b c r, s.romRegion n first last read write = { s with sec := { s.sec with meas := a, measCount := b, measLog := c, sramRgn := r } } := ⟨_, _, _, _, rfl⟩

end

/-! ## Powering domains on -/

/-- Domains that the boot powers on, each with its event (Table 18.6). -/
def State.powersOn (s : State) (ds : List Nat) : State := ds.foldl (fun t d => (t.setDom d .on).domEvent d .on 3) s

theorem State.part_powersOn {α : Type} (part : State → α) (hcore : ∀ s f, part (State.mapCore s f) = part s) (hpwr : ∀ (s : State) (q : Pwr), part { s with pwr := q } = part s) (s : State) (ds : List Nat) :
    part (s.powersOn ds) = part s := foldl_keeps part (fun t d => (hcore (t.setDom d .on) _).trans (hpwr t _)) ds s

theorem State.domSt_setDom (s : State) (d e : Nat) (st : DomSt) : (s.setDom d st).domSt e = if e = d then st else s.domSt e := by
  unfold State.domSt State.setDom Tbl.at
  split
  · subst e
    rw [Tbl.find_put_same]
    rfl
  · rw [Tbl.find_put_ne _ _ ‹_›]

theorem State.domSt_powersOn (s : State) (ds : List Nat) (e : Nat) : (s.powersOn ds).domSt e = if e ∈ ds then .on else s.domSt e := by
  induction ds generalizing s with
  | nil => rfl
  | cons d ds ih =>
    have hstep : ((s.setDom d .on).domEvent d .on 3).domSt e = if e = d then .on else s.domSt e := s.domSt_setDom d e .on
    change (((s.setDom d .on).domEvent d .on 3).powersOn ds).domSt e = _
    rw [ih, hstep]
    by_cases hd : e = d <;> by_cases hds : e ∈ ds <;> simp [hd, hds]

/-! ## The first stage (Table 15.5, Table 18.6) -/

/-- A group that is not lost goes to training. -/
def MemGroup.trains (g : MemGroup) : MemGroup := if g.lost then g else { g with st := .training }

/-- The three regions of Warden SRAM that the ROM sets and locks (R184). -/
def State.romRegions (s : State) : State := ((s.romRegion 0 0 0xFFF 0x0A 0x08).romRegion 1 0x1000 0x17FF 0x2A 0x2A).romRegion 2 0x1800 0x1FFF 0x91 0x91

theorem State.romRegions_eq (s : State) : ∃ a b c r, s.romRegions = { s with sec := { s.sec with meas := a, measCount := b, measLog := c, sramRgn := r } } := by
  obtain ⟨_, _, _, _, h⟩ := s.romRegion_eq 0 0 0xFFF 0x0A 0x08
  obtain ⟨_, _, _, _, h'⟩ := (s.romRegion 0 0 0xFFF 0x0A 0x08).romRegion_eq 1 0x1000 0x17FF 0x2A 0x2A
  obtain ⟨a, b, c, r, h''⟩ := ((s.romRegion 0 0 0xFFF 0x0A 0x08).romRegion 1 0x1000 0x17FF 0x2A 0x2A).romRegion_eq 2 0x1800 0x1FFF 0x91 0x91
  refine ⟨a, b, c, r, h''.trans ?_⟩
  rw [h', h]

/-- The first stage's image is measured (Table 15.6). -/
def State.stageMeasured (s : State) (m : Memory) (fromB : Bool) : State := { s.extendDigest 1 (imgDigest m) with sec := { (s.extendDigest 1 (imgDigest m)).sec with bootedB := fromB } }

theorem State.stageMeasured_eq (s : State) (m : Memory) (fromB : Bool) : ∃ a b c, s.stageMeasured m fromB = { s with sec := { s.sec with meas := a, measCount := b, measLog := c, bootedB := fromB } } := ⟨_, _, _, rfl⟩

/-- The first stage sets the partitions' attributes and counts the boots of firmware on trial (R534, R548). -/
def State.setsParts (s : State) : State :=
  { s with peat := { s.peat with attrs := partAttrs, slots := Tbl.mapVals s.peat.slots (fun _ x => if x.trial.isSome then { x with trialBoots := x.trialBoots + 1 } else x) } }

/-- The first stage before it powers domains on. -/
def State.stageSet (s : State) (m : Memory) (fromB : Bool) : State := (s.stageMeasured m fromB).romRegions.setsParts

theorem State.stageSet_eq (s : State) (m : Memory) (fromB : Bool) :
    ∃ a b c r q, s.stageSet m fromB = { s with sec := { s.sec with meas := a, measCount := b, measLog := c, sramRgn := r, bootedB := fromB }, peat := q } := by
  obtain ⟨_, _, _, hmeas⟩ := s.stageMeasured_eq m fromB
  obtain ⟨a, b, c, r, hregions⟩ := (s.stageMeasured m fromB).romRegions_eq
  refine ⟨a, b, c, r, (s.stageMeasured m fromB).romRegions.setsParts.peat, ?_⟩
  unfold State.stageSet
  rw [hregions, hmeas]
  rfl

/-- Both groups that are not lost go to training. -/
def State.trainsGroups (s : State) : State := { s with mem := { s.mem with a := s.mem.a.trains, b := s.mem.b.trains } }

theorem State.firstStage_eq (s : State) (m : Memory) (fromB : Bool) : s.firstStage m fromB = ((s.stageSet m fromB).powersOn [2, 3, 5, 6, 7]).trainsGroups := rfl

theorem State.bootLink_of_common {s : State} {lo hi v : Nat} (h : commonVersion 0x10 0x12 lo hi = some v) :
    ∃ k key, s.bootLink lo hi = ({ s with core := k, lnk := { s.lnk with verMajor := v / 16, verMinor := v % 16, up := true, sessionKey := key } } : State).powersOn [0, 11] := by
  unfold State.bootLink
  rw [h]
  exact ⟨_, _, rfl⟩

/-- The link's training leaves alone what neither the core, the link nor the domains hold. -/
theorem State.part_bootLink {α : Type} (part : State → α) (hcore : ∀ s f, part (State.mapCore s f) = part s) (hpwr : ∀ (s : State) (q : Pwr), part { s with pwr := q } = part s)
    (hlnk : ∀ (s : State) (k : Core) (q : Lnk), part { s with core := k, lnk := q } = part s) {s : State} {lo hi v : Nat} (h : commonVersion 0x10 0x12 lo hi = some v) : part (s.bootLink lo hi) = part s := by
  obtain ⟨k, key, hlink⟩ := State.bootLink_of_common (s := s) h
  rw [hlink, State.part_powersOn part hcore hpwr, hlnk]

theorem State.bootImage_of_signed {s : State} (hwhole : imgWhole (Tbl.at s.peat.images [] (imgKey 0 1)) 1 = true) (hsigned : imgSigned s.fix (Tbl.at s.peat.images [] (imgKey 0 1)) = true)
    (hrollback : s.sec.rollback ≤ imgField (Tbl.at s.peat.images [] (imgKey 0 1)) 11 1) : s.bootImage = s.firstStage (Tbl.at s.peat.images [] (imgKey 0 1)) false := by
  simp only [State.bootImage, hwhole, hsigned, Bool.not_true, Bool.false_eq_true, if_false, if_neg (not_lt.mpr hrollback)]

section
variable (s : State) (m : Memory) (fromB : Bool)

theorem State.firstStage_lnk : (s.firstStage m fromB).lnk = s.lnk := by
  obtain ⟨_, _, _, _, _, h⟩ := s.stageSet_eq m fromB
  have hon : ((s.stageSet m fromB).powersOn [2, 3, 5, 6, 7]).lnk = (s.stageSet m fromB).lnk := State.part_powersOn State.lnk (fun _ _ => rfl) (fun _ _ => rfl) _ _
  rw [State.firstStage_eq, State.trainsGroups, hon, h]

theorem State.firstStage_sec : ∃ a b c r, (s.firstStage m fromB).sec = { s.sec with meas := a, measCount := b, measLog := c, sramRgn := r, bootedB := fromB } := by
  obtain ⟨a, b, c, r, _, h⟩ := s.stageSet_eq m fromB
  have hon : ((s.stageSet m fromB).powersOn [2, 3, 5, 6, 7]).sec = (s.stageSet m fromB).sec := State.part_powersOn State.sec (fun _ _ => rfl) (fun _ _ => rfl) _ _
  refine ⟨a, b, c, r, ?_⟩
  rw [State.firstStage_eq, State.trainsGroups, hon, h]

theorem State.firstStage_mem : (s.firstStage m fromB).mem = { s.mem with a := s.mem.a.trains, b := s.mem.b.trains } := by
  obtain ⟨_, _, _, _, _, h⟩ := s.stageSet_eq m fromB
  have hon : ((s.stageSet m fromB).powersOn [2, 3, 5, 6, 7]).mem = (s.stageSet m fromB).mem := State.part_powersOn State.mem (fun _ _ => rfl) (fun _ _ => rfl) _ _
  rw [State.firstStage_eq, State.trainsGroups, hon, h]

theorem State.domSt_firstStage (d : Nat) : (s.firstStage m fromB).domSt d = if d ∈ [2, 3, 5, 6, 7] then .on else s.domSt d := by
  obtain ⟨_, _, _, _, _, h⟩ := s.stageSet_eq m fromB
  have hset : (s.stageSet m fromB).domSt d = s.domSt d := by
    rw [h]
    rfl
  have htrain (t : State) : t.trainsGroups.domSt d = t.domSt d := rfl
  rw [State.firstStage_eq, htrain, State.domSt_powersOn, hset]

end

/-- What the boot leaves from the link on: the link up at the common version, the first stage's domains on, the groups in training (Table 18.6). -/
theorem State.bootImage_bootLink {s : State} {lo hi v : Nat} (hversion : commonVersion 0x10 0x12 lo hi = some v) (hwhole : imgWhole (Tbl.at s.peat.images [] (imgKey 0 1)) 1 = true)
    (hsigned : imgSigned s.fix (Tbl.at s.peat.images [] (imgKey 0 1)) = true) (hrollback : s.sec.rollback ≤ imgField (Tbl.at s.peat.images [] (imgKey 0 1)) 11 1) :
    ((s.bootLink lo hi).bootImage.lnk.up = true ∧ (s.bootLink lo hi).bootImage.lnk.verMajor = v / 16 ∧ (s.bootLink lo hi).bootImage.lnk.verMinor = v % 16) ∧
      (∃ a b c r, (s.bootLink lo hi).bootImage.sec = { s.sec with meas := a, measCount := b, measLog := c, sramRgn := r, bootedB := false }) ∧
      (s.bootLink lo hi).bootImage.mem = { s.mem with a := s.mem.a.trains, b := s.mem.b.trains } ∧
      ∀ d, (s.bootLink lo hi).bootImage.domSt d = if d ∈ [2, 3, 5, 6, 7] then .on else if d ∈ [0, 11] then .on else s.domSt d := by
  obtain ⟨k, key, hlink⟩ := State.bootLink_of_common (s := s) hversion
  have hpeat : (s.bootLink lo hi).peat = s.peat := State.part_bootLink State.peat (fun _ _ => rfl) (fun _ _ => rfl) (fun _ _ _ => rfl) hversion
  have hfix : (s.bootLink lo hi).fix = s.fix := State.part_bootLink State.fix (fun _ _ => rfl) (fun _ _ => rfl) (fun _ _ _ => rfl) hversion
  have hsec : (s.bootLink lo hi).sec = s.sec := State.part_bootLink State.sec (fun _ _ => rfl) (fun _ _ => rfl) (fun _ _ _ => rfl) hversion
  have hmem : (s.bootLink lo hi).mem = s.mem := State.part_bootLink State.mem (fun _ _ => rfl) (fun _ _ => rfl) (fun _ _ _ => rfl) hversion
  have hlnk : (s.bootLink lo hi).lnk = { s.lnk with verMajor := v / 16, verMinor := v % 16, up := true, sessionKey := key } := by
    rw [hlink]
    exact State.part_powersOn State.lnk (fun _ _ => rfl) (fun _ _ => rfl) _ _
  have hstage : (s.bootLink lo hi).bootImage = (s.bootLink lo hi).firstStage (Tbl.at s.peat.images [] (imgKey 0 1)) false := by
    rw [State.bootImage_of_signed (by rw [hpeat]; exact hwhole) (by rw [hpeat, hfix]; exact hsigned) (by rw [hpeat, hsec]; exact hrollback), hpeat]
  rw [hstage, State.firstStage_lnk, hlnk, State.firstStage_mem, hmem]
  refine ⟨⟨rfl, rfl, rfl⟩, ?_, rfl, fun d => ?_⟩
  · rw [← hsec]
    exact State.firstStage_sec _ _ _
  · rw [State.domSt_firstStage, hlink, State.domSt_powersOn]
    rfl

/-! ## The boot from power-on -/

/-- The boot up to the fuse image: the Warden's domains on, the boot counted, held tampers answered. -/
def State.bootBegins (s : State) : State := ({ s.powersOn [8, 9] with sec := { (s.powersOn [8, 9]).sec with bootCount := (s.powersOn [8, 9]).sec.bootCount + 1 } } : State).heldTampers

/-- The fuse image and both ROMs measured (Table 15.6). -/
def State.romsMeasured (s : State) (f glyph coef : List Byte) : State := ((s.extend 0 (le 48 Config.romImage.toNat ++ f)).extend 7 glyph).extend 6 coef

theorem State.romsMeasured_eq (s : State) (f glyph coef : List Byte) : ∃ a b c, s.romsMeasured f glyph coef = { s with sec := { s.sec with meas := a, measCount := b, measLog := c } } := by
  obtain ⟨_, _, _, h⟩ := s.extend_eq 0 (le 48 Config.romImage.toNat ++ f)
  obtain ⟨_, _, _, h'⟩ := (s.extend 0 (le 48 Config.romImage.toNat ++ f)).extend_eq 7 glyph
  obtain ⟨a, b, c, h''⟩ := ((s.extend 0 (le 48 Config.romImage.toNat ++ f)).extend 7 glyph).extend_eq 6 coef
  refine ⟨a, b, c, h''.trans ?_⟩
  rw [h', h]

theorem State.part_bootBegins {α : Type} (part : State → α) (hcore : ∀ s f, part (State.mapCore s f) = part s) (hpwr : ∀ (s : State) (q : Pwr), part { s with pwr := q } = part s)
    (hsec : ∀ (s : State) (q : Sec), part { s with sec := q } = part s) {s : State} (hheld : s.sec.tamperHeld = []) : part s.bootBegins = part s := by
  have hsecOn : (s.powersOn [8, 9]).sec = s.sec := State.part_powersOn State.sec (fun _ _ => rfl) (fun _ _ => rfl) _ _
  unfold State.bootBegins State.heldTampers
  dsimp only
  rw [hsecOn, hheld, List.foldl_nil, hsec, State.part_powersOn part hcore hpwr]

theorem State.bootBegins_sec {s : State} (hheld : s.sec.tamperHeld = []) : s.bootBegins.sec = { s.sec with bootCount := s.sec.bootCount + 1, tamperHeld := [] } := by
  have hsecOn : (s.powersOn [8, 9]).sec = s.sec := State.part_powersOn State.sec (fun _ _ => rfl) (fun _ _ => rfl) _ _
  unfold State.bootBegins State.heldTampers
  dsimp only
  rw [hsecOn, hheld, List.foldl_nil]

theorem State.domSt_bootBegins {s : State} (hheld : s.sec.tamperHeld = []) (d : Nat) : s.bootBegins.domSt d = if d ∈ [8, 9] then .on else s.domSt d := by
  have hsecOn : (s.powersOn [8, 9]).sec = s.sec := State.part_powersOn State.sec (fun _ _ => rfl) (fun _ _ => rfl) _ _
  rw [← State.domSt_powersOn]
  unfold State.bootBegins State.heldTampers
  dsimp only
  rw [hsecOn, hheld, List.foldl_nil]
  rfl

/-- The boot up to the link leaves all but the measurements, the count of boots, the held tampers and the Warden's domains. -/
theorem State.romsMeasured_bootBegins {s : State} (f glyph coef : List Byte) (hheld : s.sec.tamperHeld = []) :
    (s.bootBegins.romsMeasured f glyph coef).peat = s.peat ∧ (s.bootBegins.romsMeasured f glyph coef).fix = s.fix ∧ (s.bootBegins.romsMeasured f glyph coef).mem = s.mem ∧
      (∃ a b c, (s.bootBegins.romsMeasured f glyph coef).sec = { s.sec with bootCount := s.sec.bootCount + 1, tamperHeld := [], meas := a, measCount := b, measLog := c }) ∧
      ∀ d, (s.bootBegins.romsMeasured f glyph coef).domSt d = if d ∈ [8, 9] then .on else s.domSt d := by
  obtain ⟨a, b, c, hroms⟩ := s.bootBegins.romsMeasured_eq f glyph coef
  rw [hroms]
  refine ⟨?_, ?_, ?_, ⟨a, b, c, ?_⟩, State.domSt_bootBegins hheld⟩
  · exact State.part_bootBegins State.peat (fun _ _ => rfl) (fun _ _ => rfl) (fun _ _ => rfl) hheld
  · exact State.part_bootBegins State.fix (fun _ _ => rfl) (fun _ _ => rfl) (fun _ _ => rfl) hheld
  · exact State.part_bootBegins State.mem (fun _ _ => rfl) (fun _ _ => rfl) (fun _ _ => rfl) hheld
  · exact congrArg (fun q : Sec => { q with meas := a, measCount := b, measLog := c }) (State.bootBegins_sec hheld)

section
variable {s : State} (hrun : s.sec.run = .booting) (hhalted : s.sec.bootHalted = false) (hheld : s.pwr.held = false) (hdom : s.domSt 8 ≠ .on)
include hrun hhalted hheld hdom

theorem not_held_back_of_booting : ¬ (s.sec.run ≠ .booting ∨ s.sec.bootHalted = true ∨ s.pwr.held = true ∨ s.domSt 8 = .on) := by
  rw [hrun, hhalted, hheld]
  simp [hdom]

theorem exec_fiddleheadBoot_of_no_fuses (roms : Option (List Byte × List Byte)) (lo hi : Nat) : exec (.fiddleheadBoot none roms lo hi) s = .next (s.kept (s.bootBegins.bootHalt 0x0B10)) :=
  s.ends_ite_neg (not_held_back_of_booting hrun hhalted hheld hdom)

theorem exec_fiddleheadBoot_of_measured (f glyph coef : List Byte) {lo hi : Nat} (hlink : ((s.bootBegins.romsMeasured f glyph coef).bootLink lo hi).sec.bootHalted = false) :
    exec (.fiddleheadBoot (some f) (some (glyph, coef)) lo hi) s = .next (s.kept ((s.bootBegins.romsMeasured f glyph coef).bootLink lo hi).bootImage) := by
  refine (s.ends_ite_neg (not_held_back_of_booting hrun hhalted hheld hdom)).trans ?_
  exact congrArg (fun t => Host.Outcome.next (s.kept t)) (if_neg (Bool.eq_false_iff.mp hlink))

end

/-! ## PWR_READY (R579, R638) -/

theorem Core.syncCb_ready (c : Core) (inst idx : Nat) : (c.syncCb inst idx).ready = c.ready := by
  unfold Core.syncCb
  split
  · rfl
  · obtain ⟨_, _, _, h⟩ := Core.wr2_eq inst _ c _
    rw [h]

/-- A slice that opens is there, and PWR_READY stays as it is. -/
theorem Core.openSlice_opens (c : Core) (inst idx : Nat) (sl : Slice) : (c.openSlice inst idx sl).ready = c.ready ∧ ((c.openSlice inst idx sl).slice inst idx).isSome = true := by
  unfold Core.openSlice
  generalize (if inst = 0 ∧ idx = 0 then c.slice0Cb else sl.cb) = cb
  dsimp only
  by_cases hcb : cb = 0 ∨ cb % 4096 ≠ 0
  · rw [if_pos hcb, Core.slice, Tbl.find_put_same]
    exact ⟨rfl, rfl⟩
  · rw [if_neg hcb, Core.slice, Core.syncCb_slices, Tbl.find_put_same, Core.syncCb_ready]
    exact ⟨rfl, rfl⟩

/-- The firmware of the active slots and the Canvas identity measured (Table 15.6). -/
def State.firmwareMeasured (s : State) : State :=
  (((s.extendDigest 2 (imgDigest (s.peat.image 2 (s.peat.slot 2).active))).extendDigest 3 (imgDigest (s.peat.image 3 (s.peat.slot 3).active))).extendDigest 4 (imgDigest (s.peat.image 4 (s.peat.slot 4).active))).extend 5
    (le 48 Config.canvasIdentity.toNat ++ le 1 s.lnk.verMajor ++ le 1 s.lnk.verMinor)

/-- PWR_READY high but for the dump's move: the SEC runs, MGMT has measured the hold-up, PF slice 0 is open. -/
def State.readied (s s1 : State) : State :=
  ({ s1 with sec := { s1.sec with run := .running, wdog := s.core.now, fwDigest := imgDigest (s.peat.image 2 (s.peat.slot 2).active) },
             peat := { s1.peat with holdup := s.fix.nand.holdup, slots := Tbl.mapVals s1.peat.slots (fun _ x => { x with trialBoots := 0 }) }, pwr := { s1.pwr with pcieTraining := s.pwr.perstHigh } } : State).mapCore
    (fun c => ({ c with ready := true } : Core).openSlice 0 0 (freshSlice 0 true c.slice0Cb 0))

theorem State.readied_serves (s s1 : State) :
    (s.readied s1).core.ready = true ∧ ((s.readied s1).core.slice 0 0).isSome = true ∧ (s.readied s1).sec.run = .running ∧ (s.readied s1).sec.wdog = s.core.now ∧ (s.readied s1).peat.holdup = s.fix.nand.holdup ∧
      (s.readied s1).pwr.pcieTraining = s.pwr.perstHigh ∧ (s.readied s1).sec.fwDigest = imgDigest (s.peat.image 2 (s.peat.slot 2).active) := by
  obtain ⟨hready, hslice⟩ := Core.openSlice_opens ({ s1.core with ready := true } : Core) 0 0 (freshSlice 0 true s1.core.slice0Cb 0)
  exact ⟨hready, hslice, rfl, rfl, rfl, rfl, rfl⟩

theorem State.firmwareMeasured_peat (s : State) : s.firmwareMeasured.peat = s.peat := by
  obtain ⟨_, _, _, h⟩ := s.extendDigest_eq 2 (imgDigest (s.peat.image 2 (s.peat.slot 2).active))
  unfold State.firmwareMeasured
  rw [h]
  rfl

theorem State.storeDump_of_none {s : State} (h : s.peat.dumpArea = none) : s.storeDump = s := by
  unfold State.storeDump
  rw [h]

theorem exec_pwrReadyHigh_of_booted {s : State} (hready : s.core.ready = false) (hrun : s.sec.run = .booting) (hhalted : s.sec.bootHalted = false) (hdom : s.domSt 7 = .on) (hdump : s.peat.dumpArea = none) :
    exec .pwrReadyHigh s = .next (s.kept (s.readied s.firmwareMeasured)) := by
  have hgo : ¬ (s.core.ready = true ∨ s.sec.run ≠ .booting ∨ s.sec.bootHalted = true ∨ s.domSt 7 ≠ .on) := by
    rw [hready, hrun, hhalted, hdom]
    decide
  refine (s.ends_ite_neg hgo).trans (congrArg (fun t => Host.Outcome.next (s.kept t)) ?_)
  refine State.storeDump_of_none (s := s.readied s.firmwareMeasured) ?_
  rw [← hdump, ← s.firmwareMeasured_peat]
  rfl

/-- Settles O48: the resets clear through `State.cleared`; the boot's stages leave what their equations say. -/
theorem resetsAndBootComplete : Obligations.ResetsAndBootComplete := by
  unfold Obligations.ResetsAndBootComplete
  refine ⟨⟨?_, ?_, ?_, ?_, ?_, ?_⟩, ?_, ?_, ?_, ?_, ?_⟩
  · intro s
    obtain ⟨j, sl, h, hpart⟩ := exec_coldReset_eq s
    exact ⟨_, h, rfl, rfl, rfl, rfl, rfl, rfl, rfl, rfl, rfl, rfl, rfl, rfl, rfl, rfl, hpart, rfl, rfl⟩
  · intro s hheld
    obtain ⟨j, hevent, -⟩ := s.flushed.warmReset.resetEvent_eq false 2
    obtain ⟨hdram, hmeas, hcount, ha, hb, hsrf, hled, hready, hflush⟩ := s.flushed.warmReset_keeps
    refine ⟨_, exec_warmReset_of_not_held hheld, ?_⟩
    rw [hevent, State.kept_mem, State.kept_sec, State.kept_srf, State.kept_led, State.kept_core, State.kept_peat]
    rw [State.flushed_mem] at hdram ha hb
    rw [State.flushed_sec] at hmeas hcount
    exact ⟨hdram, hmeas, hcount, congrArg MemGroup.st ha, congrArg MemGroup.st hb, hsrf, hled, hready, hflush⟩
  · intro s
    obtain ⟨j, sl, h, -⟩ := s.coldReset_eq
    refine ⟨_, rfl, rfl, rfl, rfl, ?_, ?_⟩
    · change s.coldReset.mem.dram = []
      rw [h]
      rfl
    · change s.coldReset.peat.stored = _
      rw [h]
      rfl
  · exact fun s _ _ hdue => s.ends_ite_neg (by rw [hdue]; decide)
  · intro s hmgmt hdom
    refine s.ends_ite_neg ?_
    rintro (h | h)
    · rw [hmgmt] at h
      exact Bool.false_ne_true h
    · exact h hdom
  · exact fun _ => rfl
  · intro s f glyph coef lo hi v hrun hhalted hheld hdom htampers hversion hwhole hsigned hrollback
    have hexec := exec_fiddleheadBoot_of_measured (lo := lo) (hi := hi) hrun hhalted hheld hdom f glyph coef
    obtain ⟨hpeat, hfix, hmem, ⟨_, _, _, hsec⟩, hdoms⟩ := State.romsMeasured_bootBegins f glyph coef htampers
    generalize s.bootBegins.romsMeasured f glyph coef = u at hexec hpeat hfix hmem hsec hdoms
    rw [← hpeat] at hwhole hsigned hrollback
    rw [← hfix] at hsigned
    have hkept : s.sec.rollback = u.sec.rollback := by rw [hsec]
    have hlinked : (u.bootLink lo hi).sec.bootHalted = false := by
      rw [State.part_bootLink State.sec (fun _ _ => rfl) (fun _ _ => rfl) (fun _ _ _ => rfl) hversion, hsec]
      exact hhalted
    obtain ⟨hlink, ⟨_, _, _, _, hstage⟩, hgroups, hon⟩ := State.bootImage_bootLink hversion hwhole hsigned (hkept ▸ hrollback)
    obtain ⟨hup, hmajor, hminor⟩ := hlink
    refine ⟨_, hexec hlinked, ?_⟩
    rw [State.kept_sec, State.kept_lnk, State.kept_mem, hstage, hgroups, hmem, hsec]
    refine ⟨hhalted, rfl, rfl, hup, hmajor, hminor, apply_ite MemGroup.st _ _ _, apply_ite MemGroup.st _ _ _, fun d hd => ?_⟩
    change State.domSt (State.bootImage _) d = _
    rw [hon, hdoms]
    fin_cases hd <;> rfl
  · intro s lo hi roms hrun hhalted hheld hdom
    refine ⟨_, exec_fiddleheadBoot_of_no_fuses hrun hhalted hheld hdom roms lo hi, ?_⟩
    rw [State.kept_sec, State.bootHalt]
    exact ⟨rfl, rfl⟩
  · intro s hready hrun hhalted hdom hdump
    refine ⟨_, exec_pwrReadyHigh_of_booted hready hrun hhalted hdom hdump, ?_⟩
    rw [State.kept_sec, State.kept_core, State.kept_peat, State.kept_pwr]
    exact s.readied_serves s.firmwareMeasured
  · exact fun _ => rfl
  · intro s d hst hdeps
    refine s.ends_ite_neg ?_
    rintro (h | h)
    · exact h hst
    · rw [hdeps] at h
      exact absurd h (by decide)

end Sys2Proof.Machine
end

section
/-! # The peat store's commands, firmware and captures

The branches of the commands, and the ends of an activation, a fallback and a capture (R533 to R551). -/
namespace Sys2Proof.Machine

/-! ## What a completion leaves alone -/

/-- A waiting command that finishes touches the core alone. -/
theorem State.part_finish {α : Type} (part : State → α) (hcore : ∀ (s : State) (k : Core), part { s with core := k } = part s) (s : State) (o : Owed) (r : Rsp) : part (s.finish o r) = part s := by
  unfold State.finish
  dsimp only
  split
  · split
    · exact hcore _ _
    · exact hcore _ _
  · split
    · rfl
    · split
      · split
        · exact hcore s _
        · exact hcore s _
      · exact hcore _ _

theorem State.part_finishWhere {α : Type} (part : State → α) (hcore : ∀ (s : State) (k : Core), part { s with core := k } = part s) (s : State) (pick : Owed → Bool) (rsp : Owed → Rsp) :
    part (s.finishWhere pick rsp) = part s := (foldl_keeps part (fun t o => t.part_finish part hcore o _) _ _).trans (hcore s _)

/-! ## Commands -/

section
variable {z : State} (w : Who) {p : Packet}

theorem cmdPeatCapture_run_of_region {r : Nat × Nat × Bool} (h : z.captureRegion (pkUnit p) = some r) :
    cmdPeatCapture.run z w p = .silent (z.newWork.1.requestCapture 1 (pkUnit p) r.1 (if pkW p 1 = 0 then z.nextLatch r.1 else pkW p 1) (pkW p 2) r.2.1 z.core.nextWork) (.work z.core.nextWork) := by
  simp only [cmdPeatCapture, h]
  rfl

/-- Stored bytes that the partition's attributes let the host read. -/
theorem State.readStored_of_held {part : Nat} {bs : List Byte} {len : Nat} (hread : z.partPermits part 6 false = true) :
    z.readStored w p part (some (bs, len)) = z.answer w (pkW p 2) ((bs.drop (pkW p 1)).take (pkW p 3)) (Rsp.ok ((bs.drop (pkW p 1)).take (pkW p 3)).length len 0) := by
  unfold State.readStored
  rw [hread]
  rfl

theorem cmdPeatUpdateWrite_run_of_read {z1 : State} {bs : List Byte} (hread : z.hostRead w (pkW p 2) (pkW p 3) = (z1, .ok bs)) (hwrite : z1.partPermits (uIdx (pkUnit p)) 4 true = true) :
    cmdPeatUpdateWrite.run z w p =
      .done { z1 with peat := { z1.peat with images := Tbl.put z1.peat.images (imgKey (uIdx (pkUnit p)) (pkW p 0)) (Memory.wrN (Tbl.at z1.peat.images [] (imgKey (uIdx (pkUnit p)) (pkW p 0))) (pkW p 1) bs),
                                             committed := Tbl.del z1.peat.committed (imgKey (uIdx (pkUnit p)) (pkW p 0)) } } (Rsp.plain .served) := by
  simp only [cmdPeatUpdateWrite, hread, hwrite, Bool.not_true, Bool.false_eq_true, if_false]

/-- An image that is signed, whole and of the component named. -/
theorem cmdPeatUpdateCommit_run_of_verified {k : Nat} (hk : imgKey (uIdx (pkUnit p)) (pkW p 0) = k) (hread : z.partPermits (uIdx (pkUnit p)) 4 false = true) (hsigned : imgSigned z.fix (Tbl.at z.peat.images [] k) = true)
    (hbody : imgBody (Tbl.at z.peat.images [] k) = true) (hcomponent : imgField (Tbl.at z.peat.images [] k) 10 1 = pkW p 0) :
    cmdPeatUpdateCommit.run z w p =
      .done { z with peat := { z.peat with committed := Tbl.put z.peat.committed k (imgDigest (Tbl.at z.peat.images [] k)),
                                           images := if k = imgKey 1 1 then Tbl.put z.peat.images (imgKey 0 1) (Tbl.at z.peat.images [] k) else z.peat.images } }
        (Rsp.code .served (ofLe ((imgDigest (Tbl.at z.peat.images [] k)).take 4))) := by
  subst k
  simp only [cmdPeatUpdateCommit, hread, hsigned, hbody, hcomponent, Bool.not_true, bne_self_eq_false, Bool.false_eq_true, if_false]

theorem cmdPeatActivate_run_of_schedules (hword : pkW p 1 = 0) (hnew : pkW p 0 ∉ z.peat.activating) :
    cmdPeatActivate.run z w p = .silent { z with peat := { z.peat with activating := z.peat.activating ++ [pkW p 0] } } (.unit (uid 0x80 (pkW p 0) 0)) := by
  have hout : z.peat.activating.contains (pkW p 0) = false := by rw [List.contains_eq_mem, decide_eq_false hnew]
  refine (if_neg (not_not.mpr hword)).trans ?_
  rw [hout]
  rfl

theorem cmdPeatActivate_run_of_confirms (hword : pkW p 1 = 1) :
    cmdPeatActivate.run z w p = .done { z with peat := { z.peat with slots := Tbl.put z.peat.slots (pkW p 0) { z.peat.slot (pkW p 0) with trial := none, trialBoots := 0 } } } (Rsp.plain .served) := by
  have hconfirm : isConfirm p = true := by rw [isConfirm, hword]; rfl
  have hkeep : bitOf (pkW p 1) 1 = false := by rw [hword]; rfl
  refine (if_pos (by rw [hword]; decide)).trans ?_
  simp only [hconfirm, hkeep, Bool.false_and, Bool.false_eq_true, if_false, if_true]

end

/-- Settles O49: the commands are the branches of their meanings. -/
theorem peatCommandsComplete : Obligations.PeatCommandsComplete := by
  unfold Obligations.PeatCommandsComplete
  refine ⟨?_, ?_, ?_, ?_, ?_, ?_, ?_, ?_, ?_, ?_, ?_⟩
  · exact cmdPeatFormat.serves_of _ _ _ (fun _ _ => rfl) fun _ _ _ _ _ => ⟨rfl, rfl⟩
  · exact cmdPeatStatus.answers_of _ _ _ (fun _ _ => rfl) fun _ _ _ _ _ => rfl
  · refine cmdPeatCapture.starts_of _ _ _ (fun _ _ => rfl) fun z w p hg _ => ?_
    obtain ⟨r, hr⟩ := Option.isSome_iff_exists.mp hg
    simp only [hr, Option.getD_some]
    exact cmdPeatCapture_run_of_region w hr
  · refine cmdPeatCaptureRead.answers_of _ _ _ (fun _ _ => rfl) fun z w p hg _ => ?_
    obtain ⟨hread, c, hc⟩ := hg
    change z.readStored w p 5 _ = _
    simp only [hc, Option.map_some, Option.elim_some]
    exact State.readStored_of_held w hread
  · exact cmdPeatRetainSet.serves_of _ _ _ (fun _ _ => rfl) fun _ _ _ _ _ => ⟨rfl, rfl⟩
  · refine cmdPeatUpdateWrite.serves_of _ _ _ (fun _ _ => rfl) fun z w p hg _ => ?_
    obtain ⟨⟨bs, hbs⟩, hwrite⟩ := hg
    simp only [hbs]
    exact ⟨cmdPeatUpdateWrite_run_of_read w (State.hostRead_of_ok hbs) hwrite, rfl⟩
  · refine cmdPeatUpdateCommit.serves_of _ _ _ (fun _ _ => rfl) fun z w p hg _ => ?_
    obtain ⟨hread, hsigned, hbody, hcomponent⟩ := hg
    exact ⟨cmdPeatUpdateCommit_run_of_verified w rfl hread hsigned hbody hcomponent, rfl⟩
  · exact cmdPeatActivate.starts_of _ _ _ (fun _ _ => rfl) fun _ w _ hg _ => cmdPeatActivate_run_of_schedules w hg.1 hg.2
  · exact cmdPeatActivate.serves_of _ _ _ (fun _ _ => rfl) fun _ w _ hword _ => ⟨cmdPeatActivate_run_of_confirms w hword, rfl⟩
  · refine cmdPeatDumpRead.answers_of _ _ _ (fun _ _ => rfl) fun z w p hg _ => ?_
    obtain ⟨hread, d, hd⟩ := hg
    change z.readStored w p 7 _ = _
    simp only [hd, Option.map_some, Option.elim_some]
    exact State.readStored_of_held w hread
  · exact cmdPeatLogRead.answers_of _ _ _ (fun _ _ => rfl) fun _ _ _ hread _ => if_neg (by rw [hread]; decide)

end Sys2Proof.Machine
end

section
/-! # Activations, captures, power failure and the flash translation layer

The ends of an activation, a fallback, a capture and the power-fail flush, and a block after a write of its entry (R529 to R549). -/
namespace Sys2Proof.Machine

/-! ## Firmware (R548, R549) -/

section
variable {s : State}

theorem exec_firmwareActivation_of_dispatch (hscheduled : 4 ∈ s.peat.activating) (hpairs : s.lnk.failedPairs = []) :
    exec (.firmwareActivation 4) s = .next (s.kept ((({ s with lnk := { s.lnk with activePair := 1 - s.lnk.activePair } } : State).extendDigest 13 ((s.peat.candidate 4).getD [])).activated 4)) := by
  have hin : s.peat.activating.contains 4 = true := List.contains_iff_mem.mpr hscheduled
  change s.ends _ = _
  rw [State.ends_eq, if_neg (by rw [hin]; decide), if_pos rfl, hpairs]
  rfl

theorem exec_firmwareActivation_of_mgmt (hscheduled : 3 ∈ s.peat.activating) (hquiet : s.mgmtQuiet = true) :
    exec (.firmwareActivation 3) s =
      .next (s.kept { (s.extendDigest 13 ((s.peat.candidate 3).getD [])).activated 3 with pwr := { ((s.extendDigest 13 ((s.peat.candidate 3).getD [])).activated 3).pwr with mgmtRestarting := true, mgmtRestartBegan := s.core.now } }) := by
  have hin : s.peat.activating.contains 3 = true := List.contains_iff_mem.mpr hscheduled
  change s.ends _ = _
  rw [State.ends_eq, if_neg (by rw [hin]; decide), if_neg (by decide), if_pos ⟨rfl, hquiet⟩]

/-- An activation leaves the measurements, and its component in its other slot, no longer scheduled. -/
theorem State.activated_peat (s : State) (c : Nat) :
    (s.activated c).peat = { s.peat with activating := s.peat.activating.filter (· != c), slots := Tbl.put s.peat.slots c ((s.peat.slot c).activate c) } :=
  State.part_finishWhere State.peat (fun _ _ => rfl) _ _ _

theorem State.activated_sec (s : State) (c : Nat) : (s.activated c).sec = s.sec := State.part_finishWhere State.sec (fun _ _ => rfl) _ _ _

theorem exec_fwTrialFallback_of_third {c : Nat} (hc : c = 2 ∨ c = 3) (htrial : (s.peat.slot c).trial.isSome = true) (hboots : 3 ≤ (s.peat.slot c).trialBoots) (hready : s.core.ready = false) :
    exec (.fwTrialFallback c) s =
      .next (s.kept (({ s with peat := { s.peat with slots := Tbl.put s.peat.slots c { active := 1 - (s.peat.slot c).active, trial := none, trialBoots := 0 } } } : State).fwEvent c true (imgDigest (s.peat.image c (1 - (s.peat.slot c).active))))) :=
  s.ends_ite_pos ⟨hc, htrial, hboots, by rw [hready]; rfl⟩

/-! ## Captures (R542 to R544) -/

theorem exec_captureStaged_of_held {id : Nat} {q : CapReq} {h : CapHeld} {sf : Surf} (hfind : s.peat.requests.find? (fun r => r.id == id) = some q) (hheld : q.held = some h) (hsurf : s.surf h.surf = some sf)
    (hdue : s.resultDue (uKey q.region) h.frame = false) (hfits : ((s.peat.staged ++ [s.makeCapture q h sf]).map (fun x => x.bytes.length)).sum ≤ s.peat.stageMib * 2 ^ 20) :
    exec (.captureStaged id) s =
      .next (s.kept (({ s with peat := { s.peat with requests := s.peat.requests.filter (fun r => r.id != id), staged := s.peat.staged ++ [s.makeCapture q h sf] } } : State).finishWhere
        (fun o => o.op == 0x0C02 && o.wait == .work q.work) (fun _ => Rsp.ok id 0 0))) := by
  change s.ends (s.stage id) = _
  unfold State.stage
  simp only [hfind, hheld, hsurf, hdue, Bool.false_eq_true, if_false, if_neg (not_lt.mpr hfits), State.ends_eq]

/-- A capture that fits frees none. -/
theorem makeRoom_of_fits {minimum capacity need f : Nat} {l : List Capture} (h : (l.map (fun c => c.stored.length)).sum + need ≤ capacity) : makeRoom minimum capacity need (f + 1) l = l := if_pos (.inl h)

theorem exec_captureStored_of_fits {id : Nat} {c : Capture} (hfind : s.peat.staged.find? (fun c => c.req.id == id) = some c) (hmgmt : s.pwr.mgmtRestarting = false) (hformat : s.peat.formatted = true) (hflush : s.peat.flushing = false)
    (hwrite : s.partPermits 5 3 true = true) (hfits : (s.peat.stored.map (fun x => x.stored.length)).sum + c.stored.length ≤ s.peat.sizes.getD 5 0 * 2 ^ 20) :
    exec (.captureStored id) s =
      .next (s.kept (({ s with peat := { s.peat with staged := s.peat.staged.filter (fun x => x.req.id != id), stored := s.peat.stored ++ [c] } } : State).mapCore (fun k => k.event 0xFEA2 0 0 id ((sha384 c.bytes).take 16)))) := by
  change s.ends (s.storeCapture id) = _
  unfold State.storeCapture
  simp only [hfind, makeRoom_of_fits hfits, hmgmt, hformat, hflush, decide_eq_false (not_lt.mpr hfits), hwrite, Bool.not_true, Bool.or_self, Bool.false_eq_true, if_false, State.ends_eq]

end

/-- Settles O50: each event is one end of its function; an activation's slot and measurement follow from what its completion leaves alone. -/
theorem firmwareAndCapturesComplete : Obligations.FirmwareAndCapturesComplete := by
  unfold Obligations.FirmwareAndCapturesComplete
  refine ⟨?_, ?_, ?_, ?_, ?_⟩
  · exact fun _ hscheduled hpairs => exec_firmwareActivation_of_dispatch hscheduled hpairs
  · intro s hscheduled hquiet
    refine ⟨_, exec_firmwareActivation_of_mgmt hscheduled hquiet, rfl, rfl, ?_⟩
    have hslot : (((s.extendDigest 13 ((s.peat.candidate 3).getD [])).activated 3).peat.slot 3) = (s.peat.slot 3).activate 3 := by
      rw [State.activated_peat, Peat.slot, Tbl.at, Tbl.find_put_same]
      rfl
    have hmeas : ((s.extendDigest 13 ((s.peat.candidate 3).getD [])).activated 3).measOf 13 = sha384 (s.measOf 13 ++ (s.peat.candidate 3).getD []) := by
      rw [← s.measOf_extendDigest_same, State.measOf, State.activated_sec]
      rfl
    refine ⟨?_, congrArg FwSlot.active hslot, congrArg FwSlot.trial hslot, hmeas⟩
    rw [State.kept_peat, State.activated_peat]
    simp
  · exact fun _ _ hc htrial hboots hready => exec_fwTrialFallback_of_third hc htrial hboots hready
  · exact fun _ _ _ _ _ hfind hheld hsurf hdue hfits => exec_captureStaged_of_held hfind hheld hsurf hdue hfits
  · exact fun _ _ _ hfind hmgmt hformat hflush hwrite hfits => exec_captureStored_of_fits hfind hmgmt hformat hflush hwrite hfits

/-! ## The power-fail flush (R535 to R539) -/

theorem Jrn.event_durable (j : Jrn) (now : Nat) (e : JEvent) : (j.event now e).durable = j.durable := by
  unfold Jrn.event
  split_ifs
  · rfl
  · rfl
  · unfold Jrn.pushLost
    split_ifs <;> rfl
  · rfl

/-- The greatest sequence among items and an earlier one is not below any of them. -/
theorem jseq_le_foldl_max (l : List JItem) (d : Nat) : d ≤ l.foldl (fun m i => max m i.jseq) d ∧ ∀ i ∈ l, i.jseq ≤ l.foldl (fun m i => max m i.jseq) d := by
  induction l generalizing d with
  | nil => exact ⟨le_rfl, fun i hi => absurd hi (List.not_mem_nil)⟩
  | cons x l ih =>
    obtain ⟨hd, hl⟩ := ih (max d x.jseq)
    rw [List.foldl_cons]
    refine ⟨(le_max_left _ _).trans hd, fun i hi => ?_⟩
    rcases List.mem_cons.mp hi with rfl | hi
    · exact (le_max_right _ _).trans hd
    · exact hl i hi

/-- The completions of what became durable leave the journal alone. -/
theorem Core.syncDone_jrn (c : Core) : c.syncDone.jrn = c.jrn := by
  unfold Core.syncDone
  exact congrArg Prod.snd (foldl_keeps Core.clockJrn (fun k (o : Owed) => k.complete_clockJrn o.who o.pk (c.durableRsp o) true true o.jseq) _ _)

section
variable {s : State} (failed : List Nat) (hflush : s.peat.flushing = true)
include hflush

theorem State.flushDone_saves :
    (s.flushDone failed).peat.flushing = false ∧ (s.flushDone failed).peat.failSaved = recordsIn s.core.jrn.buffer ∧ (s.flushDone failed).core.jrn.durable = s.core.jrn.buffer.foldl (fun m i => max m i.jseq) s.core.jrn.durable := by
  unfold State.flushDone
  rw [if_neg (by rw [hflush]; decide)]
  exact ⟨rfl, rfl, congrArg Jrn.durable (Core.syncDone_jrn _)⟩

theorem exec_powerFailFlushDone_of_supply :
    ∃ t, exec (.powerFailFlushDone true failed) s = .next t ∧ t.peat = (s.flushDone failed).peat ∧ t.pwr.admitStopped = false ∧ t.core.jrn.durable = (s.flushDone failed).core.jrn.durable := by
  have hend : exec (.powerFailFlushDone true failed) s = .next (s.kept _) := s.ends_ite_neg (by rw [hflush]; decide)
  refine ⟨_, hend, ?_⟩
  rw [if_pos rfl, State.kept_peat, State.kept_pwr, State.kept_core]
  exact ⟨rfl, rfl, Jrn.event_durable _ _ _⟩

theorem exec_powerFailFlushDone_of_no_supply :
    exec (.powerFailFlushDone false failed) s = .next (s.kept (({ s.flushDone failed with pwr := { (s.flushDone failed).pwr with dom := [], held := true } } : State).mapCore Core.dark)) :=
  (s.ends_ite_neg (by rw [hflush]; decide)).trans rfl

end

/-! ## Blocks of the NAND (R529 to R532) -/

@[simp] theorem State.nblock_putBlock_same (s : State) (b : Nat) (x : NBlock) : (s.putBlock b x).nblock b = x := by
  unfold State.nblock State.putBlock Tbl.at
  rw [Tbl.find_put_same]
  rfl

theorem State.nblock_putBlock_ne (s : State) {b c : Nat} (x : NBlock) (h : c ≠ b) : (s.putBlock b x).nblock c = s.nblock c := by
  unfold State.nblock State.putBlock Tbl.at
  rw [Tbl.find_put_ne _ _ h]

/-- A block is what manufacture and the peat store say of it. -/
theorem State.nblock_congr {s t : State} (hfix : t.fix = s.fix) (hpeat : t.peat = s.peat) (b : Nat) : t.nblock b = s.nblock b := by
  unfold State.nblock
  rw [hfix, hpeat]

theorem Core.irq_jrn (c : Core) (i : Irq) : (c.irq i).jrn = c.jrn := by
  unfold Core.irq
  split <;> rfl

/-- A retired block is bad; retiring leaves the journal and the count of uncorrectable reads. -/
theorem State.retire_marks (s : State) {b spare : Nat} (h : b ≠ spare) : ((s.retire b spare).nblock b).bad = true ∧ (s.retire b spare).peat.uncorr = s.peat.uncorr ∧ (s.retire b spare).core.jrn = s.core.jrn ∧ (s.retire b spare).fix = s.fix := by
  have hbad : ((s.putBlock b { s.nblock b with bad := true, part := none }).putBlock spare { s.nblock spare with part := (s.nblock b).part }).nblock b = { s.nblock b with bad := true, part := none } := by
    rw [State.nblock_putBlock_ne _ _ h, State.nblock_putBlock_same]
  unfold State.retire
  dsimp only
  split
  · exact ⟨congrArg NBlock.bad hbad, rfl, Core.irq_jrn _ _, rfl⟩
  · exact ⟨congrArg NBlock.bad hbad, rfl, rfl, rfl⟩

/-- The journal's partition without the records of a codeword that was lost (R529). -/
def State.losesRecords (s : State) (records : List Nat) : State :=
  s.mapCore (fun c => { c with jrn := { c.jrn with part := c.jrn.part.filter (fun i => match i with | .record r => !records.contains r.jseq | .seal _ => true) } })

theorem State.mem_losesRecords_part (s : State) (records : List Nat) (r : JRec) : JItem.record r ∈ (s.losesRecords records).core.jrn.part ↔ JItem.record r ∈ s.core.jrn.part ∧ r.jseq ∉ records := by
  change _ ∈ List.filter _ s.core.jrn.part ↔ _
  rw [List.mem_filter]
  simp

/-- A block that fails to read is retired, and its records are lost. -/
theorem State.losesRecords_retire (s : State) {b spare : Nat} (h : b ≠ spare) (records : List Nat) :
    ((s.retire b spare).losesRecords records).peat.uncorr = s.peat.uncorr ∧ (((s.retire b spare).losesRecords records).nblock b).bad = true ∧
      ∀ r : JRec, JItem.record r ∈ ((s.retire b spare).losesRecords records).core.jrn.part ↔ JItem.record r ∈ s.core.jrn.part ∧ r.jseq ∉ records := by
  obtain ⟨hbad, huncorr, hjrn, -⟩ := s.retire_marks h
  refine ⟨huncorr, (congrArg NBlock.bad (State.nblock_congr rfl rfl b)).trans hbad, fun r => ?_⟩
  rw [State.mem_losesRecords_part, hjrn]

theorem State.moveBlock_moves (s : State) {a b : Nat} (hpermits : ∀ n, (s.nblock a).part = some n → s.partPermits n 7 false = true ∧ s.partPermits n 7 true = true) :
    s.moveBlock a b = (s.putBlock b { s.nblock b with part := (s.nblock a).part }).putBlock a { s.nblock a with part := none, erases := (s.nblock a).erases + 1, reads := 0 } := by
  have hgo : (s.nblock a).part.elim true (fun n => s.partPermits n 7 false && s.partPermits n 7 true) = true := by
    cases hpart : (s.nblock a).part with
    | none => rfl
    | some n =>
      obtain ⟨hread, hwrite⟩ := hpermits n hpart
      rw [Option.elim_some, hread, hwrite]
      rfl
  unfold State.moveBlock
  rw [if_neg (by rw [hgo]; decide)]

/-- Settles O51: the flush's end saves and completes; the events of the flash translation layer are one end each of their functions. -/
theorem powerFailAndFlashComplete : Obligations.PowerFailAndFlashComplete := by
  unfold Obligations.PowerFailAndFlashComplete
  refine ⟨?_, ?_, ?_, ?_, ?_, ?_, ?_, ?_, ?_, ?_⟩
  · intro s hflush hshut
    have hfail : s.powerFail = { s with pwr := { s.pwr with admitStopped := true }, peat := { s.peat with flushing := true, failTime := s.core.now }, core := { s.core with jrn := { s.core.jrn with buffer := s.core.jrn.flushing ++ s.core.jrn.buffer, flushing := [] } } } :=
      if_neg (Bool.eq_false_iff.mp hflush)
    have hcut : s.powerFail.cutShutdown = s.powerFail := if_neg (by rw [hfail]; exact Bool.eq_false_iff.mp hshut)
    change s.ends s.powerFail.cutShutdown = _
    rw [hcut, hfail, State.ends_eq]
  · intro s failed hflush
    obtain ⟨t, hend, hpeat, hadmit, hdurable⟩ := exec_powerFailFlushDone_of_supply failed hflush
    obtain ⟨hdone, hsaved, hmax⟩ := State.flushDone_saves failed hflush
    rw [← hpeat] at hdone hsaved
    refine ⟨t, hend, hdone, hsaved, hadmit, ?_⟩
    rw [hdurable, hmax]
    exact (jseq_le_foldl_max _ _).2
  · intro s failed hflush
    refine ⟨_, exec_powerFailFlushDone_of_no_supply failed hflush, (State.flushDone_saves failed hflush).1, rfl, rfl, rfl, rfl, rfl⟩
  · intro s hmgmt hflush hst
    have hgo : ¬ ((s.pwr.mgmtRestarting || s.peat.flushing || s.core.jrn.st == .recovering) = true) := by
      rw [hmgmt, hflush, beq_false_of_ne hst]
      decide
    exact ⟨_, s.ends_ite_neg hgo, rfl, rfl, rfl⟩
  · intro s b sp hb hsp hne
    have hgo : ¬ ((s.nblock b).bad = true ∨ (s.nblock sp).bad = true ∨ b = sp) := by
      rw [hb, hsp]
      simp [hne]
    have hread (records : List Nat) : exec (.nandReadUncorrectable b sp records) s = .next (s.kept ((({ s with peat := { s.peat with uncorr := satInc s.peat.uncorr } } : State).retire b sp).losesRecords records)) := s.ends_ite_neg hgo
    refine ⟨s.ends_ite_neg hgo, fun records => ⟨_, hread records, ?_⟩⟩
    obtain ⟨-, -, -, hfix⟩ := ({ s with peat := { s.peat with uncorr := satInc s.peat.uncorr } } : State).retire_marks hne
    obtain ⟨huncorr, hbad, hrecords⟩ := ({ s with peat := { s.peat with uncorr := satInc s.peat.uncorr } } : State).losesRecords_retire hne records
    refine ⟨huncorr, ?_, hrecords⟩
    rw [State.nblock_congr (s := State.losesRecords _ records) (State.kept_fix s _ |>.trans hfix.symm) (State.kept_peat _ _) b]
    exact hbad
  · intro s b n target hfree hb htarget hne hn
    have hgo : ¬ ((!s.nandFree) = true ∨ (s.nblock b).bad = true ∨ (s.nblock target).bad = true ∨ b = target) := by
      rw [hfree, hb, htarget]
      simp [hne]
    refine (s.ends_ite_neg hgo).trans ?_
    rw [if_neg (not_lt.mpr hn)]
  · intro s b n target hfree hb htarget hne hn
    have hgo : ¬ ((!s.nandFree) = true ∨ (s.nblock b).bad = true ∨ (s.nblock target).bad = true ∨ b = target) := by
      rw [hfree, hb, htarget]
      simp [hne]
    refine (s.ends_ite_neg hgo).trans ?_
    rw [if_pos hn]
  · intro s b target hfree hb htarget hne hreads
    refine s.ends_ite_neg ?_
    rw [hfree, hb, htarget]
    simp [hne, hreads]
  · intro s part a b hfree ha hb hne hpart hbpart hless hspread
    refine s.ends_ite_neg ?_
    rw [hfree, ha, hb, hpart]
    simp only [Bool.not_true, Bool.false_eq_true, hne, ne_eq, not_true_eq_false, false_or]
    rintro (⟨hnone, hsome⟩ | hle | hle)
    · exact hbpart.elim hnone hsome
    · exact absurd hless (not_lt.mpr hle)
    · exact absurd hspread (not_lt.mpr hle)
  · intro s a b hpermits hne
    rw [s.moveBlock_moves hpermits, State.nblock_putBlock_same, State.nblock_putBlock_ne _ _ hne.symm, State.nblock_putBlock_same]
    exact ⟨rfl, rfl, rfl, rfl⟩

end Sys2Proof.Machine
end

section
/-! # The rhizome

A port after a write, a message sent and new paths; links that go down and come up; flits that arrive (R552 to R574). -/
namespace Sys2Proof.Machine

/-! ## Ports, messages and paths -/

@[simp] theorem State.rport_putRport_same (s : State) (n : Nat) (x : RPort) : (s.putRport n x).rport n = x := by
  unfold State.rport State.putRport Tbl.at
  rw [Tbl.find_put_same]
  rfl

theorem State.rport_putRport_ne (s : State) {n m : Nat} (x : RPort) (h : m ≠ n) : (s.putRport n x).rport m = s.rport m := by
  unfold State.rport State.putRport Tbl.at
  rw [Tbl.find_put_ne _ _ h]

theorem State.kept_rport (s t : State) (n : Nat) : (s.kept t).rport n = t.rport n := rfl

section
variable (s : State) {p : Nat} (cls dst : Nat) (payload : List Byte)

theorem State.rhzSend_of_up (hup : (s.rport p).up = true) :
    s.rhzSend p cls dst payload =
      s.putRport p { s.rport p with dir := { (s.rport p).dir with sendSeq := ((s.rport p).dir.sendSeq + 1) % 4096,
                                                                  replay := ((s.rport p).dir.replay ++ [rhzFlit cls 1 (s.rport p).dir.sendSeq dst s.core.pos payload]).drop ((s.rport p).dir.replay.length + 1 - 2048) } } := if_pos hup

theorem State.rport_rhzSend_ne {q : Nat} (h : q ≠ p) : (s.rhzSend p cls dst payload).rport q = s.rport q := by
  unfold State.rhzSend
  dsimp only
  split
  · exact State.rport_putRport_ne _ _ h
  · rfl

/-- A message that is sent touches the port alone. -/
theorem State.part_rhzSend {α : Type} (part : State → α) (hport : ∀ (s : State) (t : Tbl RPort), part { s with rhz := { s.rhz with ports := t } } = part s) : part (s.rhzSend p cls dst payload) = part s := by
  unfold State.rhzSend
  dsimp only
  split
  · exact hport s _
  · rfl

end

/-- New paths touch the broken links and the core. -/
theorem State.part_reroute {α : Type} (part : State → α) (hcore : ∀ (s : State) (k : Core), part { s with core := k } = part s)
    (hpaths : ∀ (s : State) (b : List Nat) (q : Bool), part { s with rhz := { s.rhz with broken := b, split := q } } = part s) (s : State) (broken : List Nat) : part (s.reroute broken) = part s :=
  (State.part_finishWhere part hcore _ _ _).trans ((hcore { s with rhz := { s.rhz with broken := broken, split := decide (2 ≤ broken.length) } } _).trans (hpaths s _ _))

theorem State.rport_reroute (s : State) (broken : List Nat) (n : Nat) : (s.reroute broken).rport n = s.rport n := State.part_reroute (fun t => t.rport n) (fun _ _ => rfl) (fun _ _ _ => rfl) s broken

theorem State.reroute_broken (s : State) (broken : List Nat) : (s.reroute broken).rhz.broken = broken := State.part_finishWhere (fun t => t.rhz.broken) (fun _ _ => rfl) _ _ _

/-! ## Links (R553, R555, R573) -/

/-- A port whose link goes down: its lanes gone, its replay buffer kept. -/
def RPort.cut (x : RPort) : RPort := { x with up := false, lanes := 0, dir := { freshDir with replay := x.dir.replay }, fails := 0 }

/-- A link down at a port, before a wall hears of it: what was cut of a frame is counted, the fault journaled. -/
def State.linkCut (s : State) (p : Nat) : State :=
  ({ s.putRport p (s.rport p).cut with rhz := { (s.putRport p (s.rport p).cut).rhz with
      videoDrop := if !(s.rport p).dir.partMsg.isEmpty && fld (rhzHeader (s.rport p).dir.partMsg) 31 30 == 3 then satInc s.rhz.videoDrop else s.rhz.videoDrop } } : State).mapCore
    (fun c => c.event 0xFEB2 0 (portUnit p) p (le 1 (s.rport p).neighbour))

theorem State.rport_linkCut (s : State) (p : Nat) : (s.linkCut p).rport p = (s.rport p).cut := s.rport_putRport_same p _

/-- The broken links with one more. -/
def brokenWith (broken : List Nat) (l : Nat) : List Nat := if broken.contains l then broken else broken ++ [l]

theorem brokenWith_contains (broken : List Nat) (l : Nat) : (brokenWith broken l).contains l = true := by
  unfold brokenWith
  split
  · assumption
  · simp

theorem State.linkFault_of_up {s : State} {p : Nat} (hup : (s.rport p).up = true) :
    s.linkFault p =
      if s.core.inWall then (((s.linkCut p).mapCore (fun c => c.useFree 56)).rhzSend (1 - p) 1 0 ((s.linkCut p).core.freeBytes 56)).reroute (brokenWith (s.linkCut p).rhz.broken (linkOf s.rhz.members s.core.pos p)) else s.linkCut p :=
  if_neg (by rw [hup]; decide)

theorem State.linkFault_cuts {s : State} {p : Nat} (hp : p < 2) (hup : (s.rport p).up = true) :
    (s.linkFault p).rport p = (s.rport p).cut ∧ (s.core.inWall = true → (s.linkFault p).rhz.broken.contains (linkOf s.rhz.members s.core.pos p) = true) ∧ (s.linkFault p).mem = s.mem := by
  rw [State.linkFault_of_up hup]
  cases hwall : s.core.inWall with
  | false => exact ⟨s.rport_linkCut p, fun h => absurd h Bool.false_ne_true, rfl⟩
  | true =>
    rw [if_pos rfl, State.rport_reroute, State.rport_rhzSend_ne _ _ _ _ (by omega), State.reroute_broken]
    refine ⟨s.rport_linkCut p, fun _ => brokenWith_contains _ _, ?_⟩
    rw [State.part_reroute State.mem (fun _ _ => rfl) (fun _ _ _ => rfl), State.part_rhzSend _ _ _ _ State.mem (fun _ _ => rfl)]
    rfl

theorem State.linkFault_of_down {s : State} {p : Nat} (hdown : (s.rport p).up = false) : s.linkFault p = s := if_pos (by rw [hdown]; rfl)

section
variable {s : State} {n neighbour lo hi : Nat}

/-- A link that trains at a common version is up on four lanes (R555). -/
theorem exec_rhzLinkUp_of_common (hn : n < 2) (hdown : (s.rport n).up = false) (henable : (s.rport n).enable = true) (hactive : s.isActive (portUnit n) = true) {v : Nat} (hv : commonVersion 0x10 0x11 lo hi = some v) :
    ∃ t, exec (.rhzLinkUp n neighbour lo hi) s = .next t ∧
      t.rport n = { s.rport n with up := true, major := v / 16, minor := v % 16, neighbour := neighbour % 16, lanes := 15, dir := { freshDir with replay := (s.rport n).dir.replay }, fails := 0 } := by
  have hgo : ¬ (2 ≤ n ∨ (s.rport n).up = true ∨ (!(s.rport n).enable) = true ∨ (!s.isActive (portUnit n)) = true) := by
    rw [hdown, henable, hactive]
    simp [not_le.mpr hn]
  have hend : exec (.rhzLinkUp n neighbour lo hi) s = .next (s.kept _) := s.ends_ite_neg hgo
  refine ⟨_, hend, ?_⟩
  simp only [hv]
  split
  · exact s.rport_putRport_same n _
  · exact (State.rport_reroute _ _ n).trans (s.rport_putRport_same n _)

theorem exec_rhzLinkUp_of_no_version (hv : commonVersion 0x10 0x11 lo hi = none) : exec (.rhzLinkUp n neighbour lo hi) s = .next (s.kept s) := by
  change s.ends _ = _
  rw [State.ends_eq]
  simp only [hv, ite_self]

/-! ## Flits (R552, R553, R556) -/

variable {flit : List Byte} {msg : RhzMsg}

theorem exec_rhzFlitReceive_eq (hn : n < 2) : exec (.rhzFlitReceive n flit msg) s = .next (s.kept (s.rhzReceive n flit msg)) := s.ends_ite_pos hn

theorem State.rhzReceive_of_bad (hup : (s.rport n).up = true) (hbad : rhzOk flit = false) (hfirst : (s.rport n).dir.dropping = false) :
    s.rhzReceive n flit msg = ({ s with rhz := { s.rhz with crcErr := Tbl.inc s.rhz.crcErr n } } : State).putRport n { s.rport n with fails := 0, dir := { (s.rport n).dir with dropping := true } } := by
  unfold State.rhzReceive
  simp only [hup, hbad, hfirst, Bool.not_true, Bool.not_false, Bool.false_eq_true, if_false, if_true, if_neg (by decide : ¬ 3 ≤ 0)]

theorem State.rhzReceive_of_out_of_order (hup : (s.rport n).up = true) (hok : rhzOk flit = true) (hkind : fld (rhzHeader flit) 29 28 < 2) (hseq : fld (rhzHeader flit) 27 16 ≠ (s.rport n).dir.expect) :
    s.rhzReceive n flit msg = s.putRport n { s.rport n with dir := { (s.rport n).dir with dropping := true } } := by
  unfold State.rhzReceive
  dsimp only
  rw [if_neg (by rw [hup]; decide), if_neg (by rw [hok]; decide), if_neg (by omega), if_neg (by omega), if_pos hseq]

/-- The port after a flit in order that ends its message. -/
def RPort.takes (x : RPort) : RPort := { x with fails := 0, dir := { x.dir with expect := (x.dir.expect + 1) % 4096, dropping := false, sinceAck := x.dir.sinceAck + 1, partMsg := [] } }

/-- A flit in order that ends its message is passed on where it is for another device, and taken where it is for this one. -/
theorem State.rhzReceive_of_in_order (hup : (s.rport n).up = true) (hok : rhzOk flit = true) (hkind : fld (rhzHeader flit) 29 28 = 1) (hseq : fld (rhzHeader flit) 27 16 = (s.rport n).dir.expect) :
    s.rhzReceive n flit msg =
      (let s1 := s.putRport n (s.rport n).takes
       let s2 : State := if fld (rhzHeader flit) 15 12 != s.core.pos || msgToAll msg then { s1 with rhz := { s1.rhz with passed := s1.rhz.passed ++ [(1 - n, flit)] } } else s1
       if fld (rhzHeader flit) 15 12 == s.core.pos || msgToAll msg then s2.rhzTake (fld (rhzHeader flit) 11 8) msg else s2) := by
  unfold State.rhzReceive
  dsimp only
  rw [if_neg (by rw [hup]; decide), if_neg (by rw [hok]; decide), if_neg (by omega), if_neg (by omega), if_neg (not_not.mpr hseq)]
  have hends : ¬ fld (rhzHeader flit) 29 28 = 0 := by omega
  simp only [if_neg hends]
  rfl

end

/-! ## The beacon (R559) -/

/-- A port after a beacon of the master. -/
def RPort.beacons (x : RPort) (pos : Nat) (payload : List Byte) : RPort :=
  { x with dir := { x.dir with sendSeq := (x.dir.sendSeq + 1) % 4096, replay := (x.dir.replay ++ [rhzFlit 0 1 x.dir.sendSeq 0 pos payload]).drop (x.dir.replay.length + 1 - 2048) } }

theorem RPort.beacons_dir (x : RPort) (pos : Nat) (payload : List Byte) :
    (x.beacons pos payload).dir.sendSeq = (x.dir.sendSeq + 1) % 4096 ∧ (x.beacons pos payload).dir.replay = (x.dir.replay ++ [rhzFlit 0 1 x.dir.sendSeq 0 pos payload]).drop (x.dir.replay.length + 1 - 2048) := by
  simp only [RPort.beacons, and_self]

theorem exec_masterBeacon_of_master {s : State} (hwall : s.core.inWall = true) (hmaster : s.core.wallMaster = true) (hup : ∀ n, n < 2 → (s.rport n).up = true) :
    exec .masterBeacon s = .next (s.kept (((s.mapCore (fun c => c.useFree 56)).putRport 0 ((s.rport 0).beacons s.core.pos (s.core.freeBytes 56))).putRport 1 ((s.rport 1).beacons s.core.pos (s.core.freeBytes 56)))) := by
  have hone (x : RPort) : ((s.mapCore (fun c => c.useFree 56)).putRport 0 x).rport 1 = s.rport 1 := State.rport_putRport_ne _ _ (by decide)
  have hgo : (s.core.inWall && s.core.wallMaster) = true := by
    rw [hwall, hmaster]
    rfl
  refine (s.ends_ite_pos hgo).trans ?_
  rw [State.rhzSend_of_up (s.mapCore fun c => c.useFree 56) (p := 0) 0 0 _ (hup 0 (by decide)), State.rhzSend_of_up (State.putRport _ 0 _) (p := 1) 0 0 _ ((congrArg RPort.up (hone _)).trans (hup 1 (by decide))), hone]
  rfl

/-- Settles O52: the commands are the branches of their meanings; links, flits and the beacon change the ports their equations say. -/
theorem rhizomeComplete : Obligations.RhizomeComplete := by
  unfold Obligations.RhizomeComplete
  refine ⟨?_, ?_, ?_, ?_, ?_, ?_, ?_, ?_, ?_, ?_, ?_, ?_, ?_⟩
  · exact cmdWallSet.serves_of _ _ _ (fun _ _ => rfl) fun z w p hrole _ => ⟨by simp only [cmdWallSet, if_neg hrole], rfl⟩
  · exact cmdRhzPortSet.serves_of _ _ _ (fun _ _ => rfl) fun z w p hon _ => ⟨by simp only [cmdRhzPortSet, hon, if_true]; rfl, rfl⟩
  · refine cmdRhzPortSet.serves_of _ _ _ (fun _ _ => rfl) fun z w p hg _ => ?_
    obtain ⟨hoff, hdown⟩ := hg
    exact ⟨by simp only [cmdRhzPortSet, hoff, Bool.false_eq_true, if_false, State.linkFault_of_down hdown]; rfl, rfl⟩
  · refine cmdRhzPortSet.serves_of _ _ _ (fun _ _ => rfl) fun z w p hg _ => ?_
    obtain ⟨hoff, -⟩ := hg
    exact ⟨by simp only [cmdRhzPortSet, hoff, Bool.false_eq_true, if_false], rfl⟩
  · exact cmdWallStatus.answers_of _ _ _ (fun _ _ => rfl) fun _ _ _ _ _ => rfl
  · intro s n hn hup
    have hend : exec (.rhzLinkDown n) s = .next (s.kept (s.linkFault n)) := s.ends_ite_pos hn
    exact ⟨_, hend, State.linkFault_cuts hn hup⟩
  · intro s n neighbour lo hi hn hdown henable hactive hversion
    obtain ⟨t, hend, hport⟩ := exec_rhzLinkUp_of_common (neighbour := neighbour) hn hdown henable hactive (v := min 0x11 hi) (if_pos hversion)
    refine ⟨t, hend, ?_⟩
    rw [hport]
    exact ⟨rfl, rfl, rfl, rfl, rfl, rfl⟩
  · exact fun _ _ _ _ _ hnone => exec_rhzLinkUp_of_no_version (if_neg (not_le.mpr hnone))
  · intro s n flit msg hn hup hbad hfirst
    refine ⟨_, exec_rhzFlitReceive_eq hn, ?_⟩
    rw [State.rhzReceive_of_bad hup hbad hfirst]
    exact ⟨State.rport_putRport_same _ n _, rfl⟩
  · intro s n flit msg hn hup hok hkind hseq
    rw [exec_rhzFlitReceive_eq hn, State.rhzReceive_of_out_of_order hup hok hkind hseq]
  · intro s n flit inst slice p hn hup hok hkind hseq hmine
    refine ⟨_, exec_rhzFlitReceive_eq hn, ?_⟩
    rw [State.rhzReceive_of_in_order hup hok hkind hseq, hmine]
    dsimp only [msgToAll]
    rw [bne_self_eq_false, beq_self_eq_true]
    have hport := s.rport_putRport_same n (s.rport n).takes
    exact ⟨rfl, congrArg (fun x => x.dir.expect) hport, congrArg RPort.fails hport, rfl⟩
  · intro s n flit msg hn hup hok hkind hseq hother hone
    refine ⟨_, exec_rhzFlitReceive_eq hn, ?_⟩
    rw [State.rhzReceive_of_in_order hup hok hkind hseq, hone, bne_iff_ne.mpr hother, beq_false_of_ne hother]
    have hport := s.rport_putRport_same n (s.rport n).takes
    exact ⟨rfl, congrArg (fun x => x.dir.expect) hport, rfl⟩
  · intro s hwall hmaster hup
    refine ⟨_, exec_masterBeacon_of_master hwall hmaster hup, fun n hn => ?_⟩
    have hzero : (((s.mapCore (fun c => c.useFree 56)).putRport 0 ((s.rport 0).beacons s.core.pos (s.core.freeBytes 56))).putRport 1 ((s.rport 1).beacons s.core.pos (s.core.freeBytes 56))).rport 0 = (s.rport 0).beacons s.core.pos (s.core.freeBytes 56) :=
      (State.rport_putRport_ne _ _ (by decide)).trans (State.rport_putRport_same _ _ _)
    have hone := State.rport_putRport_same ((s.mapCore (fun c => c.useFree 56)).putRport 0 ((s.rport 0).beacons s.core.pos (s.core.freeBytes 56))) 1 ((s.rport 1).beacons s.core.pos (s.core.freeBytes 56))
    interval_cases n
    · rw [State.kept_rport, hzero]
      exact RPort.beacons_dir _ _ _
    · rw [State.kept_rport, hone]
      exact RPort.beacons_dir _ _ _

end Sys2Proof.Machine
end

section
/-! # The forerunner compatibility path

A command of a 1.x session acts as its command of Table 2.14 on the converted packet (R76 to R80). -/
namespace Sys2Proof.Machine

section
variable {base : Cmd} {op : Nat} {conv : State → Packet → Option Packet} {keeps : State → Who → Packet → Bool} {z : State} {p q : Packet} (w : Who)

theorem compatCmd_run_of_some (h : conv z p = some q) : (compatCmd base op conv keeps).run z w p = base.run z w q := by
  simp only [compatCmd, h, Option.elim_some]

/-- The check of MODE leaves the meaning alone (R489). -/
theorem matched44_compatCmd_run_of_some (h : conv z p = some q) : (matched44 (compatCmd base op conv keeps)).run z w p = base.run z w q := compatCmd_run_of_some (op := op) (keeps := keeps) w h

theorem compatCmd_ask_of_some (h : conv z p = some q) : (compatCmd base op conv keeps).ask z w p = base.ask z w q := by
  simp only [compatCmd, h, Option.elim_some]

end

section
variable {z : State} (w : Who) {p q : Packet}

/-! ## Surfaces -/

/-- The surface that fits is entered under the lowest free FDX-4410 index. -/
theorem cmdCompatSurfaceRegister_run_of_fits {a n i : Nat} (hmirror : bitOf (pkW p 0) 19 = false) (hfree : z.core.free44 65536 0 = some i)
    (ha : z.srf.firstFit (pkF p 0 5 0) (pkF p 0 18 18) (regShape p).units = some a) (hn : Tbl.lowestFree z.srf.surfs (2 ^ 20) 0 = some n) :
    cmdCompatSurfaceRegister.run z w p =
      .done ((z.withSurf n ((regShape p).registered (pkF p 0 5 0) (pkF p 0 18 18) a none) (bitOf (pkW p 0) 20)).enter44 (u44 3 i 0) (uKey (z.core.here (surfUnit n))) false)
        (Rsp.ok (u44 3 i 0) (pkF p 0 18 18 * 2 ^ 19 + a) (regShape p).units) := by
  have hrun : cmdSurfaceRegister.run z w p =
      .done (z.withSurf n ((regShape p).registered (pkF p 0 5 0) (pkF p 0 18 18) a none) (bitOf (pkW p 0) 20)) (Rsp.ok (z.core.here (surfUnit n)) (pkF p 0 18 18 * 2 ^ 19 + a) (regShape p).units) := by
    refine (State.register_of_fits _ _ ha hn).trans ?_
    rw [hmirror, if_neg Bool.false_ne_true]
  unfold cmdCompatSurfaceRegister
  dsimp only
  rw [hrun, hfree]
  rfl

/-- A surface that nothing holds is gone at once. -/
theorem cmdSurfaceFree_run_of_free {sf : Surf} (hsf : Tbl.find z.srf.surfs (uNum (pkUnit q)) = some sf) (hlock : sf.locked = false) (hcopy : z.srf.copies.any (fun c => c.surf == uNum (pkUnit q)) = false) :
    cmdSurfaceFree.run z w q = .done (z.dropSurf (uNum (pkUnit q))) (Rsp.ok 0 0x200 0) := by
  simp only [cmdSurfaceFree, surfCmd, freeRun, hsf, hlock, hcopy, Bool.false_eq_true, and_false, or_self, if_false]

/-- A copy whose surface can be read starts. -/
theorem cmdSurfaceCopy_run_of_readable {sf : Surf} {b : Nat} (hsf : z.target q = some sf) (hread : z.readBase sf = some b) :
    cmdSurfaceCopy.run z w q =
      .silent { z with core := { z.core with nextWork := z.core.nextWork + 1 }, srf := { z.srf with copies := z.srf.copies ++
        [{ work := z.core.nextWork, who := w, surf := uNum (pkUnit q), plane := pkF q 0 33 32, toSurface := !bitOf (pkW q 0) 40, iova := pkW q 1, stride := pkF q 2 31 0, x := (rectOf (pkW q 3)).1, y := (rectOf (pkW q 3)).2.1, w := (rectOf (pkW q 3)).2.2.1, h := (rectOf (pkW q 3)).2.2.2 }] } }
        (.work z.core.nextWork) := by
  simp only [cmdSurfaceCopy, surfCmd, copyRun, hsf, hread, Option.isNone_some, Bool.false_eq_true, if_false]
  rfl

/-! ## Layers -/

theorem cmdCompatLayerCommit_run_of_slot {k : Nat} (hq : commit44 z p = some q) (hk : pkSlot q = some k) (hfree : uCls (pkDesc q).source = 0x11 → z.lockFull (uNum (pkDesc q).source) = false) :
    cmdCompatLayerCommit.run z w p =
      .silent (z.commit w (uIdx (pkUnit q)) k ((z.layer (pkUnit q)).elim w.inst Layer.owner) false (pkDesc q)).1 (.work (z.commit w (uIdx (pkUnit q)) k ((z.layer (pkUnit q)).elim w.inst Layer.owner) false (pkDesc q)).2) := by
  have hlayer : uCls (pkUnit q) ≠ 0x20 := by
    unfold pkSlot at hk
    split at hk
    · rename_i h
      rw [h]
      decide
    · cases hk
  change commitRun44 z w p = _
  unfold commitRun44
  simp only [hq, if_neg hlayer, cmdLayerCommit_run_of_slot (by rw [hk]; rfl) hfree, hk, Option.isNone_some]

/-- A layer that a commit creates is entered in the map. -/
theorem cmdCompatLayerCommit_run_of_frond {k : Nat} (hq : commit44 z p = some q) (hfrond : uCls (pkUnit q) = 0x20) (hk : z.pickSlot (uIdx (pkUnit q)) (pkDesc q).scalable = some k)
    (hfree : uCls (pkDesc q).source = 0x11 → z.lockFull (uNum (pkDesc q).source) = false) :
    cmdCompatLayerCommit.run z w p =
      .silent ((z.commit w (uIdx (pkUnit q)) k ((z.layer (pkUnit q)).elim w.inst Layer.owner) true (pkDesc q)).1.enter44 (pkUnit p) (layerUnit (uIdx (pkUnit q)) k) false)
        (.work (z.commit w (uIdx (pkUnit q)) k ((z.layer (pkUnit q)).elim w.inst Layer.owner) true (pkDesc q)).2) := by
  have hslot : pkSlot q = none := if_neg (by rw [hfrond]; decide)
  change commitRun44 z w p = _
  unfold commitRun44
  simp only [hq, if_pos hfrond, hk, cmdLayerCommit_run_of_slot (k := k) (by rw [hslot]; exact hk) hfree, hslot, Option.isNone_none]

/-- The first layer of the first output, which is mapped and has no surface: BAND comes from the output's entry. -/
theorem commit44_of_mapped {e l : CompatEntry} (hset : pkQuery p = false) (hsource : pkF p 0 31 0 = 0) (hunit : pkUnit p = u44 2 0 0) (hout : Tbl.find z.core.compat (u44 1 0 0) = some e) (hlayer : Tbl.find z.core.compat (pkUnit p) = some l) :
    commit44 z p = some (withWord (withUnit p (z.core.here l.unit)) 0 (setFld (setFld (pkW p 0) 31 0 0) 41 40 (if e.bandB then 1 else 2))) := by
  have hkind : ¬ (k44 (pkUnit p) ≠ 2 ∨ (!valid44 (pkUnit p)) = true) := by
    rw [hunit]
    decide
  have hindex : i44 (pkUnit p) = 0 := by
    rw [hunit]
    decide
  have htarget : z.target44 (pkUnit p) e.unit = some (z.core.here l.unit) := by
    unfold State.target44
    rw [hlayer]
  unfold commit44
  simp only [if_neg hkind, hset, Bool.false_eq_true, if_false, hindex, hout, htarget, hsource, if_true]

/-! ## Sound and the journal -/

theorem cmdCompatAudSourceOpen_run_of_some (hq : unit44 z p = some q) : cmdCompatAudSourceOpen.run z w p = cmdAudSourceOpen.run z w q := by
  simp only [cmdCompatAudSourceOpen, matched44, compatCmd, hq, Option.elim_some]

/-- The tail that a packet asks for does not depend on its unit. -/
theorem askTail_withUnit (z : State) (p : Packet) (u : Nat) : askTail z w (withUnit p u) = askTail z w p := rfl

theorem journal44_of_device (z : State) (h : pkUnit p = 0) : journal44 z p = some (withUnit p (z.core.here (uid 0x81 0 0))) := if_pos h

end

/-- Settles O54: each command is its command of Table 2.14 on the converted packet, whose branch the guard opens. -/
theorem compatibilityPathComplete : Obligations.CompatibilityPathComplete := by
  unfold Obligations.CompatibilityPathComplete
  refine ⟨⟨?_, ?_, ?_, ?_, ?_, ?_, ?_, ?_, ?_, ?_, ?_⟩, ?_, ?_, ?_, ?_, ?_, ?_, ?_⟩
  · exact cmdCompatMap.serves_of _ _ _ (fun _ _ => rfl) fun _ _ _ _ _ => ⟨rfl, rfl⟩
  · refine cmdCompatSurfaceRegister.serves_of _ _ _ (fun _ _ => rfl) fun z w p hg _ => ?_
    obtain ⟨hmirror, ⟨i, hfree⟩, a, n, ha, hn⟩ := hg
    simp only [hfree, ha, hn, Option.getD_some]
    exact ⟨cmdCompatSurfaceRegister_run_of_fits w hmirror hfree ha hn, rfl⟩
  · refine cmdCompatSurfaceFree.serves_of _ _ _ (fun _ _ => rfl) fun z w p hg _ => ?_
    obtain ⟨q, hq, ⟨sf, hsf, hlock⟩, hcopy⟩ := hg
    simp only [hq, Option.getD_some]
    exact ⟨(compatCmd_run_of_some w hq).trans (cmdSurfaceFree_run_of_free w hsf hlock hcopy), rfl⟩
  · refine cmdCompatSurfaceCopy.starts_of _ _ _ (fun _ _ => rfl) fun z w p hg _ => ?_
    obtain ⟨q, hq, sf, b, hsf, hread⟩ := hg
    simp only [hq, Option.getD_some]
    exact (compatCmd_run_of_some w hq).trans (cmdSurfaceCopy_run_of_readable w hsf hread)
  · refine cmdCompatSurfacePalette.serves_of _ _ _ (fun _ _ => rfl) fun z w p hg _ => ?_
    obtain ⟨q, hq, bs, hbs⟩ := hg
    simp only [hq, Option.getD_some, hbs]
    exact ⟨(compatCmd_run_of_some w hq).trans (cmdSurfacePalette_run_of_read (State.hostRead_of_ok hbs)), rfl⟩
  · refine cmdCompatLayerCommit.starts_of _ _ _ (fun _ _ => rfl) fun z w p hg _ => ?_
    obtain ⟨q, k, hq, hk, hfree⟩ := hg
    simp only [hq, hk, Option.getD_some]
    exact cmdCompatLayerCommit_run_of_slot w hq hk hfree
  · refine cmdCompatLayerCommit.starts_of _ _ _ (fun _ _ => rfl) fun z w p hg _ => ?_
    obtain ⟨q, k, hq, hfrond, hk, hfree⟩ := hg
    simp only [hq, hk, Option.getD_some]
    exact cmdCompatLayerCommit_run_of_frond w hq hfrond hk hfree
  · exact fun _ _ _ hset hsource hunit hout _ hlayer => commit44_of_mapped hset hsource hunit hout hlayer
  · refine cmdCompatLayerPost.starts_of _ _ _ (fun _ _ => rfl) fun z w p hg _ => ?_
    obtain ⟨q, hq, ⟨l, hl, hr, hposts⟩, hfree⟩ := hg
    simp only [hq, Option.getD_some]
    exact (compatCmd_run_of_some w hq).trans (cmdLayerPost_run_of_room hl hr hposts hfree)
  · refine cmdCompatLayerRemove.starts_of _ _ _ (fun _ _ => rfl) fun z w p hg _ => ?_
    obtain ⟨q, hq, l, hl, hr⟩ := hg
    simp only [hq, Option.getD_some]
    exact (compatCmd_run_of_some w hq).trans (cmdLayerRemove_run_of_present w hl hr)
  · refine cmdCompatOutputStatus.answers_of _ _ _ (fun _ _ => rfl) fun z w p hg _ => ?_
    obtain ⟨q, hq⟩ := Option.isSome_iff_exists.mp hg
    simp only [hq, Option.getD_some]
    exact compatCmd_ask_of_some w hq
  · refine cmdCompatAudSourceOpen.serves_of _ _ _ (fun _ _ => rfl) fun z w p hg _ => ?_
    obtain ⟨q, hq⟩ := Option.isSome_iff_exists.mp hg
    obtain ⟨v, -, rfl⟩ := Option.map_eq_some_iff.mp hq
    simp only [hq, Option.getD_some]
    exact ⟨cmdCompatAudSourceOpen_run_of_some w hq, rfl⟩
  · refine cmdCompatAudSourceClose.serves_of _ _ _ (fun _ _ => rfl) fun z w p hg _ => ?_
    obtain ⟨q, hq⟩ := Option.isSome_iff_exists.mp hg
    simp only [hq, Option.getD_some]
    exact ⟨matched44_compatCmd_run_of_some w hq, rfl⟩
  · refine cmdCompatAudSinkGain.starts_of _ _ _ (fun _ _ => rfl) fun z w p hg _ => ?_
    obtain ⟨-, q, hq⟩ := hg
    simp only [hq, Option.getD_some]
    exact matched44_compatCmd_run_of_some w hq
  · rintro s c w p (rfl | rfl | rfl) hmode
    all_goals exact if_pos hmode
  · exact cmdCompatJournalTail.answers_of _ _ _ (fun _ _ => rfl) fun z w p hunit _ => (compatCmd_ask_of_some w (journal44_of_device z hunit)).trans (askTail_withUnit w z p _)
  · exact cmdCompatJournalSync.serves_of _ _ _ (fun _ _ => rfl) fun z w _ hunit _ => ⟨compatCmd_run_of_some w (journal44_of_device z hunit), rfl⟩
  · exact fun _ => Bool.or_true _

end Sys2Proof.Machine
end

section
/-! # Commands that store nothing

The shared operations of the commands named, each against the memory groups and the surfaces; then the commands, by what each does besides answering (R640). -/
namespace Sys2Proof.Machine

/-! ## The stored state -/

/-- What is stored: the memory groups, and the surfaces with their references, mappings and pools. -/
def State.stored (s : State) : MemSys × Srf := (s.mem, s.srf)

/-- A command whose effect and whose query leave what is stored alone. -/
structure Cmd.StoresNothing (c : Cmd) : Prop where
  run : ∀ s w p, (c.run s w p).state.stored = s.stored
  ask : ∀ s w p, (c.ask s w p).1.stored = s.stored

/-- Whatever the port and whichever check fails, such a command leaves memory and surfaces as they are. -/
theorem Cmd.StoresNothing.keeps {c : Cmd} (h : c.StoresNothing) {port : Port} (s t : State) (hnext : s.ends (c.exec port s) = .next t) : t.mem = s.mem ∧ t.srf = s.srf := by
  have hstored : (c.exec port s).stored = s.stored := c.exec_part State.stored (fun _ _ => rfl) h.run h.ask port s
  obtain ⟨hmem, hsrf⟩ := Prod.mk.inj hstored
  rw [State.ends_eq] at hnext
  cases hnext
  exact ⟨hmem, hsrf⟩

/-! ## Shared operations -/

section
variable (s : State)

@[simp] theorem State.stored_updChan (c : Nat) (f : HChan → HChan) : (s.updChan c f).stored = s.stored := rfl

@[simp] theorem State.stored_hostRead (w : Who) (addr n : Nat) : (s.hostRead w addr n).1.stored = s.stored := State.part_hostRead State.stored s w addr n fun _ => rfl

/-- A write to host memory touches the core alone. -/
@[simp] theorem State.stored_hostWrite (w : Who) (addr : Nat) (bs : List Byte) : (s.hostWrite w addr bs).1.stored = s.stored := by
  unfold State.hostWrite
  split
  · split <;> rfl
  · rfl

/-- An answer is written to the host, or ends as a fault of the core. -/
@[simp] theorem State.stored_answer (w : Who) (addr : Nat) (bs : List Byte) (r : Rsp) : (s.answer w addr bs r).1.stored = s.stored := by
  have hwrite := s.stored_hostWrite w addr bs
  unfold State.answer
  split
  all_goals
    rename_i heq
    rw [heq] at hwrite
    exact hwrite

@[simp] theorem State.stored_answerWords (w : Who) (p : Packet) (ws : List Word64) : (s.answerWords w p ws).1.stored = s.stored := s.stored_answer w _ _ _

@[simp] theorem State.stored_finishWork (n : Nat) (r : Rsp) : (s.finishWork n r).stored = s.stored := State.part_finishWhere State.stored (fun _ _ => rfl) s _ _

end

/-! ## Tags and expectations -/

theorem State.stored_bindEr (s : State) (n : Nat) : (s.bindEr n).stored = s.stored := by
  unfold State.bindEr
  split <;> rfl

theorem State.stored_reapTag (s : State) (n : Nat) : (s.reapTag n).stored = s.stored := by
  unfold State.reapTag
  split
  · rfl
  · split_ifs <;> rfl

@[simp] theorem State.stored_setTagGroup (s : State) (u owner : Nat) (members : List Nat) : (s.setTagGroup u owner members).stored = s.stored :=
  (foldl_keeps State.stored State.stored_reapTag _ _).trans (foldl_keeps State.stored State.stored_bindEr _ _)

/-- Expected values are queued in the signature regions and counted where late. -/
@[simp] theorem State.stored_expectAll (s : State) (w : Who) (p : Packet) (n : Nat) : (s.expectAll w p n).1.stored = s.stored := by
  refine foldl_keeps (fun a : State × Nat × Option (Nat × Nat) => a.1.stored) (fun a i => ?_) (List.range n) (s, 0, none)
  dsimp only
  split_ifs <;> rfl

/-! ## Effects and sets that another one replaces -/

section
variable (s : State) (c : Nat) (t : HTrig)

@[simp] theorem State.stored_endTrig (r : Rsp) : (s.endTrig t r).stored = s.stored := by
  unfold State.endTrig
  split_ifs
  · rfl
  · exact s.stored_finishWork _ _

@[simp] theorem State.stored_startEffect (now : Nat) : (s.startEffect c t now).stored = s.stored := by
  unfold State.startEffect
  dsimp only
  split_ifs <;> simp

/-- The trigger that an effect displaces is dropped or ends. -/
theorem State.stored_displace (r : Rsp) (f : HChan → HChan) : (if t.work = 0 then s.updChan c f else s.endTrig t r).stored = s.stored := by
  split_ifs <;> simp

@[simp] theorem State.stored_waitTrig : (s.waitTrig c t).stored = s.stored := by
  unfold State.waitTrig
  dsimp only
  rw [State.stored_updChan]
  split
  · exact s.stored_displace c _ _ _
  · rfl

@[simp] theorem State.stored_cutIn : (s.cutIn c t).stored = s.stored := by
  have hcut : ∀ d : State, d.stored = s.stored →
      (if (s.chan c).listening then
        match (s.chan c).cur with
        | some e => (d.updChan c (fun x => { x with cur := none })).endTrig e ((s.chan c).rsp 4)
        | none => d
      else d).stored = s.stored := by
    intro d hd
    split_ifs
    · split <;> simp [hd]
    · exact hd
  unfold State.cutIn
  refine hcut _ ?_
  rw [State.stored_updChan]
  split
  · exact s.stored_displace c _ _ _
  · rfl

@[simp] theorem State.stored_trigger : (s.trigger c t).stored = s.stored := by
  unfold State.trigger
  dsimp only
  split_ifs <;> simp

@[simp] theorem State.stored_chanUpdate : (s.chanUpdate c).stored = s.stored := by
  unfold State.chanUpdate
  extract_lets h refuse s1 s2 s3 s4
  have hrefuse : ∀ (d : State) (o : Option HTrig), (refuse d o).stored = d.stored := by
    intro d o
    cases o with
    | none => rfl
    | some q => exact d.stored_displace c q _ _
  have hs1 : s1.stored = s.stored := by
    cases hcur : h.cur with
    | none => simp [s1, hcur]
    | some q => simp [s1, hcur]
  have hs3 : s3.stored = s2.stored := by
    cases hscan : h.scan with
    | none => simp [s3, hscan]
    | some q => simp [s3, hscan]
  have hs4 : s4.stored = s.stored := calc
    s4.stored = s2.stored := hs3
    _ = s1.stored := (hrefuse _ _).trans (hrefuse _ _)
    _ = s.stored := hs1
  split
  · split_ifs <;> simp [hs4]
  · split_ifs <;> simp [hs4]

end

@[simp] theorem State.stored_replaceSet (s : State) (old : Option ASet) : (s.replaceSet old).stored = s.stored := by
  cases old with
  | none => rfl
  | some o => exact s.stored_finishWork _ _

@[simp] theorem State.stored_handOver (s : State) (t k inst work : Nat) : (s.handOver t k inst work).1.stored = s.stored := State.stored_finishWork _ _ _

/-! ## The commands -/

/-- A command without an effect of its own stores nothing where its query does not. -/
theorem Cmd.storesNothing_of_query {c : Cmd} (hrun : c.run = noRun) (hask : ∀ s w p, (c.ask s w p).1.stored = s.stored) : c.StoresNothing :=
  ⟨fun _ _ _ => by rw [hrun]; rfl, hask⟩

/-- A command without a query form stores nothing where its effect does not. -/
theorem Cmd.storesNothing_of_set {c : Cmd} (hrun : ∀ s w p, (c.run s w p).state.stored = s.stored) (hask : c.ask = noAsk) : c.StoresNothing :=
  ⟨hrun, fun _ _ _ => by rw [hask]; rfl⟩

/-- A command that may be set, and whose query answers the words in force (R640). -/
theorem Cmd.storesNothing_of_words {c : Cmd} (hrun : ∀ s w p, (c.run s w p).state.stored = s.stored) (hask : ∀ s w p, ∃ ws, c.ask s w p = s.answerWords w p ws) : c.StoresNothing where
  run := hrun
  ask s w p := by
    obtain ⟨ws, h⟩ := hask s w p
    rw [h, State.stored_answerWords]

theorem cmdNegotiate_storesNothing : cmdNegotiate.StoresNothing := by
  refine Cmd.storesNothing_of_set (fun s w p => ?_) rfl
  change (negotiateRun s w p).state.stored = _
  unfold negotiateRun
  split
  · rfl
  · split
    · rfl
    · split
      · rfl
      · dsimp only
        split
        · rfl
        · exact State.stored_answer _ _ _ _ _

theorem cmdJournalExportBegin_storesNothing : cmdJournalExportBegin.StoresNothing := by
  refine Cmd.storesNothing_of_set (fun s w p => ?_) rfl
  dsimp only [cmdJournalExportBegin]
  split <;> rfl

theorem cmdJournalExportRead_storesNothing : cmdJournalExportRead.StoresNothing := by
  refine Cmd.storesNothing_of_query rfl fun s w p => ?_
  dsimp only [cmdJournalExportRead, journalQuery]
  split
  · rfl
  · exact s.stored_answer _ _ _ _

theorem cmdAdmissionStatus_storesNothing : cmdAdmissionStatus.StoresNothing := by
  refine Cmd.storesNothing_of_query rfl fun s w p => ?_
  dsimp only [cmdAdmissionStatus]
  split
  · rfl
  · exact s.stored_answer _ _ _ _

theorem cmdTagCreate_storesNothing : cmdTagCreate.StoresNothing := by
  refine Cmd.storesNothing_of_set (fun s w p => ?_) rfl
  dsimp only [cmdTagCreate, State.secDelay]
  split
  · rfl
  · split <;> rfl

theorem cmdTagGroupSet_storesNothing : cmdTagGroupSet.StoresNothing where
  run s w p := by
    have hread := s.stored_hostRead w (pkW p 1) (4 * pkF p 0 10 0)
    dsimp only [cmdTagGroupSet]
    split
    all_goals
      rename_i heq
      rw [heq] at hread
    · exact hread
    · exact (State.stored_setTagGroup _ _ _ _).trans hread
  ask s _ _ := s.stored_answer _ _ _ _

theorem cmdSigExpect_storesNothing : cmdSigExpect.StoresNothing := by
  refine Cmd.storesNothing_of_set (fun s w p => ?_) rfl
  dsimp only [cmdSigExpect]
  split
  · rfl
  · exact s.stored_expectAll _ _ _

theorem cmdSigStatus_storesNothing : cmdSigStatus.StoresNothing := by
  refine Cmd.storesNothing_of_query rfl fun s w p => ?_
  dsimp only [cmdSigStatus]
  split <;> rfl

theorem cmdTouchHandover_storesNothing : cmdTouchHandover.StoresNothing := by
  refine Cmd.storesNothing_of_set (fun s w p => ?_) rfl
  dsimp only [cmdTouchHandover]
  split
  · exact State.stored_handOver _ _ _ _ _
  · split <;> rfl

theorem cmdTouchRebase_storesNothing : cmdTouchRebase.StoresNothing := by
  refine Cmd.storesNothing_of_set (fun s w p => ?_) rfl
  dsimp only [cmdTouchRebase]
  split
  · rfl
  · split <;> rfl

theorem cmdHapPlay_storesNothing : cmdHapPlay.StoresNothing := by
  refine Cmd.storesNothing_of_set (fun s w p => ?_) rfl
  dsimp only [cmdHapPlay]
  split
  · rfl
  · split
    · rfl
    · split
      · rfl
      · exact State.stored_trigger _ _ _

theorem cmdHapScan_storesNothing : cmdHapScan.StoresNothing := by
  refine Cmd.storesNothing_of_set (fun s w p => ?_) rfl
  dsimp only [cmdHapScan]
  split <;> rfl

theorem cmdAudAssign_storesNothing : cmdAudAssign.StoresNothing where
  run s w p := by
    dsimp only [cmdAudAssign, Verdict.state]
    split <;> rfl
  ask s _ _ := s.stored_answerWords _ _ _

theorem cmdAudHeadsetSet_storesNothing : cmdAudHeadsetSet.StoresNothing where
  run s w p := by
    dsimp only [cmdAudHeadsetSet]
    split
    · rfl
    · dsimp only [Verdict.state]
      split_ifs <;> rfl
  ask s _ _ := s.stored_answerWords _ _ _

theorem cmdPwrSensorRead_storesNothing : cmdPwrSensorRead.StoresNothing := by
  refine Cmd.storesNothing_of_query rfl fun s w p => ?_
  dsimp only [cmdPwrSensorRead]
  split <;> rfl

/-- Stored bytes are read where the partition allows it, and a denied read is counted. -/
theorem State.stored_readStored (s : State) (w : Who) (p : Packet) (part : Nat) (held : Option (List Byte × Nat)) : (s.readStored w p part held).1.stored = s.stored := by
  unfold State.readStored
  split
  · rfl
  · split
    · rfl
    · exact s.stored_answer _ _ _ _

theorem cmdPeatLogRead_storesNothing : cmdPeatLogRead.StoresNothing := by
  refine Cmd.storesNothing_of_query rfl fun s w p => ?_
  dsimp only [cmdPeatLogRead, peatQuery]
  split
  · rfl
  · exact s.stored_answer _ _ _ _

/-- Settles O55: each named command's effect and query leave the memory groups and the surfaces alone, and the core's checks around them touch neither. -/
theorem commandsThatStoreNothing : Obligations.CommandsThatStoreNothing := by
  unfold Obligations.CommandsThatStoreNothing
  intro port
  simp only [List.forall_mem_cons]
  exact ⟨
    (Cmd.storesNothing_of_query (c := cmdNop) rfl fun _ _ _ => rfl).keeps,
    cmdNegotiate_storesNothing.keeps,
    (Cmd.storesNothing_of_query (c := cmdJournalTail) rfl fun s _ _ => s.stored_answer _ _ _ _).keeps,
    (Cmd.storesNothing_of_query (c := cmdJournalSync) rfl fun _ _ _ => rfl).keeps,
    cmdJournalExportBegin_storesNothing.keeps,
    cmdJournalExportRead_storesNothing.keeps,
    (Cmd.storesNothing_of_set (c := cmdJournalExportAck) (fun _ _ _ => rfl) rfl).keeps,
    (Cmd.storesNothing_of_query (c := cmdJournalStatus) rfl fun _ _ _ => rfl).keeps,
    cmdAdmissionStatus_storesNothing.keeps,
    (Cmd.storesNothing_of_set (c := cmdGroupCreate) (fun _ _ _ => rfl) rfl).keeps,
    cmdTagCreate_storesNothing.keeps,
    (Cmd.StoresNothing.mk (c := cmdTagSet) (fun _ _ _ => rfl) fun _ _ _ => State.stored_answer _ _ _ _ _).keeps,
    cmdTagGroupSet_storesNothing.keeps,
    (Cmd.storesNothing_of_query (c := cmdLedgerStatus) rfl fun _ _ _ => rfl).keeps,
    cmdSigExpect_storesNothing.keeps,
    cmdSigStatus_storesNothing.keeps,
    (Cmd.storesNothing_of_words (c := cmdStreamDeclare) (fun _ _ _ => rfl) fun _ _ _ => ⟨_, rfl⟩).keeps,
    (Cmd.storesNothing_of_query (c := cmdStreamStatus) rfl fun _ _ _ => rfl).keeps,
    (Cmd.storesNothing_of_words (c := cmdPtpSet) (fun _ _ _ => rfl) fun _ _ _ => ⟨_, rfl⟩).keeps,
    (Cmd.storesNothing_of_words (c := cmdTouchRegionSet) (fun _ _ _ => rfl) fun _ _ _ => ⟨_, rfl⟩).keeps,
    cmdTouchHandover_storesNothing.keeps,
    (Cmd.storesNothing_of_words (c := cmdTouchSubscribe) (fun _ _ _ => rfl) fun _ _ _ => ⟨_, rfl⟩).keeps,
    cmdTouchRebase_storesNothing.keeps,
    (Cmd.storesNothing_of_query (c := cmdTouchStatus) rfl fun _ _ _ => rfl).keeps,
    (Cmd.StoresNothing.mk (c := cmdHapChannelSet) (fun _ _ _ => State.stored_chanUpdate _ _) fun _ _ _ => State.stored_answerWords _ _ _ _).keeps,
    (Cmd.storesNothing_of_words (c := cmdHapEffectSet) (fun _ _ _ => rfl) fun _ _ _ => ⟨_, rfl⟩).keeps,
    cmdHapPlay_storesNothing.keeps,
    (Cmd.storesNothing_of_set (c := cmdHapStop) (fun _ _ _ => rfl) rfl).keeps,
    (Cmd.storesNothing_of_words (c := cmdHapTouchBind) (fun _ _ _ => rfl) fun _ _ _ => ⟨_, rfl⟩).keeps,
    cmdHapScan_storesNothing.keeps,
    (Cmd.storesNothing_of_set (c := cmdHapClear) (fun _ _ _ => rfl) rfl).keeps,
    (Cmd.storesNothing_of_query (c := cmdHapStatus) rfl fun _ _ _ => rfl).keeps,
    (Cmd.storesNothing_of_words (c := cmdAudModeSet) (fun _ _ _ => rfl) fun _ _ _ => ⟨_, rfl⟩).keeps,
    (Cmd.storesNothing_of_words (c := cmdAudSourceOpen) (fun _ _ _ => rfl) fun _ _ _ => ⟨_, rfl⟩).keeps,
    (Cmd.storesNothing_of_set (c := cmdAudSourceClose) (fun _ _ _ => rfl) rfl).keeps,
    (Cmd.StoresNothing.mk (c := cmdAudBusSet) (fun _ _ _ => State.stored_replaceSet _ _) fun _ _ _ => State.stored_answerWords _ _ _ _).keeps,
    (Cmd.StoresNothing.mk (c := cmdAudSinkSet) (fun _ _ _ => State.stored_replaceSet _ _) fun _ _ _ => State.stored_answerWords _ _ _ _).keeps,
    (Cmd.storesNothing_of_set (c := cmdAudApply) (fun _ _ _ => rfl) rfl).keeps,
    (Cmd.storesNothing_of_words (c := cmdAudTdmSet) (fun _ _ _ => rfl) fun _ _ _ => ⟨_, rfl⟩).keeps,
    cmdAudAssign_storesNothing.keeps,
    cmdAudHeadsetSet_storesNothing.keeps,
    (Cmd.storesNothing_of_query (c := cmdAudStatus) rfl fun _ _ _ => rfl).keeps,
    (Cmd.storesNothing_of_query (c := cmdMeasureRead) rfl fun s _ _ => s.stored_answer _ _ _ _).keeps,
    (Cmd.storesNothing_of_query (c := cmdSecStatus) rfl fun _ _ _ => rfl).keeps,
    (Cmd.storesNothing_of_query (c := cmdDebugStatus) rfl fun _ _ _ => rfl).keeps,
    (Cmd.storesNothing_of_query (c := cmdPeatStatus) rfl fun _ _ _ => rfl).keeps,
    (Cmd.storesNothing_of_query (c := cmdPeatCaptureRead) rfl fun s w p => s.stored_readStored w p _ _).keeps,
    (Cmd.storesNothing_of_words (c := cmdPeatRetainSet) (fun _ _ _ => rfl) fun _ _ _ => ⟨_, rfl⟩).keeps,
    (Cmd.storesNothing_of_query (c := cmdPeatDumpRead) rfl fun s w p => s.stored_readStored w p _ _).keeps,
    cmdPeatLogRead_storesNothing.keeps,
    (Cmd.storesNothing_of_words (c := cmdWallSet) (fun _ _ _ => rfl) fun _ _ _ => ⟨_, rfl⟩).keeps,
    (Cmd.storesNothing_of_query (c := cmdWallStatus) rfl fun _ _ _ => rfl).keeps,
    (Cmd.storesNothing_of_query (c := cmdPwrStatus) rfl fun _ _ _ => rfl).keeps,
    cmdPwrSensorRead_storesNothing.keeps,
    (Cmd.storesNothing_of_query (c := cmdChkStatus) rfl fun _ _ _ => rfl).keeps,
    (Cmd.storesNothing_of_query (c := cmdRasterStatus) rfl fun _ _ _ => rfl).keeps,
    (Cmd.storesNothing_of_query (c := cmdOutputStatus) rfl fun _ _ _ => rfl).keeps,
    (Cmd.storesNothing_of_query (c := cmdPatrolStatus) rfl fun _ _ _ => rfl).keeps,
    fun _ hmem => absurd hmem List.not_mem_nil⟩

end Sys2Proof.Machine
end
